-- ==== Sys2Proof/Word.lean ====
section
/-! DEFINITION. The words of the device and the numbered places it keeps things in: octets, sixteen-bit
fields, the numbers of cranes, sectors, profiles, beacon lines and links, and banks of a fixed number of
like records. -/

namespace Sys2Proof

/-- One octet of a frame (R151). -/
abbrev Byte := BitVec 8

/-- One two-octet field of a frame, an event argument or a booking id. -/
abbrev Half := BitVec 16

/-- A crane's number, 0 to 7 (Numbering). -/
abbrev Crane := Fin 8

/-- A sector's number, 0 to 15 (Numbering). -/
abbrev Sector := Fin 16

/-- A wind profile's number, 0 to 3 (Numbering). -/
abbrev ProfileNo := Fin 4

/-- A beacon line's number, B0 to B7 (Numbering). -/
abbrev BeaconLine := Fin 8

/-- A link's number: 0 to 7 for L0 to L7, 8 for the site link LS (R154). -/
abbrev Link := Fin 9

/-- The site link LS. -/
def siteLink : Link := 8

/-- The crane link that serves crane `c` has the crane's number. -/
def linkOf (c : Crane) : Link := c.castSucc

/-- The cranes in ascending number. -/
def allCranes : List Crane := [0, 1, 2, 3, 4, 5, 6, 7]

/-- The sectors in ascending number. -/
def allSectors : List Sector := [0, 1, 2, 3, 4, 5, 6, 7, 8, 9, 10, 11, 12, 13, 14, 15]

/-- The beacon lines in ascending number. -/
def allLines : List BeaconLine := [0, 1, 2, 3, 4, 5, 6, 7]

/-- `n` like records, numbered from 0. -/
abbrev Bank (n : Nat) (α : Type) := Vector α n

namespace Bank

variable {n : Nat} {α : Type}

/-- Record `i` of a bank. -/
def read (b : Bank n α) (i : Fin n) : α := b[i.val]

/-- The bank with record `i` replaced by `x`. -/
def write (b : Bank n α) (i : Fin n) (x : α) : Bank n α := Vector.set b i.val x i.isLt

/-- A bank of `n` equal records. -/
def fill (n : Nat) (x : α) : Bank n α := Vector.replicate n x

/-- The bank with `f` applied to every record. -/
def update (f : α → α) (b : Bank n α) : Bank n α :=
  ⟨(b.toArray.toList.map f).toArray, by simp⟩

/-- The bank with `f i` applied to record `i`. -/
def updateAt (f : Fin n → α → α) (b : Bank n α) : Bank n α :=
  ⟨((List.finRange n).map (fun i => f i (b.read i))).toArray, by simp⟩

end Bank

end Sys2Proof
end

