-- ==== Sys2Proof/Syntax.lean ====
section
/-! DEFINITION. The commands of the device: one constructor of `Instr` for each row of
spec/opcode_table.json, with the operands the row's rule gives it. -/

namespace Sys2Proof

/-- The payload of a MOTION frame, field by field (R159, chapter 2). -/
structure MotionFrame where
  seq : Byte
  rawAngle : Half
  radius : Half
  height : Half
  load : Half
  slewOk : Bool
  trolleyOk : Bool
  hoistOk : Bool
  loadOk : Bool
  deriving DecidableEq, Repr

/-- The payload of a WIND frame (R159, chapter 7). -/
structure WindFrame where
  seq : Byte
  speed : Half
  anemometerOk : Bool
  deriving DecidableEq, Repr

/-- The payload of a DEMAND frame; the three demands are signed (R159, chapter 9). -/
structure DemandFrame where
  seq : Byte
  slew : Half
  trolley : Half
  hoist : Half
  deriving DecidableEq, Repr

/-- What one report of the position tracker carries of one crane's standing in one sector (R30). -/
inductive PresenceChange where
  | enter
  | leave
  | obstructLeave
  | obstruct
  | unobstructEnter
  | unobstruct
  deriving DecidableEq, Repr

/-- The six beacon conditions, in the order of R15. -/
inductive BeaconCondition where
  | off
  | alert
  | stop
  | vanePending
  | vane
  | fault
  deriving DecidableEq, Repr

/-- The six states of a booking, in the order of R91. -/
inductive BookingState where
  | waiting
  | active
  | suspended
  | exhausted
  | expired
  | cancelled
  deriving DecidableEq, Repr

/-- A sector's booked claimant: a booking and the crane it names (R59). -/
structure Claimant where
  booking : Half
  crane : Crane
  deriving DecidableEq, Repr

/-- The 22 event kinds, in the order of their codes (R159). -/
inductive EventKind where
  | started
  | armed
  | disarmed
  | positionLost
  | positionRegained
  | range
  | intrusion
  | contested
  | grant
  | release
  | evacuate
  | overstay
  | yield
  | lift
  | bookingState
  | bookedOverload
  | windState
  | windSource
  | vaneReleased
  | vaneBlocked
  | resumed
  | siteHold
  deriving DecidableEq, Repr

/-- What a block posts: the kind, the crane and the sector it names, and the three arguments (R167). -/
structure EventBody where
  kind : EventKind
  crane : Option Crane
  sector : Option Sector
  argA : Half
  argB : Half
  argC : Half
  deriving DecidableEq, Repr

/-- What begins a device reset (R173): the supplies out of range, or RESET_N low for so many nanoseconds. -/
inductive ResetTrigger where
  | powerOn
  | pinLow (nanoseconds : Nat)
  deriving DecidableEq, Repr

/-- The commands. Requests carry their tag and their operand octets as the REQUEST frame holds them (R158). -/
inductive Instr where
  -- frames a crane link has received whole (R152, R153)
  | motion (crane : Crane) (frame : MotionFrame)
  | wind (crane : Crane) (frame : WindFrame)
  | demand (crane : Crane) (frame : DemandFrame)
  | misdirectedFrame (link : Link)
  | lengthError (link : Link) (kind : Byte) (len : Byte)
  | crcError (link : Link) (octets : List Byte)
  -- requests of the site controller (R161)
  | writeSite (tag : Byte) (operands : List Byte)
  | writeCrane (tag : Byte) (operands : List Byte)
  | writeSegments (tag : Byte) (operands : List Byte)
  | writeSector (tag : Byte) (operands : List Byte)
  | writeProfile (tag : Byte) (operands : List Byte)
  | writePattern (tag : Byte) (operands : List Byte)
  | arm (tag : Byte) (operands : List Byte)
  | disarm (tag : Byte) (operands : List Byte)
  | timeSet (tag : Byte) (operands : List Byte)
  | setMask (tag : Byte) (operands : List Byte)
  | bookAdd (tag : Byte) (operands : List Byte)
  | bookCancel (tag : Byte) (operands : List Byte)
  | bookPurge (tag : Byte) (operands : List Byte)
  | sectorClose (tag : Byte) (operands : List Byte)
  | sectorOpen (tag : Byte) (operands : List Byte)
  | vane (tag : Byte) (operands : List Byte)
  | resume (tag : Byte) (operands : List Byte)
  | readCrane (tag : Byte) (operands : List Byte)
  | readSector (tag : Byte) (operands : List Byte)
  | readStatus (tag : Byte) (operands : List Byte)
  | readBooking (tag : Byte) (operands : List Byte)
  | readWind (tag : Byte) (operands : List Byte)
  -- the ends and beginnings of sending (R148, R156)
  | permitSendCompletion (crane : Crane)
  | siteTransmitBegin
  | replyFrameCompletion
  | eventFrameCompletion
  -- what one block tells another
  | eventPosting (body : EventBody)
  | presenceReport (sector : Sector) (crane : Crane) (change : PresenceChange)
  | knock (sector : Sector) (crane : Crane)
  | bookedClaimantChange (sector : Sector) (left : List (Half × BookingState)) (claimant : Option Claimant)
  | lockRequest (sector : Sector) (crane : Crane)
  | unlock (sector : Sector) (crane : Crane)
  | liftAttribution (crane : Crane)
  | bookedLiftCount (booking : Half)
  | loadSample (crane : Crane) (sample : Nat)
  | motionFrameNotice (crane : Crane)
  | limitNotice (crane : Crane)
  | evaluation (crane : Crane)
  | craneConditionChange (crane : Crane)
  | handshakeReport (sector : Sector)
  | beaconConditionChange (crane : Crane) (condition : BeaconCondition)
  -- timer expiries
  | positionStaleExpiry (crane : Crane)
  | windStaleExpiry (crane : Crane)
  | demandTimeoutExpiry (crane : Crane)
  | refreshExpiry (crane : Crane)
  | keepTimerExpiry (sector : Sector) (crane : Crane)
  | clearingExpiry (sector : Sector)
  | holdTimerExpiry (sector : Sector)
  | recoveryExpiry (crane : Crane)
  | vaneDelayExpiry (crane : Crane)
  | vaneTimeoutExpiry (crane : Crane)
  | beaconPhaseEnd (line : BeaconLine)
  -- the timebase and the pins (chapter 12)
  | tick (holdLow : Bool)
  | siteClockAdvance
  | minuteBoundary
  | siteHoldAsserted
  | siteHoldReleased
  | deviceReset (trigger : ResetTrigger)
  | resetEnd
  | unknownOperationCode (tag : Byte) (operation : Byte) (operands : List Byte)
  deriving DecidableEq, Repr

end Sys2Proof
end

