-- ==== Sys2Proof/Decode.lean ====
section
/-! DEFINITION. Reading a command from a word. -/

namespace Sys2Proof

/-- The command a word spells by the table's bits. No row of spec/opcode_table.json gives bits, so no word spells
a command (log 12): a command is put in the queue with its operands. -/
def decodeTableWord (_nbits _w : Nat) : Option Instr := none

end Sys2Proof
end

