-- ==== Sys2Proof/Config.lean ====
section
/-! DEFINITION. What an implementation fixes: the sizes the manual gives the device's queues and tables, the
bound on how many notices one command lets the blocks take, and the one value the manual leaves free. -/

namespace Sys2Proof.Config

/-- The reply queue holds up to 4 replies (R156, R162). -/
def replyCapacity : Nat := 4

/-- The event queue holds at most 32 records (R167). -/
def eventCapacity : Nat := 32

/-- The booking table holds up to 64 entries (R91). -/
def bookingCapacity : Nat := 64

/-- A sector's request queue holds up to 3 entries (R57). -/
def queueCapacity : Nat := 3

/-- A zone table holds up to 16 segments (R7). -/
def segmentCapacity : Nat := 16

/-- The highest site minute (R91). -/
def lastMinute : Nat := 71582788

/-- The longest booking window, in site minutes (R91). -/
def longestWindow : Nat := 10080

/-- The model's own bound on how many pieces of waiting work are done before one command (log 1).
DESIGN CHOICE, safe: what is left over is taken before the next command. -/
def noticeBound : Nat := 65536

/-- R173: a low level on RESET_N shorter than 1 us "may begin a reset or may be ignored". The answer for the
n-th such pulse is a free value: nothing constrains it (log 10). -/
opaque shortPulseResets : Nat → Bool

end Sys2Proof.Config
end

