-- ==== Sys2Proof/Machine/State.lean ====
section
/-! DEFINITION. The state of the device as plain data: the records of each block, with their values after
device reset, the command queue, and the reasons a step could stop. -/

namespace Sys2Proof.Machine

/-! ### Site model store (chapter 1) -/

/-- The site modes, in the order of R160. -/
inductive Mode where
  | config
  | armed
  deriving DecidableEq, Repr

/-- A timer: stopped, or running with the time it has left (Timers, 00). -/
abbrev Timer := Option Nat

/-- Stop margin, slow band and creep of one axis (R4, R41). -/
structure AxisParams where
  margin : Nat
  band : Nat
  creep : Nat
  deriving DecidableEq, Repr

/-- A crane record (R4). -/
structure CraneRecord where
  present : Bool
  slewOffset : Int
  jib : Nat
  parkRadius : Nat
  parkHeight : Nat
  profile : ProfileNo
  beaconLine : Option BeaconLine
  slew : AxisParams
  trolley : AxisParams
  hoist : AxisParams
  pick : Nat
  setDown : Nat
  debounce : Nat
  deriving DecidableEq, Repr

/-- A crane record after device reset: absent (R4). -/
def CraneRecord.absent : CraneRecord :=
  { present := false, slewOffset := 0, jib := 0, parkRadius := 0, parkHeight := 0, profile := 0,
    beaconLine := none, slew := ⟨0, 0, 0⟩, trolley := ⟨0, 0, 0⟩, hoist := ⟨0, 0, 0⟩,
    pick := 0, setDown := 0, debounce := 0 }

/-- The kinds of a segment, in the order of R7. -/
inductive SegmentKind where
  | own
  | shared
  | barred
  deriving DecidableEq, Repr

/-- A segment of a zone table (R7). -/
structure Segment where
  start : Nat
  kind : SegmentKind
  sector : Sector
  rLo : Nat
  rHi : Nat
  floor : Nat
  deriving DecidableEq, Repr

/-- A segment as a part of WRITE_SEGMENTS carries it, before its fields are checked (R158, R159). -/
structure RawSegment where
  start : Nat
  kindCode : Nat
  sector : Sector
  rLo : Nat
  rHi : Nat
  floor : Nat
  deriving DecidableEq, Repr

/-- The clash kinds, in the order of R10. -/
inductive ClashKind where
  | jib
  | hook
  deriving DecidableEq, Repr

/-- A sector record (R10). -/
structure SectorRecord where
  enabled : Bool
  clash : ClashKind
  members : List Crane
  clearingTime : Nat
  holdLimit : Nat
  slice : Nat
  deriving DecidableEq, Repr

/-- A sector record after device reset: disabled (R10). -/
def SectorRecord.disabled : SectorRecord :=
  { enabled := false, clash := .jib, members := [], clearingTime := 0, holdLimit := 0, slice := 0 }

/-- The vane modes, in the order of R13. -/
inductive VaneMode where
  | manual
  | auto
  deriving DecidableEq, Repr

/-- One number for each axis. -/
structure PerAxis (α : Type) where
  slew : α
  trolley : α
  hoist : α
  deriving DecidableEq, Repr

/-- A wind profile (R13). -/
structure WindProfile where
  gustWindow : Nat
  blockLength : Nat
  meanBlocks : Nat
  alertOn : Nat
  alertOff : Nat
  stopGust : Nat
  stopMean : Nat
  stopOff : Nat
  debounce : Nat
  recovery : Nat
  vaneMode : VaneMode
  vaneDelay : Nat
  vaneTimeout : Nat
  alertCaps : PerAxis Nat
  stopCaps : PerAxis Nat
  deriving DecidableEq, Repr

/-- A wind profile after device reset: every field 0 (R13). -/
def WindProfile.unwritten : WindProfile :=
  { gustWindow := 0, blockLength := 0, meanBlocks := 0, alertOn := 0, alertOff := 0, stopGust := 0,
    stopMean := 0, stopOff := 0, debounce := 0, recovery := 0, vaneMode := .manual, vaneDelay := 0,
    vaneTimeout := 0, alertCaps := ⟨0, 0, 0⟩, stopCaps := ⟨0, 0, 0⟩ }

/-- A beacon pattern (R15). -/
structure BeaconPattern where
  on : Nat
  off : Nat
  scale : Nat
  deriving DecidableEq, Repr

/-- A beacon pattern after device reset (R15). -/
def BeaconPattern.reset : BeaconPattern := { on := 0, off := 0, scale := 1 }

/-- The six beacon patterns, one for each condition (R15). -/
structure BeaconPatterns where
  off : BeaconPattern
  alert : BeaconPattern
  stop : BeaconPattern
  vanePending : BeaconPattern
  vane : BeaconPattern
  fault : BeaconPattern
  deriving DecidableEq, Repr

/-- The site parameters (R16). -/
structure SiteParams where
  tickDivisor : Nat
  positionStale : Nat
  windStale : Nat
  demandTimeout : Nat
  permitRefresh : Nat
  keepTime : Nat
  deriving DecidableEq, Repr

/-- The site parameters after device reset: the defaults of R16. -/
def SiteParams.defaults : SiteParams :=
  { tickDivisor := 160000, positionStale := 30, windStale := 300, demandTimeout := 25,
    permitRefresh := 10, keepTime := 30 }

/-! ### Position tracker (chapter 2) -/

/-- The position states, in the order of R18. -/
inductive PositionState where
  | none
  | tracked
  | degraded
  | lost
  deriving DecidableEq, Repr

/-- A position record (R18). -/
structure PositionRecord where
  state : PositionState
  seqRef : Option Byte
  slewOk : Bool
  trolleyOk : Bool
  hoistOk : Bool
  loadOk : Bool
  angle : Nat
  radius : Nat
  height : Nat
  load : Nat
  radiusMark : Bool
  heightMark : Bool
  loadMark : Bool
  stale : Timer
  present : Option Sector
  obstructed : List Sector
  deriving DecidableEq, Repr

/-- A position record after device reset (R18). -/
def PositionRecord.reset : PositionRecord :=
  { state := .none, seqRef := none, slewOk := false, trolleyOk := false, hoistOk := false,
    loadOk := false, angle := 0, radius := 0, height := 0, load := 0, radiusMark := false,
    heightMark := false, loadMark := false, stale := none, present := none, obstructed := [] }

/-! ### Sector arbiter (chapter 4) -/

/-- How a sector was granted (R54). -/
inductive GrantKind where
  | routine
  | booked (booking : Half)
  deriving DecidableEq, Repr

/-- The causes of a yield flag, in the order of R54. -/
inductive YieldCause where
  | slice
  | booking
  deriving DecidableEq, Repr

/-- A grant record (R54). -/
structure Grant where
  kind : GrantKind
  sliceLeft : Nat
  hold : Timer
  expired : Bool
  yielding : Option YieldCause
  overstay : Bool
  deriving DecidableEq, Repr

/-- The base state of a sector, with what R54 lets exist in it: a holder and a grant record in HELD; a former
holder, the grant record and the running clearing timer in CLEARING. -/
inductive Base where
  | free
  | held (holder : Crane) (grant : Grant)
  | clearing (former : Crane) (grant : Grant) (left : Nat)
  | contested
  deriving DecidableEq, Repr

/-- An entry of a request queue (R54, R57). -/
structure QueueEntry where
  crane : Crane
  keep : Nat
  resume : Bool
  deriving DecidableEq, Repr

/-- A sector entry (R54). -/
structure SectorEntry where
  base : Base
  queue : List QueueEntry
  locks : List Crane
  closed : Bool
  presence : List Crane
  obstruction : List Crane
  claimant : Option Claimant
  deriving DecidableEq, Repr

/-- A sector entry after device reset (R54). -/
def SectorEntry.reset : SectorEntry :=
  { base := .free, queue := [], locks := [], closed := false, presence := [], obstruction := [],
    claimant := none }

/-! ### Load-cycle detector (chapter 5) -/

/-- The detector states, in the order of R79. -/
inductive DetectorState where
  | unloaded
  | picking
  | loaded
  | setting
  deriving DecidableEq, Repr

/-- The arbiter's answer for a lift, with what each answer names (R75, R79). -/
inductive Attribution where
  | booked (sector : Sector) (booking : Half)
  | routine (sector : Sector)
  | craneOnly
  deriving DecidableEq, Repr

/-- The record of the last completed lift (R79). -/
structure LastLift where
  peak : Nat
  attribution : Attribution
  deriving DecidableEq, Repr

/-- A detector record (R79). -/
structure Detector where
  state : DetectorState
  run : Nat
  peak : Nat
  lifts : Half
  overload : Bool
  reported : Bool
  lastLift : Option LastLift
  deriving DecidableEq, Repr

/-- A detector record after device reset (R79). -/
def Detector.reset : Detector :=
  { state := .unloaded, run := 0, peak := 0, lifts := 0, overload := false, reported := false,
    lastLift := none }

/-! ### Booking table (chapter 6) -/

/-- The classes of a booking, in the order of R91. -/
inductive BookingClass where
  | planned
  | critical
  deriving DecidableEq, Repr

/-- The causes of a booking's state, in the order of R91. -/
inductive BookingCause where
  | add
  | window
  | clock
  | crane
  | mode
  | quota
  | cancel
  | table
  deriving DecidableEq, Repr

/-- A booking entry (R91). -/
structure Booking where
  id : Half
  crane : Crane
  sector : Sector
  start : Nat
  stop : Nat
  quota : Nat
  cls : BookingClass
  maxLoad : Nat
  state : BookingState
  done : Nat
  cause : BookingCause
  deriving DecidableEq, Repr

/-! ### Wind monitor (chapters 7 and 8) -/

/-- A ring of samples addressed from the newest (R113, R114). -/
structure Ring (n : Nat) where
  slots : Bank n Nat
  base : Fin n
  fill : Nat
  deriving DecidableEq, Repr

/-- Whose figures a crane works from (R119). -/
inductive WindSource where
  | none
  | own
  | borrowed (lender : Crane)
  deriving DecidableEq, Repr

/-- The wind states, in the order of R123. -/
inductive WindState where
  | calm
  | alert
  | stop
  | vanePending
  | vane
  deriving DecidableEq, Repr

/-- A wind record: the history of R109 and the state machine of R123. -/
structure WindRecord where
  seqRef : Option Byte
  excursion : Bool
  fine : Ring 16
  accSum : Nat
  accCount : Nat
  coarse : Ring 64
  ownStale : Timer
  fresh : Bool
  ownGust : Option Nat
  ownMean : Option Nat
  source : WindSource
  state : WindState
  stopCount : Nat
  alertCount : Nat
  calmCount : Nat
  recovery : Timer
  vaneDelay : Timer
  vaneWait : Bool
  vaneTimeout : Timer
  deriving DecidableEq, Repr

/-- A wind record after device reset (R109, R123). -/
def WindRecord.reset : WindRecord :=
  { seqRef := none, excursion := false, fine := ⟨Bank.fill 16 0, 15, 0⟩, accSum := 0, accCount := 0,
    coarse := ⟨Bank.fill 64 0, 63, 0⟩, ownStale := none, fresh := false, ownGust := none,
    ownMean := none, source := .none, state := .stop, stopCount := 0, alertCount := 0,
    calmCount := 0, recovery := none, vaneDelay := none, vaneWait := false, vaneTimeout := none }

/-! ### Permit path and link ports (chapters 9 and 10) -/

/-- The reason codes, in the order of R52. -/
inductive Reason where
  | none
  | site
  | posn
  | wind
  | exit
  | sect
  | book
  | zone
  deriving DecidableEq, Repr

/-- The advice codes, in the order of R147. -/
inductive Advice where
  | hold
  | position
  | vane
  | parkForVane
  | windStop
  | evacuate
  | yield
  | overstay
  | waitSector
  | booked
  | windAlert
  | none
  deriving DecidableEq, Repr

/-- The contents of a PERMIT frame (R146). -/
structure Permit where
  echoed : Byte
  seq : Byte
  speeds : PerAxis Int
  reasons : PerAxis Reason
  vaneRelease : Bool
  noPick : Bool
  demandStale : Bool
  advice : Advice
  adviceSector : Option Sector
  windState : WindState
  source : WindSource
  gust : Nat
  deriving DecidableEq, Repr

/-- A permit record (R139). -/
structure PermitRecord where
  demand : PerAxis Int
  demandStale : Bool
  seqRef : Option Byte
  echoed : Byte
  timeout : Timer
  refresh : Timer
  seq : Byte
  last : PerAxis Int
  deriving DecidableEq, Repr

/-- A permit record after device reset (R139). -/
def PermitRecord.reset : PermitRecord :=
  { demand := ⟨0, 0, 0⟩, demandStale := true, seqRef := none, echoed := 0, timeout := none,
    refresh := none, seq := 255, last := ⟨0, 0, 0⟩ }

/-- The two slots of a crane link port (R148). -/
structure LinkSlots where
  transmit : Option Permit
  waiting : Option Permit
  deriving DecidableEq, Repr

/-- The receiver states, in the order of R152. -/
inductive ReceiverState where
  | hunt
  | kind
  | len
  | payload
  | check
  deriving DecidableEq, Repr

/-- A link's receiver: its state and the octets of the frame in progress, from SYNC on (R152). -/
structure Receiver where
  state : ReceiverState
  store : List Byte
  deriving DecidableEq, Repr

/-- A receiver after device reset (R152). -/
def Receiver.hunting : Receiver := { state := .hunt, store := [] }

/-- A link's error counters (R154). -/
structure LinkCounters where
  crc : Nat
  length : Nat
  misdirected : Nat
  deriving DecidableEq, Repr

/-! ### Management unit (chapter 11) -/

/-- The result codes, in the order of their codes (R159). -/
inductive Result where
  | ok
  | notInConfig
  | notArmed
  | wrongState
  | badValue
  | badIndex
  | tableFull
  | duplicateId
  | noSuchId
  | pastWindow
  | checkFailed
  | windHigh
  | notParked
  | vaneActive
  | noData
  deriving DecidableEq, Repr

/-- A reply: tag, operation, result, locator and data (R159, R161). -/
structure Reply where
  tag : Byte
  operation : Byte
  result : Result
  locator : Half
  data : List Byte
  deriving DecidableEq, Repr

/-- An event record (R167). -/
structure EventRecord where
  body : EventBody
  time : BitVec 32
  clockUnset : Bool
  deriving DecidableEq, Repr

/-- The frame the site link transmitter is sending; an EVENT frame carries the overflow flag (R156, R167). -/
inductive SiteFrame where
  | reply (r : Reply)
  | event (e : EventRecord) (overflow : Bool)
  deriving DecidableEq, Repr

/-- The WRITE_SEGMENTS assembly (R158). -/
structure Assembly where
  crane : Crane
  count : Nat
  segments : List RawSegment
  deriving DecidableEq, Repr

/-! ### Beacon driver and timebase (chapter 12) -/

/-- The phases of a beacon generator, in the order of R171. -/
inductive Phase where
  | on
  | off
  deriving DecidableEq, Repr

/-- A beacon generator (R171). `cutShort` says that a restart has cut short the phase that the tick in progress was to
end, so that the end of that tick belongs to the abandoned phase (log 26). -/
structure Generator where
  driver : Option Crane
  condition : BeaconCondition
  phase : Phase
  left : Timer
  cutShort : Bool
  deriving DecidableEq, Repr

/-- A generator without a driving crane: the line is held off (R171). -/
def Generator.heldOff : Generator := 
  { driver := none, condition := .off, phase := .off, left := none, cutShort := false }

/-- The causes STARTED can carry, in the order of their codes (R159, R173). -/
inductive ResetCause where
  | powerOn
  | pin
  deriving DecidableEq, Repr

/-! ### Notices between the blocks -/

/-- The timers, each named with its owner. -/
inductive Expiry where
  | positionStale (c : Crane)
  | windStale (c : Crane)
  | demandTimeout (c : Crane)
  | refresh (c : Crane)
  | keep (k : Sector) (c : Crane)
  | clearing (k : Sector)
  | hold (k : Sector)
  | recovery (c : Crane)
  | vaneDelay (c : Crane)
  | vaneTimeout (c : Crane)
  | phaseEnd (n : BeaconLine)
  deriving DecidableEq, Repr

/-- A frame a receiver has found good, for its consumer (R153). -/
inductive GoodFrame where
  | motion (c : Crane) (f : MotionFrame)
  | wind (c : Crane) (f : WindFrame)
  | demand (c : Crane) (f : DemandFrame)
  | request (tag operation : Byte) (operands : List Byte)
  deriving DecidableEq, Repr

/-- A notice one block sends another, which the other takes as one event (R55, 95). -/
inductive Notice where
  | frame (f : GoodFrame)
  | presence (k : Sector) (c : Crane) (change : PresenceChange)
  | knock (k : Sector) (c : Crane)
  | claimant (k : Sector) (left : List (Half × BookingState)) (claimant : Option Claimant)
  | lock (k : Sector) (c : Crane)
  | unlock (k : Sector) (c : Crane)
  | liftCount (booking : Half)
  | loadSample (c : Crane) (sample : Nat)
  | motionTaken (c : Crane)
  | limit (c : Crane)
  | evaluation (c : Crane)
  | craneCondition (c : Crane)
  | handshake (k : Sector)
  | beacon (c : Crane) (condition : BeaconCondition)
  | expiry (e : Expiry)
  | clockAdvance
  | minuteBoundary
  | holdAsserted
  | holdReleased
  /-- The model's own: everything that a TICK has brought has been done (log 26). -/
  | tickDone
  deriving DecidableEq, Repr

/-! ### The state -/

/-- The whole state of the device, the commands that wait, and the notices in flight. -/
@[ext]
structure State where
  -- site model store
  cranes : Bank 8 CraneRecord
  zones : Bank 8 (List Segment)
  sectors : Bank 16 SectorRecord
  profiles : Bank 4 WindProfile
  patterns : BeaconPatterns
  site : SiteParams
  -- position tracker, sector arbiter, detectors, booking table, wind monitor
  positions : Bank 8 PositionRecord
  entries : Bank 16 SectorEntry
  detectors : Bank 8 Detector
  bookings : List Booking
  winds : Bank 8 WindRecord
  -- permit path and link ports
  permits : Bank 8 PermitRecord
  slots : Bank 8 LinkSlots
  receivers : Bank 9 Receiver
  counters : Bank 9 LinkCounters
  -- management unit
  mode : Mode
  clock : BitVec 32
  clockSet : Bool
  replies : List Reply
  events : List EventRecord
  overflow : Bool
  mask : BitVec 22
  assembly : Option Assembly
  transmitter : Option SiteFrame
  -- beacon driver, timebase and pins
  generators : Bank 8 Generator
  cycles : Nat
  divisor : Nat
  ticks : Nat
  holdLow : Bool
  hold : Bool
  inReset : Option ResetCause
  -- the model's own
  shortPulses : Nat
  inFlight : List Notice
  pending : List Instr
  deriving DecidableEq, Repr

/-- Every field as a device reset leaves it, before STARTED is posted (R169). -/
def State.cleared : State :=
  { cranes := Bank.fill 8 .absent, zones := Bank.fill 8 [], sectors := Bank.fill 16 .disabled,
    profiles := Bank.fill 4 .unwritten,
    patterns := ⟨.reset, .reset, .reset, .reset, .reset, .reset⟩, site := .defaults,
    positions := Bank.fill 8 .reset, entries := Bank.fill 16 .reset,
    detectors := Bank.fill 8 .reset, bookings := [], winds := Bank.fill 8 .reset,
    permits := Bank.fill 8 .reset, slots := Bank.fill 8 ⟨none, none⟩,
    receivers := Bank.fill 9 .hunting, counters := Bank.fill 9 ⟨0, 0, 0⟩,
    mode := .config, clock := 0, clockSet := false, replies := [], events := [],
    overflow := false, mask := BitVec.allOnes 22, assembly := none, transmitter := none,
    generators := Bank.fill 8 .heldOff, cycles := 0, divisor := 160000, ticks := 0,
    holdLow := false, hold := false, inReset := none, shortPulses := 0, inFlight := [],
    pending := [] }

/-- The STARTED record: site time 0, clock unset (R169); POWER_ON 0, PIN 1 (R159). -/
def startedRecord (cause : ResetCause) : EventRecord :=
  { body := { kind := .started, crane := none, sector := none,
              argA := match cause with | .powerOn => 0 | .pin => 1, argB := 0, argC := 0 },
    time := 0, clockUnset := true }

/-- The device when a power-on reset has ended: every state at its reset value, and the STARTED record the
first in the event queue (R169, R173). -/
def State.reset : State := { State.cleared with events := [startedRecord .powerOn] }

/-- The faults a step can end in: none. Nothing the device takes stops it; what is wrong in a frame is
counted or dropped, and what is wrong in a request is refused by a result code (R152 to R154, R161). -/
inductive Fault where
  deriving DecidableEq, Repr

/-- The refusals a step can end in. -/
inductive Refusal where
  /-- Raised by an arm of `exec` whose command has no meaning yet. No arm of this model raises it. Safe. -/
  | notModelled (mnemonic : String)
  deriving DecidableEq, Repr

end Sys2Proof.Machine
end

