-- ==== Sys2Proof/Machine/Octets.lean ====
section
/-! DEFINITION. Octets: numbers in frames, the frame check, and the receiver that finds frames in an octet
stream (R150 to R153, R157). -/

namespace Sys2Proof.Machine

/-! ### Octets on the line (R150) -/

/-- R150: the levels of one octet on a line, true for high: a start bit (low), the eight data bits with the least
significant first, and a stop bit (high). -/
def octetLevels (b : Byte) : List Bool := false :: (List.range 8).map b.getLsbD ++ [true]

/-- R150: the levels of a frame: its octets back to back. -/
def frameLevels (octets : List Byte) : List Bool := octets.flatMap octetLevels

/-- R150: the level of a line so many bit times after the beginning of the frame it sends; it idles high. -/
def lineLevel (sending : Option (List Byte)) (bit : Nat) : Bool :=
  ((sending.map frameLevels).getD []).getD bit true

/-- The octet of eight data bits, the least significant first. -/
def octetOfBits (bits : List Bool) : Byte := BitVec.ofNat 8 (bits.foldr (fun b n => b.toNat + 2 * n) 0)

/-- R150: the octets a receiver takes from a line sampled once in each bit time. High levels between octets are the
idle line; a low one is a start bit, and the eight data bits after it are passed on whatever the level of the stop
bit. Levels after the last whole octet are an octet still on its way. -/
def octetsHeard : List Bool → List Byte
  | true :: rest => octetsHeard rest
  | false :: b0 :: b1 :: b2 :: b3 :: b4 :: b5 :: b6 :: b7 :: _stop :: rest =>
    octetOfBits [b0, b1, b2, b3, b4, b5, b6, b7] :: octetsHeard rest
  | _ => []

/-! ### Numbers in octets: most significant octet first (R151, R157) -/

/-- A number as one octet. -/
def octet1 (n : Nat) : List Byte := [BitVec.ofNat 8 n]

/-- A number as two octets. -/
def octet2 (n : Nat) : List Byte := [BitVec.ofNat 8 (n / 256), BitVec.ofNat 8 n]

/-- A number as four octets. -/
def octet4 (n : Nat) : List Byte := octet2 (n / 65536) ++ octet2 n

/-- A signed number as two octets, in two's complement. -/
def signed2 (i : Int) : List Byte := octet2 (BitVec.ofInt 16 i).toNat

/-- The number that octets hold. -/
def numberOf (bs : List Byte) : Nat := bs.foldl (fun n b => n * 256 + b.toNat) 0

/-- The signed number that two octets hold. -/
def signedOf (n : Nat) : Int := (BitVec.ofNat 16 n).toInt

/-- The octets cut into fields of the given widths; none when they are more or fewer than the widths call
for (R158). -/
def cutFields : List Nat → List Byte → Option (List Nat)
  | [], [] => some []
  | [], _ :: _ => none
  | w :: ws, bs =>
    if bs.length < w then none
    else (cutFields ws (bs.drop w)).map (numberOf (bs.take w) :: ·)

/-! ### The frame check (R151) -/

/-- One shift of the CRC register. -/
def crcShift (r : BitVec 16) : BitVec 16 :=
  if r.getLsbD 15 then (r <<< 1) ^^^ 0x1021#16 else r <<< 1

/-- `crcShift` so many times. -/
def crcShifts : Nat → BitVec 16 → BitVec 16
  | 0, r => r
  | n + 1, r => crcShifts n (crcShift r)

/-- One octet taken into the register. -/
def crcOctet (r : BitVec 16) (b : Byte) : BitVec 16 := crcShifts 8 (r ^^^ (b.zeroExtend 16 <<< 8))

/-- The CRC of octets. -/
def crcOf (bs : List Byte) : BitVec 16 := bs.foldl crcOctet 0xFFFF#16

/-- The SYNC octet, C3h. -/
def syncOctet : Byte := 0xC3#8

/-- A frame of a kind with a payload, with its SYNC, KIND, LEN and CRC. -/
def frameOctets (kind : Byte) (payload : List Byte) : List Byte :=
  let body := kind :: BitVec.ofNat 8 payload.length :: payload
  syncOctet :: body ++ octet2 (crcOf body).toNat

/-! ### Frame kinds (R152, R159) -/

/-- MOTION, 21h. -/
def kindMotion : Byte := 0x21#8
/-- WIND, 22h. -/
def kindWind : Byte := 0x22#8
/-- DEMAND, 23h. -/
def kindDemand : Byte := 0x23#8
/-- PERMIT, 31h. -/
def kindPermit : Byte := 0x31#8
/-- REQUEST, 41h. -/
def kindRequest : Byte := 0x41#8
/-- REPLY, 51h. -/
def kindReply : Byte := 0x51#8
/-- EVENT, 52h. -/
def kindEvent : Byte := 0x52#8

/-- The kinds a link accepts. -/
def acceptsKind (l : Link) (kind : Byte) : Bool :=
  if l = siteLink then kind == kindRequest
  else kind == kindMotion || kind == kindWind || kind == kindDemand

/-- Whether LEN is a length error on a link: above 48, or not the length an accepted kind requires. -/
def lengthIsError (l : Link) (kind : Byte) (len : Nat) : Bool :=
  len > 48 ||
  (acceptsKind l kind &&
    (if kind = kindMotion then len != 10
     else if kind = kindWind then len != 4
     else if kind = kindDemand then len != 7
     else len < 2))

/-- Bit `i` of a status octet; bits the layout does not name are ignored (R157). -/
def statusBit (b : Byte) (i : Nat) : Bool := b.getLsbD i

/-- Two octets as one field. -/
def half (hi lo : Byte) : Half := hi ++ lo

/-- The payload of a good frame of an accepted kind, read by the layouts of R159. Its length tells which kind
it is, since an accepted kind has passed the length check. -/
def readPayload (l : Link) (payload : List Byte) : Option GoodFrame :=
  if l = siteLink then
    match payload with
    | tag :: op :: operands => some (.request tag op operands)
    | _ => none
  else
    let c : Crane := Fin.ofNat 8 l.val
    match payload with
    | [sq, a1, a0, r1, r0, h1, h0, l1, l0, st] =>
      some (.motion c
        { seq := sq, rawAngle := half a1 a0, radius := half r1 r0, height := half h1 h0,
          load := half l1 l0, slewOk := statusBit st 0, trolleyOk := statusBit st 1,
          hoistOk := statusBit st 2, loadOk := statusBit st 3 })
    | [sq, s1, s0, st] =>
      some (.wind c { seq := sq, speed := half s1 s0, anemometerOk := statusBit st 0 })
    | [sq, a1, a0, b1, b0, c1, c0] =>
      some (.demand c { seq := sq, slew := half a1 a0, trolley := half b1 b0, hoist := half c1 c0 })
    | _ => none

/-! ### The receiver (R152) -/

/-- What a receiver makes of the octets it takes, in the order it comes to it. -/
inductive Heard where
  | lengthError
  | crcError
  | misdirected
  | good (f : GoodFrame)
  deriving DecidableEq, Repr

/-- What the receiver does with the octets from a point at which it is in HUNT: the frames and errors it
finds, and the state it is left in. After an error it hunts again from the octet that followed the discarded
frame's SYNC. `fuel` bounds the octets looked at; one more than their number is enough. -/
def huntOctets (l : Link) : Nat → List Byte → List Heard × Receiver
  | 0, _ => ([], .hunting)
  | fuel + 1, bs =>
    match bs with
    | [] => ([], .hunting)
    | b :: rest =>
      if b ≠ syncOctet then huntOctets l fuel rest
      else
        match rest with
        | [] => ([], { state := .kind, store := [b] })
        | [kind] => ([], { state := .len, store := [b, kind] })
        | kind :: len :: tail =>
          let n := len.toNat
          if lengthIsError l kind n then
            let (hs, r) := huntOctets l fuel rest
            (.lengthError :: hs, r)
          else if tail.length < n then ([], { state := .payload, store := bs })
          else if tail.length < n + 2 then ([], { state := .check, store := bs })
          else
            let body := kind :: len :: tail.take n
            if crcOf (body ++ (tail.drop n).take 2) ≠ 0 then
              let (hs, r) := huntOctets l fuel rest
              (.crcError :: hs, r)
            else
              let (hs, r) := huntOctets l fuel (tail.drop (n + 2))
              if acceptsKind l kind then
                match readPayload l (tail.take n) with
                | some f => (.good f :: hs, r)
                | none => (.misdirected :: hs, r)
              else (.misdirected :: hs, r)

/-- What the receiver does with stored octets after a discarded frame's SYNC. -/
def rescan (l : Link) (stored : List Byte) : List Heard × Receiver :=
  huntOctets l (stored.length + 1) stored

end Sys2Proof.Machine
end

