-- ==== Sys2Proof/Machine/Operands.lean ====
section
/-! DEFINITION. The operands of the requests: their widths in octets, and the records they are read into when
every field lies in its range (R4, R7, R10, R13, R15, R16, R91, R158, R159). -/

namespace Sys2Proof.Machine

/-- Whether a value lies in a range. -/
def within (lo hi n : Nat) : Bool := lo ≤ n && n ≤ hi

/-! ### Widths of the operands, in the order of the operations table (R159) -/

/-- WRITE_SITE: six parameters. -/
def siteWidths : List Nat := [4, 2, 2, 2, 1, 1]
/-- WRITE_CRANE: crane, present, and the eighteen fields of the record. -/
def craneWidths : List Nat := [1, 1, 2, 2, 2, 2, 1, 1, 2, 2, 1, 1, 2, 1, 1, 2, 1, 2, 2, 1]
/-- WRITE_SECTOR: sector, enabled, clash kind, member count, four member places, three numbers. -/
def sectorWidths : List Nat := [1, 1, 1, 1, 1, 1, 1, 1, 2, 2, 1]
/-- WRITE_PROFILE: profile and its nineteen fields. -/
def profileWidths : List Nat := [1, 1, 1, 1, 2, 2, 2, 2, 2, 1, 2, 1, 2, 2, 2, 2, 2, 2, 2, 2]
/-- WRITE_PATTERN: condition, on, off, scale. -/
def patternWidths : List Nat := [1, 1, 1, 1]
/-- BOOK_ADD: id, crane, sector, start, end, quota, class, max load. -/
def bookingWidths : List Nat := [2, 1, 1, 4, 4, 1, 1, 2]

/-! ### Records read from fields; none where a field lies outside its range -/

/-- The site parameters (R16). -/
def readSiteParams : List Nat → Option SiteParams
  | [dv, ps, ws, dt, pr, kt] =>
    if within 1000 400000 dv && within 2 1000 ps && within 10 6000 ws && within 2 1000 dt
        && within 1 100 pr && within 1 255 kt then
      some { tickDivisor := dv, positionStale := ps, windStale := ws, demandTimeout := dt,
             permitRefresh := pr, keepTime := kt }
    else none
  | _ => none

/-- The beacon line of a crane record: a line, or FFh for none (R4, R157). -/
def readBeaconLine (n : Nat) : Option (Option BeaconLine) :=
  if n = 255 then some none else if n ≤ 7 then some (some (Fin.ofNat 8 n)) else none

/-- The fields of a crane record that is to be present (R4). -/
def readCraneRecord : List Nat → Option CraneRecord
  | [offset, jib, parkR, parkH, prof, line, sm, sw, sc, tm, tw, tc, hm, hw, hc, pick, setDown, deb] =>
    let off := signedOf offset
    match readBeaconLine line with
    | none => none
    | some beacon =>
      if (-4096 ≤ off && off ≤ 4095) && within 100 1000 jib && within 0 jib parkR
          && within 0 3000 parkH && within 0 3 prof
          && within 0 1024 sm && within 1 4096 sw && within 0 200 sc
          && within 0 200 tm && within 1 500 tw && within 0 200 tc
          && within 0 200 hm && within 1 500 hw && within 0 200 hc
          && within 1 8000 pick && within 0 7999 setDown && within 0 15 deb then
        some { present := true, slewOffset := off, jib := jib, parkRadius := parkR,
               parkHeight := parkH, profile := Fin.ofNat 4 prof, beaconLine := beacon,
               slew := ⟨sm, sw, sc⟩, trolley := ⟨tm, tw, tc⟩, hoist := ⟨hm, hw, hc⟩,
               pick := pick, setDown := setDown, debounce := deb }
      else none
  | _ => none

/-- The first places of the four member places, as many as the member count (R10). -/
def readMembers (count : Nat) (places : List Nat) : Option (List Crane) :=
  let ms := places.take count
  if within 2 4 count && ms.all (· ≤ 7) && decide ms.Nodup then some (ms.map (Fin.ofNat 8)) else none

/-- The fields of a sector record that is to be enabled (R10). -/
def readSectorRecord : List Nat → Option SectorRecord
  | [clash, count, m0, m1, m2, m3, clearing, hold, slice] =>
    match readMembers count [m0, m1, m2, m3] with
    | none => none
    | some ms =>
      if within 0 1 clash && within 1 6000 clearing && within 1 3600 hold && within 0 63 slice then
        some { enabled := true, clash := if clash = 0 then .jib else .hook, members := ms,
               clearingTime := clearing, holdLimit := hold, slice := slice }
      else none
  | _ => none

/-- Whether a wind profile is valid: every field in its range, and the four relations hold (R13). -/
def profileValid (p : WindProfile) : Bool :=
  within 2 16 p.gustWindow && within 4 64 p.blockLength && within 1 64 p.meanBlocks
    && within 0 600 p.alertOn && within 0 600 p.alertOff && within 0 600 p.stopGust
    && within 0 600 p.stopMean && within 0 600 p.stopOff && within 0 15 p.debounce
    && within 1 3600 p.recovery && within 0 3600 p.vaneDelay && within 1 3600 p.vaneTimeout
    && within 0 1000 p.alertCaps.slew && within 0 1000 p.alertCaps.trolley
    && within 0 1000 p.alertCaps.hoist && within 0 1000 p.stopCaps.slew
    && within 0 1000 p.stopCaps.trolley && within 0 1000 p.stopCaps.hoist
    && decide (p.alertOff < p.alertOn) && decide (p.alertOn ≤ p.stopGust)
    && decide (p.stopOff < p.stopGust) && decide (p.stopOff < p.stopMean)
    && decide (p.alertOff ≤ p.stopOff)

/-- The fields of a wind profile, when it would be valid (R13). -/
def readProfile : List Nat → Option WindProfile
  | [g, b, m, aOn, aOff, sG, sM, sOff, d, rec, vm, vd, vt, a1, a2, a3, s1, s2, s3] =>
    let p : WindProfile :=
      { gustWindow := g, blockLength := b, meanBlocks := m, alertOn := aOn, alertOff := aOff,
        stopGust := sG, stopMean := sM, stopOff := sOff, debounce := d, recovery := rec,
        vaneMode := if vm = 0 then .manual else .auto, vaneDelay := vd, vaneTimeout := vt,
        alertCaps := ⟨a1, a2, a3⟩, stopCaps := ⟨s1, s2, s3⟩ }
    if vm ≤ 1 && profileValid p then some p else none
  | _ => none

/-- The fields of a beacon pattern (R15). -/
def readPattern : List Nat → Option BeaconPattern
  | [on, off, scale] =>
    if within 0 255 on && within 0 255 off && [1, 2, 4, 8, 16, 32, 64, 128].contains scale then
      some { on := on, off := off, scale := scale }
    else none
  | _ => none

/-- The condition a code names (R15, R157). -/
def conditionOf : Nat → Option BeaconCondition
  | 0 => some .off
  | 1 => some .alert
  | 2 => some .stop
  | 3 => some .vanePending
  | 4 => some .vane
  | 5 => some .fault
  | _ => none

/-- One segment of a part of WRITE_SEGMENTS, from its seven octets (R159). -/
def readRawSegment (bs : List Byte) : RawSegment :=
  let ks := numberOf ((bs.drop 2).take 1)
  let bands := numberOf ((bs.drop 3).take 4)
  { start := numberOf (bs.take 2), kindCode := ks / 64, sector := Fin.ofNat 16 (ks % 16),
    rLo := bands / 4194304, rHi := bands / 4096 % 1024, floor := bands % 4096 }

/-- So many segments from the octets of a part. -/
def readRawSegments : Nat → List Byte → List RawSegment
  | 0, _ => []
  | n + 1, bs => readRawSegment (bs.take 7) :: readRawSegments n (bs.drop 7)

/-- A segment whose fields lie in their ranges, as it is stored (R7). -/
def readSegment (r : RawSegment) : Option Segment :=
  if r.start ≤ 8191 && r.kindCode ≤ 2 && r.rLo ≤ 1000 && r.rHi ≤ 1000 && decide (r.rLo < r.rHi)
      && r.floor ≤ 3000 then
    some <| match r.kindCode with
      | 0 => { start := r.start, kind := .own, sector := 0, rLo := r.rLo, rHi := r.rHi, floor := 0 }
      | 1 => { start := r.start, kind := .shared, sector := r.sector, rLo := r.rLo, rHi := r.rHi, floor := 0 }
      | _ => { start := r.start, kind := .barred, sector := 0, rLo := r.rLo, rHi := r.rHi, floor := r.floor }
  else none

/-- A whole list of segments; none when it is empty, too long, or holds a field out of range (R7). -/
def readZone (rs : List RawSegment) : Option (List Segment) :=
  if within 1 16 rs.length then rs.mapM readSegment else none

/-- A new booking, before it is given its state, when the fields beside crane and sector lie in their ranges
(R91, R93 check 3). -/
def readBooking (id : Nat) (c : Crane) (k : Sector) (start stop quota cls maxLoad : Nat) : Option Booking :=
  if within 1 65535 id && decide (start < stop) && within 1 Config.longestWindow (stop - start)
      && within 0 Config.lastMinute start && within 1 Config.lastMinute stop && within 0 250 quota
      && within 0 1 cls && within 0 8000 maxLoad then
    some { id := BitVec.ofNat 16 id, crane := c, sector := k, start := start, stop := stop,
           quota := quota, cls := if cls = 0 then .planned else .critical, maxLoad := maxLoad,
           state := .waiting, done := 0, cause := .add }
  else none

end Sys2Proof.Machine
end

