-- ==== Sys2Proof/Machine/Ops.lean ====
section
/-! DEFINITION. The named operations every block shares: reading and replacing one record of the state, sending
a notice, posting an event, appending a reply, running timers, judging a sequence number, and keeping sets of
cranes. -/

namespace Sys2Proof.Machine

/-! ### One record of a bank -/

/-- Crane `c`'s record. -/
def State.crane (s : State) (c : Crane) : CraneRecord := s.cranes.read c
/-- The state with crane `c`'s record replaced. -/
def State.setCrane (s : State) (c : Crane) (x : CraneRecord) : State := { s with cranes := s.cranes.write c x }
/-- Crane `c`'s zone table. -/
def State.zone (s : State) (c : Crane) : List Segment := s.zones.read c
/-- The state with crane `c`'s zone table replaced. -/
def State.setZone (s : State) (c : Crane) (x : List Segment) : State := { s with zones := s.zones.write c x }
/-- Sector `k`'s record. -/
def State.sector (s : State) (k : Sector) : SectorRecord := s.sectors.read k
/-- The state with sector `k`'s record replaced. -/
def State.setSector (s : State) (k : Sector) (x : SectorRecord) : State := { s with sectors := s.sectors.write k x }
/-- Wind profile `p`. -/
def State.profile (s : State) (p : ProfileNo) : WindProfile := s.profiles.read p
/-- The state with wind profile `p` replaced. -/
def State.setProfile (s : State) (p : ProfileNo) (x : WindProfile) : State := { s with profiles := s.profiles.write p x }
/-- Crane `c`'s position record. -/
def State.position (s : State) (c : Crane) : PositionRecord := s.positions.read c
/-- The state with crane `c`'s position record replaced. -/
def State.setPosition (s : State) (c : Crane) (x : PositionRecord) : State := { s with positions := s.positions.write c x }
/-- Sector `k`'s entry. -/
def State.entry (s : State) (k : Sector) : SectorEntry := s.entries.read k
/-- The state with sector `k`'s entry replaced. -/
def State.setEntry (s : State) (k : Sector) (x : SectorEntry) : State := { s with entries := s.entries.write k x }
/-- Crane `c`'s detector record. -/
def State.detector (s : State) (c : Crane) : Detector := s.detectors.read c
/-- The state with crane `c`'s detector record replaced. -/
def State.setDetector (s : State) (c : Crane) (x : Detector) : State := { s with detectors := s.detectors.write c x }
/-- Crane `c`'s wind record. -/
def State.windOf (s : State) (c : Crane) : WindRecord := s.winds.read c
/-- The state with crane `c`'s wind record replaced. -/
def State.setWind (s : State) (c : Crane) (x : WindRecord) : State := { s with winds := s.winds.write c x }
/-- Crane `c`'s permit record. -/
def State.permit (s : State) (c : Crane) : PermitRecord := s.permits.read c
/-- The state with crane `c`'s permit record replaced. -/
def State.setPermit (s : State) (c : Crane) (x : PermitRecord) : State := { s with permits := s.permits.write c x }
/-- The slots of crane `c`'s link port. -/
def State.slot (s : State) (c : Crane) : LinkSlots := s.slots.read c
/-- The state with the slots of crane `c`'s link port replaced. -/
def State.setSlot (s : State) (c : Crane) (x : LinkSlots) : State := { s with slots := s.slots.write c x }
/-- Link `l`'s receiver. -/
def State.receiver (s : State) (l : Link) : Receiver := s.receivers.read l
/-- The state with link `l`'s receiver replaced. -/
def State.setReceiver (s : State) (l : Link) (x : Receiver) : State := { s with receivers := s.receivers.write l x }
/-- Link `l`'s error counters. -/
def State.counter (s : State) (l : Link) : LinkCounters := s.counters.read l
/-- The state with link `l`'s error counters replaced. -/
def State.setCounter (s : State) (l : Link) (x : LinkCounters) : State := { s with counters := s.counters.write l x }
/-- Line `n`'s generator. -/
def State.generator (s : State) (n : BeaconLine) : Generator := s.generators.read n
/-- The state with line `n`'s generator replaced. -/
def State.setGenerator (s : State) (n : BeaconLine) (x : Generator) : State := { s with generators := s.generators.write n x }

/-- The wind profile crane `c`'s record names. -/
def State.profileOf (s : State) (c : Crane) : WindProfile := s.profile (s.crane c).profile

/-- Crane `c` is a member of sector `k`: `k` is enabled and lists it (R10). -/
def State.isMember (s : State) (k : Sector) (c : Crane) : Bool :=
  (s.sector k).enabled && (s.sector k).members.contains c

/-- The enabled sectors of which crane `c` is a member, in ascending number. -/
def State.sectorsOf (s : State) (c : Crane) : List Sector := allSectors.filter (fun k => s.isMember k c)

/-- The present cranes, in ascending number. -/
def State.presentCranes (s : State) : List Crane := allCranes.filter (fun c => (s.crane c).present)

/-! ### Notices -/

/-- Notices sent, in the order given, behind those already in flight. -/
def State.send (s : State) (ns : List Notice) : State := { s with inFlight := s.inFlight ++ ns }

/-! ### Events (R167, R168) -/

/-- The code of an event kind (R159). -/
def eventCode : EventKind → Nat
  | .started => 0 | .armed => 1 | .disarmed => 2 | .positionLost => 3 | .positionRegained => 4
  | .range => 5 | .intrusion => 6 | .contested => 7 | .grant => 8 | .release => 9 | .evacuate => 10
  | .overstay => 11 | .yield => 12 | .lift => 13 | .bookingState => 14 | .bookedOverload => 15
  | .windState => 16 | .windSource => 17 | .vaneReleased => 18 | .vaneBlocked => 19 | .resumed => 20
  | .siteHold => 21

/-- Whether the event mask reports a kind: bit n for kind n (R168). -/
def State.reports (s : State) (kind : EventKind) : Bool := s.mask.getLsbD (eventCode kind)

/-- One posting, as the queue takes it: a masked kind has no effect; a reported kind is appended while the
queue holds fewer than 32 records, and otherwise dropped with the overflow flag set (R167). -/
def State.post (s : State) (b : EventBody) : State :=
  if s.reports b.kind then
    if s.events.length < Config.eventCapacity then
      { s with events := s.events ++ [{ body := b, time := s.clock, clockUnset := !s.clockSet }] }
    else { s with overflow := true }
  else s

/-- Postings in the order given. -/
def State.postAll (s : State) (bs : List EventBody) : State := bs.foldl State.post s

/-- An event body; unused arguments are 0 (R159). -/
def eventOf (kind : EventKind) (crane : Option Crane := none) (sector : Option Sector := none)
    (a b c : Nat := 0) : EventBody :=
  { kind := kind, crane := crane, sector := sector, argA := BitVec.ofNat 16 a,
    argB := BitVec.ofNat 16 b, argC := BitVec.ofNat 16 c }

/-- The argument that stands for none in a two-octet field (R157). -/
def noneArg : Nat := 65535

/-! ### Replies (R161, R162) -/

/-- What an operation answers: the state it leaves, the result, the locator and the data. -/
structure Answer where
  state : State
  result : Result
  locator : Nat := 0
  data : List Byte := []

/-- An operation carried out and answered OK. -/
def accept (s : State) (data : List Byte := []) : Answer := { state := s, result := .ok, data := data }

/-- An operation refused: nothing is changed and no data is given. -/
def refuse (s : State) (r : Result) : Answer := { state := s, result := r }

/-- A request is discarded whole when the reply queue already holds 4 replies; otherwise the operation is
made and its reply is appended at the end of its event (R161, R162). -/
def answerRequest (tag operation : Byte) (op : State → Answer) (s : State) : State :=
  if s.replies.length < Config.replyCapacity then
    let a := op s
    { a.state with
      replies := a.state.replies ++
        [{ tag := tag, operation := operation, result := a.result,
           locator := BitVec.ofNat 16 a.locator, data := a.data }] }
  else s

/-! ### Timers (00 Timers) -/

/-- A timer one tick or one second further. -/
def runDown (t : Timer) : Timer := t.map (· - 1)

/-- A running timer whose time has run out. -/
def runOut (t : Timer) : Bool := t == some 0

/-! ### Sequence numbers (R20, R111, R140) -/

/-- A sequence is accepted when the reference is open or the sequence is newer: (s - q) modulo 256 lies in 1
to 127. -/
def seqAccepted (ref : Option Byte) (s : Byte) : Bool :=
  match ref with
  | none => true
  | some q => within 1 127 (s - q).toNat

/-! ### Sets of cranes, kept in ascending number -/

/-- A set with a crane added. -/
def craneAdd (xs : List Crane) (c : Crane) : List Crane := allCranes.filter (fun d => xs.contains d || d == c)

/-- A set with a crane removed. -/
def craneRemove (xs : List Crane) (c : Crane) : List Crane := xs.filter (fun d => d != c)

/-! ### Link counters (R154) -/

/-- A counter raised by one, staying at 65535. -/
def raiseCounter (n : Nat) : Nat := min (n + 1) 65535

/-- One CRC error counted. -/
def State.countCrc (s : State) (l : Link) : State :=
  s.setCounter l { s.counter l with crc := raiseCounter (s.counter l).crc }

/-- One length error counted. -/
def State.countLength (s : State) (l : Link) : State :=
  s.setCounter l { s.counter l with length := raiseCounter (s.counter l).length }

/-- One misdirected frame counted. -/
def State.countMisdirected (s : State) (l : Link) : State :=
  s.setCounter l { s.counter l with misdirected := raiseCounter (s.counter l).misdirected }

end Sys2Proof.Machine
end

