-- ==== Sys2Proof/Machine/Flags.lean ====
section
/-! DEFINITION. Flags and codes: flags packed into octets, and the codes of the enumerated values, each by its
place in the list where its field is first specified (R157). -/

namespace Sys2Proof.Machine

/-- A yes/no value, flag or mark: 1 for yes or set (R157). -/
def flag (b : Bool) : Nat := if b then 1 else 0

/-- Flags packed with the first in bit 0 (R157). -/
def packFlags : List Bool → Nat
  | [] => 0
  | b :: bs => flag b + 2 * packFlags bs

/-- The bit mask of a set of cranes: bit n for crane n (R157). -/
def craneMask (xs : List Crane) : Nat := packFlags (allCranes.map xs.contains)

/-- The bit mask of a set of sectors: bit n for sector n (R157). -/
def sectorMask (xs : List Sector) : Nat := packFlags (allSectors.map xs.contains)

/-- A crane, sector or line in one octet, FFh for none (R157). -/
def octetOrNone {n : Nat} (x : Option (Fin n)) : Nat :=
  match x with
  | some i => i.val
  | none => 255

/-- A sequence reference in two octets, FFFFh for open (R157). -/
def referenceCode (r : Option Byte) : Nat :=
  match r with
  | some b => b.toNat
  | none => 65535

/-- A timer's time remaining, 0 for stopped (R157). -/
def timeLeft (t : Timer) : Nat := t.getD 0

/-- NONE 0, TRACKED 1, DEGRADED 2, LOST 3. -/
def positionCode : PositionState → Nat
  | .none => 0 | .tracked => 1 | .degraded => 2 | .lost => 3

/-- UNLOADED 0, PICKING 1, LOADED 2, SETTING 3. -/
def detectorCode : DetectorState → Nat
  | .unloaded => 0 | .picking => 1 | .loaded => 2 | .setting => 3

/-- BOOKED 0, ROUTINE 1, CRANE_ONLY 2. -/
def attributionCode : Attribution → Nat
  | .booked _ _ => 0 | .routine _ => 1 | .craneOnly => 2

/-- The sector an attribution names. -/
def attributionSector : Attribution → Option Sector
  | .booked k _ => some k | .routine k => some k | .craneOnly => none

/-- The booking id an attribution names, 0 for none. -/
def attributionBooking : Attribution → Nat
  | .booked _ id => id.toNat | .routine _ => 0 | .craneOnly => 0

/-- CALM 0, ALERT 1, STOP 2, VANE_PENDING 3, VANE 4. -/
def windCode : WindState → Nat
  | .calm => 0 | .alert => 1 | .stop => 2 | .vanePending => 3 | .vane => 4

/-- NONE 0, OWN 1, BORROWED 2, in every frame and reply. -/
def sourceCode : WindSource → Nat
  | .none => 0 | .own => 1 | .borrowed _ => 2

/-- The lender a source names. -/
def lenderOf : WindSource → Option Crane
  | .borrowed l => some l
  | _ => none

/-- fresh 0, stale 1. -/
def freshCode (fresh : Bool) : Nat := if fresh then 0 else 1

/-- WAITING 0 to CANCELLED 5. -/
def bookingCode : BookingState → Nat
  | .waiting => 0 | .active => 1 | .suspended => 2 | .exhausted => 3 | .expired => 4 | .cancelled => 5

/-- ADD 0 to TABLE 7. -/
def causeCode : BookingCause → Nat
  | .add => 0 | .window => 1 | .clock => 2 | .crane => 3 | .mode => 4 | .quota => 5 | .cancel => 6
  | .table => 7

/-- PLANNED 0, CRITICAL 1. -/
def classCode : BookingClass → Nat
  | .planned => 0 | .critical => 1

/-- JIB 0, HOOK 1. -/
def clashCode : ClashKind → Nat
  | .jib => 0 | .hook => 1

/-- CONFIG 0, ARMED 1. -/
def modeCode : Mode → Nat
  | .config => 0 | .armed => 1

/-- ROUTINE 0, BOOKED 1. -/
def grantCode : GrantKind → Nat
  | .routine => 0 | .booked _ => 1

/-- The booking id of a grant, 0 for none. -/
def grantBooking : GrantKind → Nat
  | .routine => 0 | .booked id => id.toNat

/-- SLICE 0, BOOKING 1. -/
def yieldCode : YieldCause → Nat
  | .slice => 0 | .booking => 1

/-- NONE 0 to ZONE 7. -/
def reasonCode : Reason → Nat
  | .none => 0 | .site => 1 | .posn => 2 | .wind => 3 | .exit => 4 | .sect => 5 | .book => 6 | .zone => 7

/-- HOLD 1 to NONE 12. -/
def adviceCode : Advice → Nat
  | .hold => 1 | .position => 2 | .vane => 3 | .parkForVane => 4 | .windStop => 5 | .evacuate => 6
  | .yield => 7 | .overstay => 8 | .waitSector => 9 | .booked => 10 | .windAlert => 11 | .none => 12

/-- OK 0 to NO_DATA 14. -/
def resultCode : Result → Nat
  | .ok => 0 | .notInConfig => 1 | .notArmed => 2 | .wrongState => 3 | .badValue => 4 | .badIndex => 5
  | .tableFull => 6 | .duplicateId => 7 | .noSuchId => 8 | .pastWindow => 9 | .checkFailed => 10
  | .windHigh => 11 | .notParked => 12 | .vaneActive => 13 | .noData => 14

end Sys2Proof.Machine
end

