-- ==== Sys2Proof/Machine/Arbiter.lean ====
section
/-! DEFINITION. The sector arbiter (chapter 4): what one sector entry makes of each event it takes, as a function
of the entry alone, and the entry's events taken in the state, with the notices of R76. -/

namespace Sys2Proof.Machine

/-- What an entry reads beside itself: its number, its sector record, whether the site is ARMED, and the request
keep time. -/
structure SectorContext where
  sector : Sector
  record : SectorRecord
  armed : Bool
  keepTime : Nat
  deriving DecidableEq, Repr

/-- An entry after an event, and the event records raised. -/
abbrev EntryStep := SectorEntry × List EventBody

/-- One more change in the same event. -/
def chain (x : EntryStep) (f : SectorEntry → EntryStep) : EntryStep :=
  ((f x.1).1, x.2 ++ (f x.1).2)

/-! ### Reading an entry (R54, R55, R59, R72) -/

/-- The holder, in HELD. -/
def holderOf (e : SectorEntry) : Option Crane :=
  match e.base with
  | .held h _ => some h
  | _ => none

/-- The holder in HELD, the former holder in CLEARING: the crane whose grant the record is. -/
def ownerOf (e : SectorEntry) : Option Crane :=
  match e.base with
  | .held h _ => some h
  | .clearing f _ _ => some f
  | _ => none

/-- The grant record. -/
def grantOf (e : SectorEntry) : Option Grant :=
  match e.base with
  | .held _ g => some g
  | .clearing _ g _ => some g
  | _ => none

/-- The lock set (R72). -/
def lockSet (clash : ClashKind) (e : SectorEntry) : List Crane :=
  match clash with
  | .hook => e.locks
  | .jib => e.locks.take 1

/-- The state of a sector as other blocks read it, in the order of R166. -/
inductive SectorState where
  | free
  | held
  | clearing
  | contested
  | locked
  | closed
  deriving DecidableEq, Repr

/-- The base state of an entry, as a state. -/
def baseState (e : SectorEntry) : SectorState :=
  match e.base with
  | .free => .free
  | .held _ _ => .held
  | .clearing _ _ _ => .clearing
  | .contested => .contested

/-- R55: CLOSED, else LOCKED, else the base state. -/
def stateOf (clash : ClashKind) (e : SectorEntry) : SectorState :=
  if e.closed then .closed
  else if lockSet clash e ≠ [] then .locked
  else baseState e

/-- FREE 0 to CLOSED 5 (R166). -/
def sectorCode : SectorState → Nat
  | .free => 0 | .held => 1 | .clearing => 2 | .contested => 3 | .locked => 4 | .closed => 5

/-- Whether the claimant names crane `c`. -/
def claims (e : SectorEntry) (c : Crane) : Bool :=
  match e.claimant with
  | some cl => cl.crane == c
  | none => false

/-- R59: a waiter is a queue entry, or a claimant naming a crane other than the owner of the grant. -/
def hasWaiter (e : SectorEntry) : Bool :=
  !e.queue.isEmpty ||
  (match e.claimant with
   | some cl => ownerOf e != some cl.crane
   | none => false)

/-- Whether crane `c` has an entry in the request queue. -/
def queued (e : SectorEntry) (c : Crane) : Bool := e.queue.any (fun q => q.crane == c)

/-- A request queue without crane `c`'s entry. -/
def withdraw (q : List QueueEntry) (c : Crane) : List QueueEntry := q.filter (fun x => x.crane != c)

/-- The members present that are exit cranes (the table of R55, R42). -/
def exitCranes (clash : ClashKind) (e : SectorEntry) : List Crane :=
  e.presence.filter (fun c => holderOf e != some c && !(lockSet clash e).contains c)

/-- R45: the holder of a HELD sector in which another member is present. -/
def intruded (e : SectorEntry) : Option Crane :=
  match holderOf e with
  | some h => if e.presence.any (fun c => c != h) then some h else none
  | none => none

/-! ### Flags of the grant (R66, R67, R68) -/

/-- The entry with its grant record changed. -/
def mapGrant (f : Grant → Grant) (e : SectorEntry) : SectorEntry :=
  { e with base := match e.base with
                   | .held h g => .held h (f g)
                   | .clearing c g n => .clearing c (f g) n
                   | b => b }

/-- R68: the yield flag set with a cause, with its YIELD event. BOOKING over SLICE changes the cause; any other
setting over a flag already set changes nothing (log 6). -/
def setYield (x : SectorContext) (cause : YieldCause) (e : SectorEntry) : EntryStep :=
  match ownerOf e, grantOf e with
  | some o, some g =>
    if g.yielding = none ∨ (g.yielding = some .slice ∧ cause = .booking) then
      (mapGrant (fun g => { g with yielding := some cause }) e,
        [eventOf .yield (some o) (some x.sector) (yieldCode cause)])
    else (e, [])
  | _, _ => (e, [])

/-- R66: the overstay flag set, with its OVERSTAY event. -/
def setOverstay (x : SectorContext) (e : SectorEntry) : EntryStep :=
  match ownerOf e with
  | some o =>
    (mapGrant (fun g => { g with overstay := true }) e, [eventOf .overstay (some o) (some x.sector)])
  | none => (e, [])

/-- R66 and R67 at the arrival of a waiter. -/
def waiterArrives (x : SectorContext) (e : SectorEntry) : EntryStep :=
  match grantOf e with
  | none => (e, [])
  | some g =>
    chain (if g.expired && !g.overstay then setOverstay x e else (e, []))
      (fun e' =>
        if g.kind = .routine ∧ x.record.slice ≠ 0 ∧ g.sliceLeft = 0 ∧ g.yielding = none then
          setYield x .slice e'
        else (e', []))

/-- R68: without a waiter the yield flag is clear after any event. -/
def clearIdleYield (e : SectorEntry) : SectorEntry :=
  if hasWaiter e then e else mapGrant (fun g => { g with yielding := none }) e

/-! ### The grant and its evaluation (R60, R61, R62) -/

/-- R61: the sector granted to crane `c`; `how` is the GRANT event's detail: PRESENCE 0, CLAIMANT 1, RESUME 2,
QUEUE 3. -/
def grantSector (x : SectorContext) (c : Crane) (kind : GrantKind) (how : Nat) (e : SectorEntry) : EntryStep :=
  let grant : Grant :=
    { kind := kind, sliceLeft := x.record.slice,
      hold := if kind = .routine then some x.record.holdLimit else none,
      expired := false, yielding := none, overstay := false }
  ({ e with base := .held c grant, queue := withdraw e.queue c },
    [eventOf .grant (some c) (some x.sector) (grantBooking kind) (grantCode kind) how])

/-- An INTRUSION event: the entering crane, and the state of the sector at entry (R76). -/
def intrusion (x : SectorContext) (c : Crane) (st : SectorState) : EventBody :=
  eventOf .intrusion (some c) (some x.sector) (sectorCode st)

/-- R60: the grant evaluation of a FREE sector. `entering` is the crane whose own enter report is being taken,
if the event is one. -/
def evaluateGrant (x : SectorContext) (entering : Option Crane) (e : SectorEntry) : EntryStep :=
  match e.presence.filter (fun c => !e.locks.contains c) with
  | _ :: _ :: rest =>
    ({ e with base := .contested },
      [eventOf .contested none (some x.sector) (rest.length + 2)])
  | here =>
    if e.obstruction ≠ [] then (e, [])
    else
      match here, e.claimant, e.queue with
      | c :: _, claimant, _ =>
        let booked := claims e c
        let kind := match claimant with
          | some cl => if booked then GrantKind.booked cl.booking else .routine
          | none => .routine
        let unasked := entering = some c ∧ ¬ (queued e c || booked)
        chain (grantSector x c kind 0 e) (fun e' =>
          chain (e', if unasked then [intrusion x c .free] else []) (fun e' =>
            if claimant ≠ none ∧ ¬ booked then setYield x .booking e' else (e', [])))
      | [], some cl, _ => grantSector x cl.crane (.booked cl.booking) 1 e
      | [], none, q :: _ => grantSector x q.crane .routine (if q.resume then 2 else 3) e
      | [], none, [] => (e, [])

/-- What follows any event an enabled entry takes: in the ARMED site a CONTESTED sector with one member or none
present becomes FREE (R62), and a FREE sector is evaluated (R60); the yield flag is cleared where no crane waits
(R68). -/
def judge (x : SectorContext) (entering : Option Crane) (e : SectorEntry) : EntryStep :=
  if x.armed then
    let e1 := if stateOf x.record.clash e = .contested ∧ e.presence.length ≤ 1 then { e with base := .free } else e
    let st := if stateOf x.record.clash e1 = .free then evaluateGrant x entering e1 else (e1, [])
    (clearIdleYield st.1, st.2)
  else (e, [])

/-! ### Presence reports (R56, R62, R63, R64) -/

/-- Whether a report carries enter. -/
def changeEnters : PresenceChange → Bool
  | .enter => true | .unobstructEnter => true | _ => false
/-- Whether a report carries leave. -/
def changeLeaves : PresenceChange → Bool
  | .leave => true | .obstructLeave => true | _ => false
/-- Whether a report carries obstruct. -/
def changeObstructs : PresenceChange → Bool
  | .obstruct => true | .obstructLeave => true | _ => false
/-- Whether a report carries unobstruct. -/
def changeUnobstructs : PresenceChange → Bool
  | .unobstruct => true | .unobstructEnter => true | _ => false

/-- R56: the sets changed by a report, and the queue entry of a crane that begins to obstruct withdrawn. -/
def applyReport (c : Crane) (ch : PresenceChange) (e : SectorEntry) : SectorEntry :=
  { e with
    presence := if changeEnters ch then craneAdd e.presence c
                else if changeLeaves ch then craneRemove e.presence c else e.presence,
    obstruction := if changeObstructs ch then craneAdd e.obstruction c
                   else if changeUnobstructs ch then craneRemove e.obstruction c else e.obstruction,
    queue := if changeObstructs ch then withdraw e.queue c else e.queue }

/-- What the report does to the base state, before the sector is judged (R62, R63, R64). -/
def reportBase (x : SectorContext) (c : Crane) (ch : PresenceChange) (e : SectorEntry) : EntryStep :=
  let e1 := applyReport c ch e
  let intruder (st : SectorState) : List EventBody := if changeEnters ch then [intrusion x c st] else []
  match stateOf x.record.clash e, e.base with
  | .held, .held h g =>
    if h = c then
      if changeLeaves ch || changeObstructs ch then
        ({ e1 with base := .clearing c g x.record.clearingTime }, [])
      else (e1, [])
    else (e1, intruder .held)
  | .clearing, .clearing f g _ =>
    if f = c then
      if changeEnters ch then ({ e1 with base := .held c g, queue := withdraw e1.queue c }, []) else (e1, [])
    else (e1, intruder .clearing)
  | .contested, _ => (e1, intruder .contested)
  | _, _ => (e1, [])

/-- One presence report taken by the entry. -/
def takeReport (x : SectorContext) (c : Crane) (ch : PresenceChange) (e : SectorEntry) : EntryStep :=
  let entering := if stateOf x.record.clash e = .free ∧ changeEnters ch then some c else none
  chain (reportBase x c ch e) (judge x entering)

/-! ### Knocks and the request queue (R57, R58, R65) -/

/-- R57: a knock that is neither discarded, without effect, nor the former holder's return. -/
def enqueue (x : SectorContext) (c : Crane) (e : SectorEntry) : EntryStep :=
  if queued e c then
    ({ e with queue := e.queue.map (fun q => if q.crane = c then { q with keep := x.keepTime } else q) }, [])
  else if e.queue.length < Config.queueCapacity then
    let e1 := { e with queue := e.queue ++ [{ crane := c, keep := x.keepTime, resume := false }] }
    if hasWaiter e then (e1, []) else waiterArrives x e1
  else (e, [])

/-- R65: whether a knock gives the sector in CLEARING back to its former holder. -/
def knockReturns (c : Crane) (e : SectorEntry) : Option Grant :=
  match e.base with
  | .clearing f g _ =>
    if f = c ∧ e.queue = [] ∧ (e.claimant = none ∨ claims e c) then some g else none
  | _ => none

/-- One knock taken by the entry. -/
def takeKnock (x : SectorContext) (c : Crane) (e : SectorEntry) : EntryStep :=
  if !x.armed || !x.record.members.contains c then (e, [])
  else if holderOf e = some c ∨ c ∈ e.locks then (e, [])
  else
    chain
      (match knockReturns c e with
       | some g => ({ e with base := .held c g }, [])
       | none => enqueue x c e)
      (judge x none)

/-- R58: a keep timer's expiry: the entry leaves the queue. -/
def takeKeepExpiry (x : SectorContext) (c : Crane) (e : SectorEntry) : EntryStep :=
  if queued e c then judge x none { e with queue := withdraw e.queue c } else (e, [])

/-! ### Bookings and grants (R69, R71) -/

/-- R71: a BOOKED grant whose booking has left ACTIVE becomes ROUTINE. -/
def endPriority (x : SectorContext) (e : SectorEntry) : EntryStep :=
  let e1 := mapGrant (fun g => { g with kind := .routine, sliceLeft := x.record.slice,
                                        hold := some x.record.holdLimit, expired := false }) e
  if hasWaiter e1 then setYield x .booking e1 else (e1, [])

/-- R71 for the bookings a report lists as having left ACTIVE. -/
def endListed (x : SectorContext) (left : List (Half × BookingState)) (e : SectorEntry) : EntryStep :=
  match grantOf e with
  | some g =>
    match g.kind with
    | .booked id => if left.any (fun b => b.1 == id) then endPriority x e else (e, [])
    | .routine => (e, [])
  | none => (e, [])

/-- R69: a GRANT event with detail CONVERTED. -/
def converted (x : SectorContext) (cl : Claimant) : EventBody :=
  eventOf .grant (some cl.crane) (some x.sector) cl.booking.toNat 1 4

/-- R69 in HELD or CLEARING, once the new claimant has been recorded. -/
def applyClaimant (x : SectorContext) (e : SectorEntry) : EntryStep :=
  match e.claimant, ownerOf e, grantOf e with
  | some cl, some o, some g =>
    if cl.crane = o then
      match g.kind with
      | .routine =>
        (mapGrant (fun g => { g with kind := .booked cl.booking, hold := none, expired := false,
                                     overstay := false, yielding := none }) e, [converted x cl])
      | .booked id =>
        if id = cl.booking then (e, [])
        else (mapGrant (fun g => { g with kind := .booked cl.booking }) e, [converted x cl])
    else setYield x .booking e
  | _, _, _ => (e, [])

/-- One booked-claimant change taken by the entry: first R71, then the new claimant by R69, and then the arrival of a
waiter if it is one (R66, R67). So the yield flag is set with cause BOOKING before a spent slice could set it, and YIELD
stands before OVERSTAY (log 25, DESIGN CHOICE). -/
def takeClaimant (x : SectorContext) (left : List (Half × BookingState)) (cl : Option Claimant)
    (e : SectorEntry) : EntryStep :=
  chain
    (chain (chain (endListed x left e) (fun e1 => applyClaimant x { e1 with claimant := cl }))
      (fun e2 => if !hasWaiter e && hasWaiter e2 then waiterArrives x e2 else (e2, [])))
    (judge x none)

/-! ### Clearing and the hold limit (R64, R66, R70) -/

/-- R70: whether the ending grant carries a resume claim. -/
def resumeClaim (f : Crane) (g : Grant) (e : SectorEntry) : Bool :=
  g.kind == .routine && g.yielding == some .booking && e.claimant != none && !claims e f

/-- R64 and R70: the clearing timer's expiry. -/
def takeClearingExpiry (x : SectorContext) (e : SectorEntry) : EntryStep :=
  match e.base with
  | .clearing f g _ =>
    chain
      (chain ({ e with base := .free }, [eventOf .release (some f) (some x.sector) 0]) (judge x none))
      (fun e2 =>
        match e2.base with
        | .held h _ =>
          if resumeClaim f g e ∧ h ≠ f then
            ({ e2 with queue := { crane := f, keep := x.keepTime, resume := true } :: withdraw e2.queue f }, [])
          else (e2, [])
        | _ => (e2, []))
  | _ => (e, [])

/-- R66: the hold timer's expiry. -/
def takeHoldExpiry (x : SectorContext) (e : SectorEntry) : EntryStep :=
  match grantOf e with
  | some g =>
    if g.hold = none then (e, [])
    else
      let e1 := mapGrant (fun g => { g with hold := none }) e
      chain
        (if hasWaiter e1 then setOverstay x e1
         else (mapGrant (fun g => { g with expired := true }) e1, []))
        (judge x none)
  | none => (e, [])

/-! ### Locks, closure and opening (R72, R73, R74) -/

/-- R73: on entry to CLOSED or LOCKED the grant ends. `cause` is CLOSED 1 or LOCKED 2. Where two members outside the
lock set are present the base state becomes CONTESTED under the closure or the lock: neither that, nor the opening of
such a sector into CONTESTED, raises a CONTESTED event (log 24, DESIGN CHOICE). -/
def dispossess (x : SectorContext) (cause : Nat) (e : SectorEntry) : EntryStep :=
  let outside := e.presence.filter (fun c => !(lockSet x.record.clash e).contains c)
  let base : Base := if outside.length ≥ 2 then .contested else .free
  match e.base with
  | .held h _ =>
    ({ e with base := base },
      eventOf .release (some h) (some x.sector) cause ::
        (if h ∈ outside then [eventOf .evacuate (some h) (some x.sector) cause] else []))
  | .clearing f _ _ => ({ e with base := base }, [eventOf .release (some f) (some x.sector) cause])
  | _ => (e, [])

/-- R72: a lock request for crane `c`. -/
def takeLock (x : SectorContext) (c : Crane) (e : SectorEntry) : EntryStep :=
  if x.armed && x.record.members.contains c then
    let e1 := { e with locks := if e.locks.contains c then e.locks else e.locks ++ [c],
                       queue := withdraw e.queue c }
    chain (if e.closed = false ∧ lockSet x.record.clash e = [] then dispossess x 2 e1 else (e1, []))
      (judge x none)
  else (e, [])

/-- R72, R74: an unlock for crane `c`. -/
def takeUnlock (x : SectorContext) (c : Crane) (e : SectorEntry) : EntryStep :=
  if x.record.members.contains c then judge x none { e with locks := craneRemove e.locks c } else (e, [])

/-- R73, R74: CLOSE. -/
def takeClose (x : SectorContext) (e : SectorEntry) : EntryStep :=
  if e.closed then (e, [])
  else
    chain
      (if lockSet x.record.clash e = [] then dispossess x 1 { e with closed := true }
       else ({ e with closed := true }, []))
      (judge x none)

/-- R74: OPEN. -/
def takeOpen (x : SectorContext) (e : SectorEntry) : EntryStep :=
  if e.closed then judge x none { e with closed := false } else (e, [])

/-! ### Lift attribution (R75, R67) -/

/-- R67: one lift off the slice of a ROUTINE grant. -/
def countSlice (x : SectorContext) (g : Grant) (e : SectorEntry) : EntryStep :=
  if x.record.slice ≠ 0 ∧ g.sliceLeft > 0 then
    let e1 := mapGrant (fun g => { g with sliceLeft := g.sliceLeft - 1 }) e
    if g.sliceLeft = 1 ∧ hasWaiter e then setYield x .slice e1 else (e1, [])
  else (e, [])

/-- R75: the arbiter's answer for a lift of crane `c`. -/
def answerLift (x : SectorContext) (c : Crane) (e : SectorEntry) : Attribution :=
  match e.base with
  | .held h g =>
    if h = c then
      match g.kind with
      | .booked id => .booked x.sector id
      | .routine => .routine x.sector
    else .craneOnly
  | _ => .craneOnly

/-- R75: what the lift does to the entry. -/
def takeLift (x : SectorContext) (c : Crane) (e : SectorEntry) : EntryStep :=
  match answerLift x c e, grantOf e with
  | .routine _, some g => chain (countSlice x g e) (judge x none)
  | _, _ => (e, [])

/-! ### Site modes (R77, R78) -/

/-- R77: an entry set up afresh at arming. -/
def takeArm (x : SectorContext) (presence obstruction : List Crane) (cl : Option Claimant)
    (_ : SectorEntry) : EntryStep :=
  judge x none { SectorEntry.reset with presence := presence, obstruction := obstruction, claimant := cl }

/-- R78: an entry cleared at DISARM; its sets and its claimant are kept. -/
def takeDisarm (e : SectorEntry) : EntryStep :=
  ({ e with base := .free, queue := [], locks := [], closed := false }, [])

/-! ### An entry's event in the state -/

/-- The context of sector `k`'s entry. -/
def State.sectorContext (s : State) (k : Sector) : SectorContext :=
  { sector := k, record := s.sector k, armed := s.mode == .armed, keepTime := s.site.keepTime }

/-- R76: whether an event gives crane `c` a limit notice: a grant it held ended; it became an exit crane; it
became an intruded holder; the overstay or yield flag of a grant it holds was set; a grant it holds became BOOKED
or passed to another booking (log 7). -/
def noticed (clash : ClashKind) (before after : SectorEntry) (evs : List EventBody) (c : Crane) : Bool :=
  let names (kind : EventKind) : Bool := evs.any (fun b => b.kind == kind && b.crane == some c)
  let bookedNow : Bool := evs.any (fun b => b.kind == .grant && b.crane == some c && b.argB == 1)
  names .release
    || ((exitCranes clash after).contains c && !(exitCranes clash before).contains c)
    || (intruded after == some c && intruded before != some c)
    || (holderOf after == some c && (names .overstay || names .yield || bookedNow))

/-- R76: the notices of an event: limit notices in ascending crane number, then the report to the wind monitor. -/
def sectorNotices (k : Sector) (clash : ClashKind) (before after : SectorEntry) (evs : List EventBody) :
    List Notice :=
  (allCranes.filter (noticed clash before after evs)).map .limit ++
  (if lockSet clash before ≠ lockSet clash after ∨ (before.presence ≠ after.presence ∧ after.locks ≠ []) then
    [.handshake k] else [])

/-- One event taken by sector `k`'s entry: the entry, its event records and its notices. A disabled sector's
entry takes no event (R54). -/
def entryEvent (k : Sector) (f : SectorContext → SectorEntry → EntryStep) (s : State) : State :=
  if (s.sector k).enabled then
    let step := f (s.sectorContext k) (s.entry k)
    ((s.setEntry k step.1).postAll step.2).send
      (sectorNotices k (s.sector k).clash (s.entry k) step.1 step.2)
  else s

/-- PRESENCE_REPORT (R56). -/
def reportPresence (k : Sector) (c : Crane) (ch : PresenceChange) (s : State) : State :=
  entryEvent k (fun x e => takeReport x c ch e) s

/-- KNOCK (R57, R65). -/
def knockSector (k : Sector) (c : Crane) (s : State) : State := entryEvent k (fun x e => takeKnock x c e) s

/-- BOOKED_CLAIMANT_CHANGE (R69, R71). -/
def changeClaimant (k : Sector) (left : List (Half × BookingState)) (cl : Option Claimant) (s : State) : State :=
  entryEvent k (fun x e => takeClaimant x left cl e) s

/-- LOCK_REQUEST (R72). -/
def lockSector (k : Sector) (c : Crane) (s : State) : State := entryEvent k (fun x e => takeLock x c e) s

/-- UNLOCK (R72, R74). -/
def unlockSector (k : Sector) (c : Crane) (s : State) : State := entryEvent k (fun x e => takeUnlock x c e) s

/-- SECTOR_CLOSE's event (R73, R74). -/
def closeSector (k : Sector) (s : State) : State := entryEvent k takeClose s

/-- SECTOR_OPEN's event (R74). -/
def openSector (k : Sector) (s : State) : State := entryEvent k takeOpen s

/-- KEEP_TIMER_EXPIRY (R58). -/
def expireKeep (k : Sector) (c : Crane) (s : State) : State := entryEvent k (fun x e => takeKeepExpiry x c e) s

/-- CLEARING_EXPIRY (R64, R70). -/
def expireClearing (k : Sector) (s : State) : State := entryEvent k takeClearingExpiry s

/-- HOLD_TIMER_EXPIRY (R66). -/
def expireHold (k : Sector) (s : State) : State := entryEvent k takeHoldExpiry s

/-- The arbiter's answer for a completed lift of crane `c`: asked of the entry of the sector the tracker's record
names (R75). -/
def liftAnswer (s : State) (c : Crane) : Attribution :=
  match (s.position c).present with
  | some k => if (s.sector k).enabled then answerLift (s.sectorContext k) c (s.entry k) else .craneOnly
  | none => .craneOnly

/-- LIFT_ATTRIBUTION (R75): the entry takes the lift, and a lift of a BOOKED grant is passed to the booking. -/
def attributeLift (c : Crane) (s : State) : State :=
  match (s.position c).present with
  | some k =>
    let s1 := entryEvent k (fun x e => takeLift x c e) s
    match liftAnswer s c with
    | .booked _ id => s1.send [.liftCount id]
    | _ => s1
  | none => s

/-- The cranes the tracker holds present in sector `k`. -/
def State.presentIn (s : State) (k : Sector) : List Crane :=
  allCranes.filter (fun c => (s.position c).present == some k)

/-- The cranes the tracker holds as obstructing sector `k`. -/
def State.obstructing (s : State) (k : Sector) : List Crane :=
  allCranes.filter (fun c => (s.position c).obstructed.contains k)

end Sys2Proof.Machine
end

