-- ==== Sys2Proof/Machine/Limits.lean ====
section
/-! DEFINITION. The limit engine (chapter 3), with the segment lookup of chapter 1 and the evaluation values of
chapter 2: everything here reads the state and changes nothing. -/

namespace Sys2Proof.Machine

/-! ### Segments (R8, R9, R25) -/

/-- What stands where a zone table has no segment. -/
def noSegment : Segment := { start := 0, kind := .own, sector := 0, rLo := 0, rHi := 0, floor := 0 }

/-- Segment `i` of a zone table, counted round the circle. -/
def segmentAt (z : List Segment) (i : Nat) : Segment := z.getD (i % z.length) noSegment

/-- R8: the index of the segment that contains angle `θ`: the last whose start is at most `θ`, or else the last
of the list; none in an empty list. -/
def containing (z : List Segment) (θ : Nat) : Option Nat :=
  match ((List.range z.length).filter (fun i => (segmentAt z i).start ≤ θ)).getLast? with
  | some i => some i
  | none => if z = [] then none else some (z.length - 1)

/-- R8: the end of segment `i` is the start of the segment after it, round the circle. -/
def segmentEnd (z : List Segment) (i : Nat) : Nat := (segmentAt z (i + 1)).start

/-- An arc from angle `a` to angle `b` (Arithmetic). -/
def arc (a b : Nat) : Nat := (b + 8192 - a) % 8192

/-- R25: the held radius, at most L, with the trolley ok; L otherwise. -/
def State.evalRadius (s : State) (c : Crane) : Nat :=
  if (s.position c).trolleyOk then min (s.position c).radius (s.crane c).jib else (s.crane c).jib

/-- R25: the held height with the hoist ok; 0 otherwise. -/
def State.evalHeight (s : State) (c : Crane) : Nat :=
  if (s.position c).hoistOk then (s.position c).height else 0

/-- The position state is TRACKED or DEGRADED. -/
def State.located (s : State) (c : Crane) : Bool :=
  (s.position c).state == .tracked || (s.position c).state == .degraded

/-- Whether a radius lies in a segment's band; both ends belong to it (R9). -/
def inBand (g : Segment) (r : Nat) : Bool := g.rLo ≤ r && r ≤ g.rHi

/-- R9: whether a radius and height lie in the barred volume of a BARRED segment. -/
def inVolume (g : Segment) (r h : Nat) : Bool := inBand g r && (g.floor == 0 || decide (h < g.floor))

/-- The sector of a SHARED segment of which crane `c` is a member. A SHARED segment whose sector is disabled or
does not list the crane is treated as OWN (R36). -/
def State.sharedSector (s : State) (c : Crane) (g : Segment) : Option Sector :=
  if g.kind = .shared ∧ s.isMember g.sector c then some g.sector else none

/-- Crane `c` holds sector `k`. The base state is HELD only while the sector is neither CLOSED nor LOCKED
(R55). -/
def State.holds (s : State) (k : Sector) (c : Crane) : Bool := holderOf (s.entry k) == some c

/-- The sectors crane `c` holds, in ascending number. -/
def State.heldBy (s : State) (c : Crane) : List Sector := allSectors.filter (fun k => s.holds k c)

/-- Sector `k`'s lock set. -/
def State.locksOf (s : State) (k : Sector) : List Crane := lockSet (s.sector k).clash (s.entry k)

/-- R36: whether a segment of crane `c`'s zone table is barred for it. -/
def State.barred (s : State) (c : Crane) (g : Segment) : Bool :=
  match g.kind with
  | .own => false
  | .barred => inVolume g (s.evalRadius c) (s.evalHeight c)
  | .shared =>
    match s.sharedSector c g with
    | none => false
    | some k => !s.holds k c && ((s.sector k).clash == .jib || inBand g (s.evalRadius c))

/-- R37: the current segment of a crane that is TRACKED or DEGRADED. -/
def State.current (s : State) (c : Crane) : Option Nat :=
  if s.located c then containing (s.zone c) (s.position c).angle else none

/-! ### Exit cranes (R37, R42) -/

/-- What an exit crane is exiting: a sector, or a BARRED segment. -/
inductive ExitPlace where
  | sector (k : Sector)
  | barred (g : Segment)
  deriving DecidableEq, Repr

/-- R37, R42: the exit case: the current segment is barred for the crane, and the crane is not in the lock set of
the segment's sector. -/
def State.exitPlace (s : State) (c : Crane) : Option ExitPlace :=
  match s.current c with
  | none => none
  | some i =>
    let g := segmentAt (s.zone c) i
    if s.barred c g then
      match s.sharedSector c g with
      | some k => if (s.locksOf k).contains c then none else some (.sector k)
      | none => some (.barred g)
    else none

/-! ### Limits in six directions -/

/-- The three axes. -/
inductive Axis where
  | slew
  | trolley
  | hoist
  deriving DecidableEq, Repr

/-- One limit, or one part of a contribution, for each direction of each axis. -/
structure Limits where
  slewPos : Nat
  slewNeg : Nat
  trolleyPos : Nat
  trolleyNeg : Nat
  hoistPos : Nat
  hoistNeg : Nat
  deriving DecidableEq, Repr

/-- The limit of an axis in a direction; `positive` is outward, up, or increasing angle. -/
def Limits.get (l : Limits) (a : Axis) (positive : Bool) : Nat :=
  match a, positive with
  | .slew, true => l.slewPos
  | .slew, false => l.slewNeg
  | .trolley, true => l.trolleyPos
  | .trolley, false => l.trolleyNeg
  | .hoist, true => l.hoistPos
  | .hoist, false => l.hoistNeg

/-- The same value in both directions of each axis. -/
def perAxisLimits (slew trolley hoist : Nat) : Limits := ⟨slew, slew, trolley, trolley, hoist, hoist⟩

/-- No part in force: 1000 everywhere (R51). -/
def fullLimits : Limits := perAxisLimits 1000 1000 1000

/-- Nothing permitted. -/
def zeroLimits : Limits := perAxisLimits 0 0 0

/-- The lower in each direction (R51). -/
def lowerLimits (a b : Limits) : Limits :=
  ⟨min a.slewPos b.slewPos, min a.slewNeg b.slewNeg, min a.trolleyPos b.trolleyPos,
   min a.trolleyNeg b.trolleyNeg, min a.hoistPos b.hoistPos, min a.hoistNeg b.hoistNeg⟩

/-- The hoist-up 0 of a booked overload (R50). -/
def noHoistUp : Limits := { fullLimits with hoistPos := 0 }

/-- A crane's own creep on every axis, in both directions. -/
def State.creepLimits (s : State) (c : Crane) : Limits :=
  perAxisLimits (s.crane c).slew.creep (s.crane c).trolley.creep (s.crane c).hoist.creep

/-! ### ZONE (R38 to R41) -/

/-- R38: the indices scanned from the current segment, forward or backward, until the current one comes round. -/
def scanOrder (n i : Nat) (forward : Bool) : List Nat :=
  (List.range (n - 1)).map (fun j => if forward then (i + 1 + j) % n else (i + n - 1 - j) % n)

/-- R38: the barred segment at which the slew scan stops. -/
def State.slewBarrier (s : State) (c : Crane) (i : Nat) (forward : Bool) : Option Nat :=
  (scanOrder (s.zone c).length i forward).find? (fun j => s.barred c (segmentAt (s.zone c) j))

/-- R38: the slew distance in a direction; none where the scan meets no barrier. -/
def State.slewDistance (s : State) (c : Crane) (i : Nat) (forward : Bool) : Option Nat :=
  (s.slewBarrier c i forward).map (fun j =>
    if forward then arc (s.position c).angle (segmentAt (s.zone c) j).start
    else arc (segmentEnd (s.zone c) j) ((s.position c).angle + 1))

/-- R39: whether the current segment is of a barring kind for the trolley. -/
def State.barsTrolley (s : State) (c : Crane) (g : Segment) : Bool :=
  match g.kind with
  | .own => false
  | .barred => g.floor == 0 || decide (s.evalHeight c < g.floor)
  | .shared =>
    match s.sharedSector c g with
    | none => false
    | some k => (s.sector k).clash == .hook && !s.holds k c && !(s.locksOf k).contains c

/-- R39: the trolley distance in a direction; `outward` is positive. -/
def State.trolleyDistance (s : State) (c : Crane) (g : Segment) (outward : Bool) : Option Nat :=
  let r := s.evalRadius c
  if s.barsTrolley c g then
    if outward then (if r < g.rLo then some (g.rLo - r) else none)
    else (if r > g.rHi then some (r - g.rHi) else none)
  else none

/-- R40: the downward hoist distance. -/
def State.hoistDistance (s : State) (c : Crane) (g : Segment) : Option Nat :=
  if g.kind = .barred ∧ g.floor ≠ 0 ∧ inBand g (s.evalRadius c) ∧ g.floor ≤ s.evalHeight c then
    some (s.evalHeight c - g.floor)
  else none

/-- R41: the approach ramp. -/
def ramp (p : AxisParams) (d : Option Nat) : Nat :=
  match d with
  | none => 1000
  | some d =>
    if d ≤ p.margin then 0
    else if d < p.margin + p.band then p.creep + (1000 - p.creep) * (d - p.margin) / p.band
    else 1000

/-- The ZONE contribution: 1000 in the exit case, without a position, and without a segment (R8, R37, R41). -/
def State.zoneLimits (s : State) (c : Crane) : Limits :=
  match s.exitPlace c, s.current c with
  | none, some i =>
    let g := segmentAt (s.zone c) i
    { slewPos := ramp (s.crane c).slew (s.slewDistance c i true),
      slewNeg := ramp (s.crane c).slew (s.slewDistance c i false),
      trolleyPos := ramp (s.crane c).trolley (s.trolleyDistance c g true),
      trolleyNeg := ramp (s.crane c).trolley (s.trolleyDistance c g false),
      hoistPos := 1000,
      hoistNeg := ramp (s.crane c).hoist (s.hoistDistance c g) }
  | _, _ => fullLimits

/-! ### EXIT (R43, R44, R45) -/

/-- R43: whether a segment belongs to the exit run. -/
def State.inRun (s : State) (c : Crane) (p : ExitPlace) (g : Segment) : Bool :=
  match p with
  | .sector k => s.sharedSector c g == some k
  | .barred _ => g.kind == .barred && inVolume g (s.evalRadius c) (s.evalHeight c)

/-- R43: how many segments beyond the current one the run reaches, forward or backward. -/
def State.runLength (s : State) (c : Crane) (p : ExitPlace) (i : Nat) (forward : Bool) : Nat :=
  ((scanOrder (s.zone c).length i forward).takeWhile
    (fun j => s.inRun c p (segmentAt (s.zone c) j))).length

/-- R43: the slew limits of an exit crane, (positive, negative). -/
def State.exitSlew (s : State) (c : Crane) (p : ExitPlace) (i : Nat) : Nat × Nat :=
  let z := s.zone c
  let n := z.length
  let θ := (s.position c).angle
  let fwd := s.runLength c p i true
  let bwd := s.runLength c p i false
  let creep := (s.crane c).slew.creep
  if fwd + 1 ≥ n then (0, 0)
  else
    let dp := arc θ (segmentEnd z (i + fwd))
    let dn := arc (segmentAt z (i + n - bwd)).start θ + 1
    let posUsable := !s.barred c (segmentAt z (i + fwd + 1))
    let negUsable := !s.barred c (segmentAt z (i + n - bwd - 1))
    if posUsable ∧ (negUsable = false ∨ dp ≤ dn) then (creep, 0)
    else if negUsable then (0, creep)
    else (0, 0)

/-- R44: the trolley and hoist limits of an exit crane. -/
def State.exitOthers (s : State) (c : Crane) (p : ExitPlace) : Limits :=
  let t := (s.crane c).trolley.creep
  let h := (s.crane c).hoist.creep
  let base := { fullLimits with trolleyPos := 0, trolleyNeg := t, hoistPos := 0, hoistNeg := h }
  match p with
  | .sector k => if (s.sector k).clash = .jib then { base with trolleyPos := t } else base
  | .barred g => if g.floor = 0 then base else { base with hoistPos := h, hoistNeg := 0 }

/-- R45: whether crane `c` is an intruded holder of any sector. -/
def State.isIntruded (s : State) (c : Crane) : Bool := allSectors.any (fun k => intruded (s.entry k) == some c)

/-- The EXIT contribution. Without a position it is 1000 (R37). -/
def State.exitLimits (s : State) (c : Crane) : Limits :=
  if s.located c then
    let own := match s.exitPlace c, s.current c with
      | some p, some i =>
        let sl := s.exitSlew c p i
        { s.exitOthers c p with slewPos := sl.1, slewNeg := sl.2 }
      | _, _ => fullLimits
    lowerLimits own (if s.isIntruded c then s.creepLimits c else fullLimits)
  else fullLimits

/-! ### The other contributions (R46 to R50) -/

/-- R49: crane `c` is present in a sector it holds whose yield or overstay flag is set. -/
def State.inFlaggedSector (s : State) (c : Crane) : Bool :=
  match (s.position c).present with
  | none => false
  | some k =>
    s.holds k c &&
    (match grantOf (s.entry k) with
     | some g => g.yielding.isSome || g.overstay
     | none => false)

/-- R49: crane `c` is under no-pick. -/
def State.noPick (s : State) (c : Crane) : Bool :=
  (s.windOf c).state == .stop || s.inFlaggedSector c || (s.exitPlace c).isSome

/-- The detector is PICKING. -/
def State.picking (s : State) (c : Crane) : Bool := (s.detector c).state == .picking

/-- A contribution with the hoist-up 0 of no-pick, where its condition holds and the detector is PICKING. -/
def State.withNoPick (s : State) (c : Crane) (condition : Bool) (l : Limits) : Limits :=
  if condition && s.picking c then { l with hoistPos := 0 } else l

/-- R46: SITE. -/
def State.siteLimits (s : State) : Limits :=
  if s.mode = .config ∨ s.hold then zeroLimits else fullLimits

/-- R46: POSN. -/
def State.posnLimits (s : State) (c : Crane) : Limits :=
  if s.located c then
    perAxisLimits 1000 (if (s.position c).trolleyOk then 1000 else 0)
      (if (s.position c).hoistOk then 1000 else 0)
  else zeroLimits

/-- The caps of a profile as limits. -/
def capLimits (p : PerAxis Nat) : Limits := perAxisLimits p.slew p.trolley p.hoist

/-- R47, R49: WIND. -/
def State.windLimits (s : State) (c : Crane) : Limits :=
  match (s.windOf c).state with
  | .calm => fullLimits
  | .alert => capLimits (s.profileOf c).alertCaps
  | .stop => s.withNoPick c true (capLimits (s.profileOf c).stopCaps)
  | .vanePending => zeroLimits
  | .vane => zeroLimits

/-- R48: crane `c` holds a sector whose overstay flag is set. -/
def State.overstays (s : State) (c : Crane) : Bool :=
  (s.heldBy c).any (fun k => match grantOf (s.entry k) with | some g => g.overstay | none => false)

/-- R48, R49: SECT. -/
def State.sectLimits (s : State) (c : Crane) : Limits :=
  s.withNoPick c (s.inFlaggedSector c) (if s.overstays c then s.creepLimits c else fullLimits)

/-- The booking with an id. -/
def State.booking (s : State) (id : Half) : Option Booking := s.bookings.find? (fun b => b.id == id)

/-- The max load of the booking that owns sector `k`'s grant, where crane `c` holds the sector BOOKED and the
max load is above 0 (R50, R87). -/
def State.bookedMax (s : State) (c : Crane) (k : Sector) : Option (Half × Nat) :=
  if s.holds k c then
    match grantOf (s.entry k) with
    | some g =>
      match g.kind with
      | .booked id =>
        match s.booking id with
        | some b => if b.maxLoad > 0 then some (id, b.maxLoad) else none
        | none => none
      | .routine => none
    | none => none
  else none

/-- The lowest-numbered sector crane `c` holds BOOKED under a max load that `load` exceeds, with the booking and
that max load. -/
def State.overloadedSector (s : State) (c : Crane) (load : Nat) : Option (Sector × Half × Nat) :=
  allSectors.findSome? (fun k =>
    match s.bookedMax c k with
    | some (id, m) => if load > m then some (k, id, m) else none
    | none => none)

/-- R50: BOOK. -/
def State.bookLimits (s : State) (c : Crane) : Limits :=
  if ((s.detector c).state = .picking ∨ (s.detector c).state = .loaded)
      ∧ (s.overloadedSector c (s.position c).load).isSome then noHoistUp
  else fullLimits

/-- R49: EXIT with the hoist-up 0 of no-pick. -/
def State.exitContribution (s : State) (c : Crane) : Limits :=
  s.withNoPick c (s.exitPlace c).isSome (s.exitLimits c)

/-! ### Composition, permits and reasons (R51, R52, R53) -/

/-- The seven contributions in the order of R52. -/
def State.contributions (s : State) (c : Crane) : List (Reason × Limits) :=
  [(.site, s.siteLimits), (.posn, s.posnLimits c), (.wind, s.windLimits c), (.exit, s.exitContribution c),
   (.sect, s.sectLimits c), (.book, s.bookLimits c), (.zone, s.zoneLimits c)]

/-- R51: the lowest of contributions in every direction. -/
def composeLimits (cs : List (Reason × Limits)) : Limits :=
  cs.foldr (fun x l => lowerLimits x.2 l) fullLimits

/-- The direction a demand asks for; a demand of 0 is taken as positive (R35). -/
def demandsPositive (d : Int) : Bool := decide (0 ≤ d)

/-- R51: the permit of an axis. -/
def permitOf (d : Int) (pos neg : Nat) : Int :=
  if 0 ≤ d then min d (pos : Int) else -(min (-d) (neg : Int))

/-- R52: the reason of an axis. -/
def reasonOf (cs : List (Reason × Limits)) (a : Axis) (d : Int) : Reason :=
  let l := (composeLimits cs).get a (demandsPositive d)
  if d.natAbs ≤ l then .none
  else
    match cs.find? (fun x => x.2.get a (demandsPositive d) == l) with
    | some x => x.1
    | none => .none

/-- What a computation returns to the permit path, and the knocks it calls for (R34, R53). -/
structure Computation where
  limits : Limits
  speeds : PerAxis Int
  reasons : PerAxis Reason
  noPick : Bool
  knocks : List Sector
  deriving DecidableEq, Repr

/-- R53: the sector of the barrier that set the slew ZONE contribution in a direction. -/
def State.slewKnock (s : State) (c : Crane) (forward : Bool) : Option Sector :=
  match s.current c with
  | none => none
  | some i =>
    match s.slewBarrier c i forward with
    | none => none
    | some j => s.sharedSector c (segmentAt (s.zone c) j)

/-- R53: the sector of the current segment, which is the trolley's barrier. -/
def State.trolleyKnock (s : State) (c : Crane) : Option Sector :=
  match s.current c with
  | none => none
  | some i => s.sharedSector c (segmentAt (s.zone c) i)

/-- R53: the sectors to knock at, one sector once. The slew's knock is sent, and so taken, first: R53 lets the arbiter
take two knocks for different sectors in either order (log 3, DESIGN CHOICE). -/
def State.knocksOf (s : State) (c : Crane) (demand : PerAxis Int) (reasons : PerAxis Reason) : List Sector :=
  let slew := if demand.slew ≠ 0 ∧ reasons.slew = .zone then (s.slewKnock c (demandsPositive demand.slew)).toList
              else []
  let trolley := if demand.trolley ≠ 0 ∧ reasons.trolley = .zone then (s.trolleyKnock c).toList else []
  slew ++ trolley.filter (fun k => !slew.contains k)

/-- R34: the computation for crane `c` from its demand of record. -/
def State.compute (s : State) (c : Crane) : Computation :=
  let cs := s.contributions c
  let l := composeLimits cs
  let d := (s.permit c).demand
  let reasons : PerAxis Reason := ⟨reasonOf cs .slew d.slew, reasonOf cs .trolley d.trolley, reasonOf cs .hoist d.hoist⟩
  { limits := l,
    speeds := ⟨permitOf d.slew l.slewPos l.slewNeg, permitOf d.trolley l.trolleyPos l.trolleyNeg,
               permitOf d.hoist l.hoistPos l.hoistNeg⟩,
    reasons := reasons,
    noPick := s.noPick c,
    knocks := s.knocksOf c d reasons }

end Sys2Proof.Machine
end

