-- ==== Sys2Proof/Machine/Beacons.lean ====
section
/-! DEFINITION. The beacon condition of a crane (R138) and the beacon generators (R15, R171). -/

namespace Sys2Proof.Machine

/-- R138: the beacon condition of a crane, the first that holds. -/
def State.beaconCondition (s : State) (c : Crane) : BeaconCondition :=
  if !s.located c || (s.windOf c).source == .none then .fault
  else
    match (s.windOf c).state with
    | .vane => .vane
    | .vanePending => .vanePending
    | .stop => .stop
    | .alert => .alert
    | .calm => .off

/-- R138: the changes of condition between two states, one notice for each crane present in both, in ascending
number. -/
def beaconNotices (before after : State) : List Notice :=
  (allCranes.filter (fun c =>
    (before.crane c).present && (after.crane c).present
      && before.beaconCondition c != after.beaconCondition c)).map
    (fun c => .beacon c (after.beaconCondition c))

/-- The later state, with the notices of every beacon condition that differs from the earlier one's. -/
def withBeacons (before after : State) : State := after.send (beaconNotices before after)

/-- The pattern of a condition (R15). -/
def patternOf (ps : BeaconPatterns) : BeaconCondition → BeaconPattern
  | .off => ps.off
  | .alert => ps.alert
  | .stop => ps.stop
  | .vanePending => ps.vanePending
  | .vane => ps.vane
  | .fault => ps.fault

/-- The patterns with one replaced (R15). -/
def setPattern (ps : BeaconPatterns) (cond : BeaconCondition) (p : BeaconPattern) : BeaconPatterns :=
  match cond with
  | .off => { ps with off := p }
  | .alert => { ps with alert := p }
  | .stop => { ps with stop := p }
  | .vanePending => { ps with vanePending := p }
  | .vane => { ps with vane := p }
  | .fault => { ps with fault := p }

/-- Whether something that a TICK has brought is still to be done: what happens then arrives with that tick, and not in
the next one (log 26). -/
def State.inTick (s : State) : Bool := s.inFlight.contains .tickDone

/-- R171: whether a restart of the generator leaves a phase cut short that the tick in progress was to end: it counts its
last tick, and the restart is not what the tick before has brought; or such a phase has been cut short in this tick
already. -/
def Generator.cuts (g : Generator) (inTick : Bool) : Bool := g.cutShort || (g.left == some 1 && !inTick)

/-- R171: the generator restarted, driven by crane `c` and showing a condition with its pattern: the start of phase ON, or
the steady state of a steady pattern. -/
def Generator.restart (g : Generator) (inTick : Bool) (c : Crane) (cond : BeaconCondition) (p : BeaconPattern) :
    Generator :=
  { driver := some c
    condition := cond
    phase := if p.on = 0 then .off else .on
    left := if p.on = 0 ∨ p.off = 0 then none else some (p.on * p.scale)
    cutShort := g.cuts inTick }

/-- R171: the generator without a driving crane: the line is held off. -/
def Generator.holdOff (g : Generator) (inTick : Bool) : Generator :=
  { Generator.heldOff with cutShort := g.cuts inTick }

/-- R171: the generator at a tick. A flashing one counts its phase down, unless the tick is the one that was to end a
phase cut short: that tick and the restart leave the start of phase ON whichever is taken first. -/
def Generator.tick (g : Generator) : Generator :=
  { g with left := if g.cutShort then g.left else runDown g.left, cutShort := false }

/-- R171: the highest-numbered present crane whose record names line `n`. -/
def State.lineDriver (s : State) (n : BeaconLine) : Option Crane :=
  (allCranes.filter (fun c => (s.crane c).present && (s.crane c).beaconLine == some n)).getLast?

/-- Line `n` after a write that may have changed its driver: restarted when the driver or its condition has
changed, held off when there is none, and otherwise left as it runs (R171). -/
def State.refreshLine (s : State) (n : BeaconLine) : State :=
  let g := s.generator n
  match s.lineDriver n with
  | none => if g.driver = none then s else s.setGenerator n (g.holdOff s.inTick)
  | some c =>
    let cond := s.beaconCondition c
    if g.driver = some c ∧ g.condition = cond then s
    else s.setGenerator n (g.restart s.inTick c cond (patternOf s.patterns cond))

/-- Every line after such a write. -/
def State.refreshLines (s : State) : State := allLines.foldl State.refreshLine s

/-- BEACON_CONDITION_CHANGE (R171): the line that crane `c` drives is restarted with the condition, unless it
shows it already. -/
def State.showCondition (s : State) (c : Crane) (cond : BeaconCondition) : State :=
  allLines.foldl (fun s n =>
    let g := s.generator n
    if g.driver = some c ∧ g.condition ≠ cond then
      s.setGenerator n (g.restart s.inTick c cond (patternOf s.patterns cond))
    else s) s

/-- R15, R171: every driven line showing a condition whose pattern has been rewritten restarts. -/
def State.restartShowing (s : State) (cond : BeaconCondition) : State :=
  allLines.foldl (fun s n =>
    let g := s.generator n
    match g.driver with
    | some c =>
      if g.condition = cond then s.setGenerator n (g.restart s.inTick c cond (patternOf s.patterns cond)) else s
    | none => s) s

/-- BEACON_PHASE_END (R171): a flashing generator passes to the other phase with that phase's full count. The end of a
phase that a restart has cut short leaves the start of phase ON. -/
def State.endPhase (s : State) (n : BeaconLine) : State :=
  let g := s.generator n
  let p := patternOf s.patterns g.condition
  if g.left = none ∨ g.cutShort = true then s
  else
    match g.phase with
    | .on => s.setGenerator n { g with phase := .off, left := some (p.off * p.scale) }
    | .off => s.setGenerator n { g with phase := .on, left := some (p.on * p.scale) }

/-- R171, R173: the level of a beacon line: high in phase ON, and low during reset. -/
def State.lineHigh (s : State) (n : BeaconLine) : Bool :=
  (s.generator n).phase == .on && s.inReset == none

end Sys2Proof.Machine
end

