-- ==== Sys2Proof/Machine/Wind.lean ====
section
/-! DEFINITION. Wind history and source selection (chapter 7): WIND frames, the rings, gust and mean, staleness,
and whose figures each crane works from. -/

namespace Sys2Proof.Machine

/-! ### Rings (R113, R114) -/

/-- A ring with a value written: the base advances by one and names the slot written. -/
def ringPush {n : Nat} [NeZero n] (r : Ring n) (x : Nat) : Ring n :=
  { slots := Bank.write r.slots (r.base + 1) x, base := r.base + 1, fill := min (r.fill + 1) n }

/-- The value at an offset from the newest. -/
def ringAt {n : Nat} [NeZero n] (r : Ring n) (offset : Nat) : Nat :=
  Bank.read r.slots (r.base - Fin.ofNat n offset)

/-- The average of the newest `k` values, rounded down. -/
def ringAverage {n : Nat} [NeZero n] (r : Ring n) (k : Nat) : Nat :=
  ((List.range k).map (ringAt r)).sum / k

/-! ### Samples (R113 to R117) -/

/-- R115: the own gust over the gust window. -/
def gustOf (p : WindProfile) (w : WindRecord) : Nat := ringAverage w.fine (min w.fine.fill p.gustWindow)

/-- R116: the own mean over the block means, or the gust where no block has closed. -/
def meanOf (p : WindProfile) (w : WindRecord) (gust : Nat) : Nat :=
  if w.coarse.fill = 0 then gust else ringAverage w.coarse (min w.coarse.fill p.meanBlocks)

/-- R114: a sample added to the accumulator, closing the block when its count reaches the block length. -/
def accumulate (p : WindProfile) (w : WindRecord) (x : Nat) : WindRecord :=
  if w.accCount + 1 ≥ p.blockLength then
    { w with accSum := 0, accCount := 0, coarse := ringPush w.coarse ((w.accSum + x) / p.blockLength) }
  else { w with accSum := w.accSum + x, accCount := w.accCount + 1 }

/-- R110 step 4: one sample written. -/
def writeSample (p : WindProfile) (staleTime : Nat) (w : WindRecord) (x : Nat) : WindRecord :=
  let w1 := accumulate p { w with fine := ringPush w.fine x } x
  let gust := gustOf p w1
  { w1 with ownStale := some staleTime, fresh := true, ownGust := some gust,
            ownMean := some (meanOf p w1 gust) }

/-! ### Source selection (R119, R120) -/

/-- R119: the present cranes whose own source is fresh. -/
def State.lenders (s : State) : List Crane :=
  allCranes.filter (fun c => (s.crane c).present && (s.windOf c).fresh)

/-- Crane `c`'s own gust as a number. -/
def State.ownGustOf (s : State) (c : Crane) : Nat := (s.windOf c).ownGust.getD 0

/-- R119: the lender with the highest own gust, the lowest number among equals. -/
def State.bestLender (s : State) : Option Crane :=
  s.lenders.foldl (fun best c =>
    match best with
    | none => some c
    | some b => if s.ownGustOf b < s.ownGustOf c then some c else some b) none

/-- R119: the source of a present crane. -/
def State.sourceFor (s : State) (c : Crane) : WindSource :=
  if (s.windOf c).fresh then .own
  else
    match s.bestLender with
    | some l => .borrowed l
    | none => .none

/-- R119: source selection for every present crane together; an absent crane's source is kept. -/
def State.selectAll (s : State) : State :=
  s.presentCranes.foldl (fun t c => t.setWind c { t.windOf c with source := s.sourceFor c }) s

/-- R120: the WIND_SOURCE event of a crane whose source or lender has changed. -/
def sourceEvent (c : Crane) (new old : WindSource) : EventBody :=
  eventOf .windSource (some c) none (sourceCode new) (sourceCode old)
    (match lenderOf new with | some l => l.val | none => noneArg)

/-- R120: whether crane `c` is handed an evaluation; `writer` wrote the sample of the event, if it is one. -/
def evaluated (writer : Option Crane) (c : Crane) (old new : WindSource) : Bool :=
  (match writer with
   | some w => (new == .own && w == c) || new == .borrowed w
   | none => false) || old != new

/-- R119, R120: source selection, its WIND_SOURCE events and its evaluations, in ascending crane number, and the
beacon conditions it changes. A crane whose profile is invalid is handed no evaluation (R14). -/
def selectSources (writer : Option Crane) (s : State) : State :=
  let t := s.selectAll
  let changed := t.presentCranes.filter (fun c => (s.windOf c).source != (t.windOf c).source)
  let t1 := t.postAll (changed.map (fun c => sourceEvent c (t.windOf c).source (s.windOf c).source))
  let t2 := withBeacons s t1
  t2.send ((t.presentCranes.filter (fun c =>
    profileValid (t.profileOf c) && evaluated writer c (s.windOf c).source (t.windOf c).source)).map .evaluation)

/-! ### WIND frames and staleness (R110, R111, R112, R118) -/

/-- R112: the speed of a frame whose anemometer is ok: the sample, the excursion mark and its RANGE event. -/
def clampSpeed (c : Crane) (mark : Bool) (speed : Nat) : Nat × Bool × List EventBody :=
  if speed > 600 then
    (600, true, if mark then [] else [eventOf .range (some c) none 3 speed])
  else (speed, false, [])

/-- R110: one WIND frame of a present crane. -/
def takeWind (c : Crane) (f : WindFrame) (s : State) : State :=
  let w := s.windOf c
  if !seqAccepted w.seqRef f.seq then s
  else if !f.anemometerOk then s.setWind c { w with seqRef := some f.seq }
  else
    let x := clampSpeed c w.excursion f.speed.toNat
    let w1 := { w with seqRef := some f.seq, excursion := x.2.1 }
    if !profileValid (s.profileOf c) then (s.setWind c w1).postAll x.2.2
    else
      selectSources (some c)
        ((s.setWind c (writeSample (s.profileOf c) s.site.windStale w1 x.1)).postAll x.2.2)

/-- R118: the own source of a crane becomes stale. -/
def goStale (w : WindRecord) : WindRecord :=
  { w with ownStale := none, seqRef := none, fine := { w.fine with fill := 0 }, accSum := 0,
           accCount := 0, fresh := false, ownGust := none, ownMean := none }

/-- WIND_STALE_EXPIRY (R117, R118): a stopped timer does not expire. -/
def expireWindStale (c : Crane) (s : State) : State :=
  if (s.windOf c).ownStale = none then s
  else selectSources none (s.setWind c (goStale (s.windOf c)))

/-! ### Used figures (R109) -/

/-- The gust a crane uses. -/
def State.usedGust (s : State) (c : Crane) : Option Nat :=
  match (s.windOf c).source with
  | .own => (s.windOf c).ownGust
  | .borrowed l => (s.windOf l).ownGust
  | .none => none

/-- The mean a crane uses. -/
def State.usedMean (s : State) (c : Crane) : Option Nat :=
  match (s.windOf c).source with
  | .own => (s.windOf c).ownMean
  | .borrowed l => (s.windOf l).ownMean
  | .none => none

/-- A used figure reported as a number: 0 when it is none. -/
def State.gustNumber (s : State) (c : Crane) : Nat := (s.usedGust c).getD 0
/-- A used figure reported as a number: 0 when it is none. -/
def State.meanNumber (s : State) (c : Crane) : Nat := (s.usedMean c).getD 0

end Sys2Proof.Machine
end

