-- ==== Sys2Proof/Machine/WindStates.lean ====
section
/-! DEFINITION. The wind state machine and weathervaning (chapter 8): evaluations, recovery, the way to vane, the
lock handshake and the way back. -/

namespace Sys2Proof.Machine

/-- The causes of a WIND_STATE event, in the order of R129. -/
inductive WindCause where
  | threshold
  | recovery
  | source
  | vaneAuto
  | vaneCommand
  deriving DecidableEq, Repr

/-- THRESHOLD 0 to VANE_COMMAND 4 (R159). -/
def windCauseCode : WindCause → Nat
  | .threshold => 0 | .recovery => 1 | .source => 2 | .vaneAuto => 3 | .vaneCommand => 4

/-- R129: the WIND_STATE event of a change, with the used gust and mean at the change. -/
def State.windEvent (s : State) (c : Crane) (new : WindState) (cause : WindCause) : EventBody :=
  eventOf .windState (some c) none
    (windCode new * 4096 + windCode (s.windOf c).state * 256 + windCauseCode cause)
    (s.gustNumber c) (s.meanNumber c)

/-- R129: the notices of a change of wind state: the booking table, the permit path, and the beacon driver where
the change alters the beacon condition. -/
def windNotices (c : Crane) (before after : State) : State :=
  withBeacons before (after.send [.craneCondition c, .limit c])

/-- R6: the crane is parked. -/
def State.parked (s : State) (c : Crane) : Bool :=
  (s.position c).state == .tracked && decide (s.evalRadius c ≤ (s.crane c).parkRadius)
    && decide ((s.crane c).parkHeight ≤ s.evalHeight c) && (s.detector c).state == .unloaded

/-! ### The handshake condition (R133, R134) -/

/-- The members of sector `k` present in it outside its lock set, in ascending number. -/
def State.occupants (s : State) (k : Sector) : List Crane :=
  allCranes.filter (fun d => (s.entry k).presence.contains d && !(s.locksOf k).contains d)

/-- R133: the condition holds in sector `k`: the crane is in the lock set and no member outside it is present. -/
def State.handshakeIn (s : State) (k : Sector) (c : Crane) : Bool :=
  (s.locksOf k).contains c && (s.occupants k).isEmpty

/-- The first sector, in ascending number, in which crane `c`'s handshake condition fails. -/
def State.handshakeFailure (s : State) (c : Crane) : Option Sector :=
  (s.sectorsOf c).find? (fun k => !s.handshakeIn k c)

/-- R133: a crane in VANE_PENDING whose handshake condition holds enters VANE. -/
def examineHandshake (c : Crane) (s : State) : State :=
  if (s.windOf c).state = .vanePending ∧ s.handshakeFailure c = none then
    let t := s.setWind c { s.windOf c with state := .vane, vaneTimeout := none }
    windNotices c s (t.post (eventOf .vaneReleased (some c) none (s.sectorsOf c).length))
  else s

/-- HANDSHAKE_REPORT (R133): the condition of each member of sector `k` is examined, in ascending crane number where
several stand in VANE_PENDING (log 5, DESIGN CHOICE). -/
def takeHandshake (k : Sector) (s : State) : State :=
  (allCranes.filter (fun c => s.isMember k c)).foldl (fun t c => examineHandshake c t) s

/-! ### Changes of state -/

/-- R132: entry to VANE_PENDING. -/
def enterVanePending (c : Crane) (cause : WindCause) (s : State) : State :=
  let t := s.setWind c
    { s.windOf c with
      state := .vanePending, stopCount := 0, alertCount := 0, calmCount := 0, recovery := none,
      vaneDelay := none, vaneWait := false, vaneTimeout := some (s.profileOf c).vaneTimeout }
  let t1 := t.send ((s.sectorsOf c).map (fun k => .lock k c))
  examineHandshake c (windNotices c s (t1.post (s.windEvent c .vanePending cause)))

/-- R130: an automatic vane attempt of a crane in STOP. -/
def vaneAttempt (c : Crane) (s : State) : State :=
  if (s.windOf c).state = .stop then
    if s.mode = .armed ∧ s.parked c then enterVanePending c .vaneAuto s
    else s.setWind c { s.windOf c with vaneWait := true }
  else s

/-- Entry to STOP (R125, R128, R130): every count returns to 0, and under an AUTO profile the vane delay is started;
a delay of 0 expires within the event. -/
def enterStop (c : Crane) (cause : WindCause) (s : State) : State :=
  let p := s.profileOf c
  let auto := p.vaneMode == .auto
  let t := s.setWind c
    { s.windOf c with
      state := .stop, stopCount := 0, alertCount := 0, calmCount := 0,
      vaneDelay := if auto && p.vaneDelay != 0 then some p.vaneDelay else none }
  let t1 := windNotices c s (t.post (s.windEvent c .stop cause))
  if auto && p.vaneDelay == 0 then vaneAttempt c t1 else t1

/-- A change between CALM and ALERT: every count returns to 0 but the stop count (R124, R125, R126). -/
def enterCalmOrAlert (c : Crane) (new : WindState) (stopCount : Nat) (s : State) : State :=
  let t := s.setWind c { s.windOf c with state := new, stopCount := stopCount, alertCount := 0, calmCount := 0 }
  windNotices c s (t.post (s.windEvent c new .threshold))

/-- R124: a count after an evaluation that meets its condition or not. -/
def countAfter (d : Nat) (count : Nat) (met : Bool) : Nat := if met then min (count + 1) (d + 1) else 0

/-- R125: the STOP entry condition. -/
def stopMet (p : WindProfile) (gust mean : Nat) : Bool := decide (p.stopGust ≤ gust) || decide (p.stopMean ≤ mean)

/-- R126, R127: both figures at or below a bound. -/
def bothBelow (bound gust mean : Nat) : Bool := decide (gust ≤ bound) && decide (mean ≤ bound)

/-- EVALUATION (R124 to R128): one evaluation of a present crane whose profile is valid. It reads the source and the
figures as they stand when it is taken; no other selection comes between its own and it, since the next event waits
until it has been taken (opensEvent, log 1). -/
def takeEvaluation (c : Crane) (s : State) : State :=
  let p := s.profileOf c
  let w := s.windOf c
  let gust := s.gustNumber c
  let mean := s.meanNumber c
  if !((s.crane c).present && profileValid p) then s
  else
    match w.state with
    | .calm =>
      if w.source = .none then enterStop c .source s
      else
        let sc := countAfter p.debounce w.stopCount (stopMet p gust mean)
        let ac := countAfter p.debounce w.alertCount (decide (p.alertOn ≤ gust))
        if sc ≥ p.debounce + 1 then enterStop c .threshold s
        else if ac ≥ p.debounce + 1 then enterCalmOrAlert c .alert sc s
        else s.setWind c { w with stopCount := sc, alertCount := ac, calmCount := 0 }
    | .alert =>
      if w.source = .none then enterStop c .source s
      else
        let sc := countAfter p.debounce w.stopCount (stopMet p gust mean)
        let cc := countAfter p.debounce w.calmCount (bothBelow p.alertOff gust mean)
        if sc ≥ p.debounce + 1 then enterStop c .threshold s
        else if cc ≥ p.debounce + 1 then enterCalmOrAlert c .calm sc s
        else s.setWind c { w with stopCount := sc, alertCount := 0, calmCount := cc }
    | .stop =>
      if w.source ≠ .none ∧ bothBelow p.stopOff gust mean then
        s.setWind c { w with recovery := if w.recovery = none then some p.recovery else w.recovery }
      else s.setWind c { w with recovery := none }
    | .vanePending => s
    | .vane => s

/-- Whether crane `c`'s recovery timer runs: not while the source is NONE (R127), nor while its profile is invalid and
it holds the wind state it had (R14, R137), nor while it is absent and its record stands (R5, R137). The time
remaining is kept meanwhile (R3; log 23). -/
def State.recoveryRuns (s : State) (c : Crane) : Bool :=
  (s.crane c).present && profileValid (s.profileOf c) && (s.windOf c).source != .none

/-- RECOVERY_EXPIRY (R127): the crane goes from STOP to ALERT. A timer that does not run does not expire. -/
def expireRecovery (c : Crane) (s : State) : State :=
  let w := s.windOf c
  if w.recovery = none ∨ w.state ≠ .stop ∨ s.recoveryRuns c = false then s
  else
    let t := s.setWind c
      { w with state := .alert, stopCount := 0, alertCount := 0, calmCount := 0, recovery := none,
               vaneDelay := none, vaneWait := false }
    windNotices c s (t.post (s.windEvent c .alert .recovery))

/-- VANE_DELAY_EXPIRY (R130). The timer of an absent crane stands (R137, log 23); that of a crane under an invalid
profile runs on. -/
def expireVaneDelay (c : Crane) (s : State) : State :=
  if (s.windOf c).vaneDelay = none ∨ (s.crane c).present = false then s
  else vaneAttempt c (s.setWind c { s.windOf c with vaneDelay := none })

/-- MOTION_FRAME_NOTICE (R130): a pending automatic vane attempt is made again. -/
def takeMotionNotice (c : Crane) (s : State) : State :=
  if (s.windOf c).vaneWait then vaneAttempt c s else s

/-- VANE_TIMEOUT_EXPIRY (R134): one VANE_BLOCKED names the first sector in which the condition fails. -/
def expireVaneTimeout (c : Crane) (s : State) : State :=
  let w := s.windOf c
  if w.vaneTimeout = none ∨ w.state ≠ .vanePending ∨ (s.crane c).present = false then s
  else
    let t := s.setWind c { w with vaneTimeout := none }
    match s.handshakeFailure c with
    | none => t
    | some k =>
      if (s.locksOf k).contains c then
        t.post (eventOf .vaneBlocked (some c) (some k) 1
          (match (s.occupants k).head? with | some d => d.val | none => noneArg))
      else t.post (eventOf .vaneBlocked (some c) (some k) 0 noneArg)

/-- R136: an accepted RESUME: the unlocks, ALERT, RESUMED and the notices. -/
def resumeCrane (c : Crane) (s : State) : State :=
  let w := s.windOf c
  let s1 := s.send ((s.sectorsOf c).map (fun k => .unlock k c))
  let t := s1.setWind c
    { w with state := .alert, stopCount := 0, alertCount := 0, calmCount := 0, vaneTimeout := none }
  windNotices c s (t.post (eventOf .resumed (some c) none (windCode w.state)))

end Sys2Proof.Machine
end

