-- ==== Sys2Proof/Machine/Bookings.lean ====
section
/-! DEFINITION. The booking table (chapter 6): windows and the crane condition, claimants and the reports to the
sector arbiter, and what each of the table's events does. -/

namespace Sys2Proof.Machine

/-! ### States of a booking (R92, R96) -/

/-- A live state (R92). -/
def liveBooking : BookingState → Bool
  | .waiting => true | .active => true | .suspended => true
  | .exhausted => false | .expired => false | .cancelled => false

/-- The site minute: the site clock in seconds divided by 60 (Terms). -/
def State.siteMinute (s : State) : Nat := s.clock.toNat / 60

/-- R96: the crane condition. -/
def State.craneCondition (s : State) (c : Crane) : Bool :=
  s.mode == .armed && s.located c && ((s.windOf c).state == .calm || (s.windOf c).state == .alert)

/-- R96: the state a window evaluation gives a live booking with the clock SET. -/
def State.windowState (s : State) (b : Booking) : BookingState :=
  if s.siteMinute < b.start then .waiting
  else if b.stop ≤ s.siteMinute then .expired
  else if s.craneCondition b.crane then .active
  else .suspended

/-- A booking given a state, and the cause when the state differs from the one it had. -/
def Booking.moveTo (b : Booking) (st : BookingState) (cause : BookingCause) : Booking :=
  if b.state = st then b else { b with state := st, cause := cause }

/-- R95, R96: one entry at a window evaluation. -/
def State.evaluateBooking (s : State) (cause : BookingCause) (b : Booking) : Booking :=
  if s.clockSet && liveBooking b.state then b.moveTo (s.windowState b) cause else b

/-! ### Events and claimants (R105, R107) -/

/-- R107: a BOOKING_STATE event; the former state is Fh for a new booking. -/
def bookingEvent (former : Nat) (b : Booking) : EventBody :=
  eventOf .bookingState (some b.crane) (some b.sector) b.id.toNat
    (bookingCode b.state * 4096 + former * 256 + causeCode b.cause) b.done

/-- The BOOKING_STATE events of the entries whose state differs between two tables that hold the same entries,
in table order. -/
def changeEvents (before after : List Booking) : List EventBody :=
  (before.zip after).filterMap (fun (x, y) =>
    if x.state = y.state then none else some (bookingEvent (bookingCode x.state) y))

/-- R105: one booking comes before another: CRITICAL first, then the earlier start, then the lower id. -/
def bookingBefore (a b : Booking) : Bool :=
  if a.cls = b.cls then decide (a.start < b.start) || (a.start == b.start && decide (a.id < b.id))
  else a.cls == .critical

/-- R105: the claimant of sector `k` among the ACTIVE bookings of a table. -/
def claimantOf (table : List Booking) (k : Sector) : Option Booking :=
  (table.filter (fun b => b.sector == k && b.state == .active)).foldl (fun best b =>
    match best with
    | none => some b
    | some x => if bookingBefore b x then some b else some x) none

/-- A claimant as the arbiter is told of it. -/
def asClaimant (b : Booking) : Claimant := { booking := b.id, crane := b.crane }

/-! ### Reports to the arbiter (R106) -/

/-- The bookings naming sector `k` that left ACTIVE between two tables, with the state each entered. -/
def leftActive (k : Sector) (before after : List Booking) : List (Half × BookingState) :=
  (before.zip after).filterMap (fun (x, y) =>
    if x.sector = k ∧ x.state = .active ∧ y.state ≠ .active then some (y.id, y.state) else none)

/-- The booking that owns sector `k`'s grant. -/
def State.grantOwner (s : State) (k : Sector) : Option Half :=
  match grantOf (s.entry k) with
  | some g =>
    match g.kind with
    | .booked id => some id
    | .routine => none
  | none => none

/-- R106: whether sector `k` is sent a report after the table went from `before` to `after`. -/
def State.reportDue (s : State) (before after : List Booking) (k : Sector) : Bool :=
  (claimantOf before k).map asClaimant != (claimantOf after k).map asClaimant ||
  (match s.grantOwner k with
   | some id => (leftActive k before after).any (fun x => x.1 == id)
   | none => false)

/-- R106: the sectors that are sent a report, in ascending number: R106 lets the reports of different sectors be
taken in either order (DESIGN CHOICE, logs 3 and 5). -/
def State.reportsDue (s : State) (before after : List Booking) : List Sector :=
  allSectors.filter (s.reportDue before after)

/-- The table replaced in an event, with the event records given; the reports of R106 are sent. -/
def State.changeBookings (s : State) (after : List Booking) (events : List EventBody) : State :=
  (({ s with bookings := after } : State).postAll events).send
    ((s.reportsDue s.bookings after).map (fun k =>
      .claimant k (leftActive k s.bookings after) ((claimantOf after k).map asClaimant)))

/-- The same where the arbiter takes the reports within the event (R163, R164). -/
def State.changeBookingsAtOnce (s : State) (after : List Booking) (events : List EventBody) : State :=
  (s.reportsDue s.bookings after).foldl (fun t k =>
      changeClaimant k (leftActive k s.bookings after) ((claimantOf after k).map asClaimant) t)
    (({ s with bookings := after } : State).postAll events)

/-! ### The table's events -/

/-- R95: a window evaluation over the whole table. -/
def evaluateWindows (cause : BookingCause) (s : State) : State :=
  let after := s.bookings.map (s.evaluateBooking cause)
  s.changeBookings after (changeEvents s.bookings after)

/-- R97: one booking at a change of crane `c`'s condition. -/
def State.recondition (s : State) (c : Crane) (b : Booking) : Booking :=
  if b.crane = c then
    match b.state with
    | .active => if s.craneCondition c then b else b.moveTo .suspended .crane
    | .suspended => if s.craneCondition c then b.moveTo .active .crane else b
    | _ => b
  else b

/-- CRANE_CONDITION_CHANGE (R97). -/
def takeCraneCondition (c : Crane) (s : State) : State :=
  let after := s.bookings.map (s.recondition c)
  s.changeBookings after (changeEvents s.bookings after)

/-- R101: the entry of a lift's booking, when it is ACTIVE. -/
def countLift (id : Half) (b : Booking) : Booking :=
  if b.id = id ∧ b.state = .active then
    let done := min (b.done + 1) 65535
    let b1 := { b with done := done }
    if b.quota ≠ 0 ∧ done = b.quota then b1.moveTo .exhausted .quota else b1
  else b

/-- BOOKED_LIFT_COUNT (R101, R102). -/
def takeLiftCount (id : Half) (s : State) : State :=
  let after := s.bookings.map (countLift id)
  s.changeBookings after (changeEvents s.bookings after)

/-- R99 step 1: a live booking that no longer matches the tables. -/
def State.tableCheck (s : State) (b : Booking) : Booking :=
  if liveBooking b.state && !((s.crane b.crane).present && s.isMember b.sector b.crane) then
    b.moveTo .cancelled .table
  else b

/-- R99: the table takes the arming. -/
def armBookings (s : State) : State :=
  let after := s.bookings.map (fun b => s.evaluateBooking .mode (s.tableCheck b))
  s.changeBookingsAtOnce after (changeEvents s.bookings after)

/-- R100: the table takes the disarming. -/
def disarmBookings (s : State) : State :=
  let after := s.bookings.map (s.evaluateBooking .mode)
  s.changeBookingsAtOnce after (changeEvents s.bookings after)

/-! ### Its operations (R93, R94, R103, R104) -/

/-- R94: the state of a new booking. -/
def State.newBookingState (s : State) (b : Booking) : BookingState :=
  if s.clockSet then s.windowState b else .waiting

/-- R94: a new booking enters the table. -/
def addBooking (b : Booking) (s : State) : State :=
  let new := { b with state := s.newBookingState b, done := 0, cause := .add }
  s.changeBookings (s.bookings ++ [new]) [bookingEvent 15 new]

/-- BOOK_ADD's checks and effect (R93, R94). -/
def bookAdd (operands : List Byte) (s : State) : Answer :=
  match cutFields bookingWidths operands with
  | some [id, c, k, start, stop, quota, cls, maxLoad] =>
    if c > 7 ∨ k > 15 then refuse s .badIndex
    else
      let crane : Crane := Fin.ofNat 8 c
      let sector : Sector := Fin.ofNat 16 k
      if !((s.crane crane).present && s.isMember sector crane) then refuse s .badIndex
      else
        match readBooking id crane sector start stop quota cls maxLoad with
        | none => refuse s .badValue
        | some b =>
          if s.bookings.any (fun x => x.id == b.id) then refuse s .duplicateId
          else if s.clockSet ∧ b.stop ≤ s.siteMinute then refuse s .pastWindow
          else if s.bookings.length ≥ Config.bookingCapacity then refuse s .tableFull
          else accept (addBooking b s) (octet1 (bookingCode (s.newBookingState b)))
  | _ => refuse s .badValue

/-- R103: the entry with an id cancelled. -/
def cancelBooking (id : Half) (s : State) : State :=
  let after := s.bookings.map (fun b => if b.id = id then b.moveTo .cancelled .cancel else b)
  s.changeBookings after (changeEvents s.bookings after)

/-- BOOK_CANCEL's checks and effect (R103). An id of 0 names no entry (log 8). -/
def bookCancel (operands : List Byte) (s : State) : Answer :=
  match cutFields [2] operands with
  | some [n] =>
    let id := BitVec.ofNat 16 n
    match s.booking id with
    | none => refuse s .noSuchId
    | some b => if liveBooking b.state then accept (cancelBooking id s) else refuse s .wrongState
  | _ => refuse s .badValue

/-- BOOK_PURGE's effect (R104). -/
def bookPurge (operands : List Byte) (s : State) : Answer :=
  match cutFields [] operands with
  | some [] =>
    let kept := s.bookings.filter (fun b => liveBooking b.state)
    accept { s with bookings := kept } (octet1 (s.bookings.length - kept.length))
  | _ => refuse s .badValue

end Sys2Proof.Machine
end

