-- ==== Sys2Proof/Machine/Tracker.lean ====
section
/-! DEFINITION. The position tracker (chapter 2): MOTION frames, position states, presence and obstruction, and
the notices to the other blocks. -/

namespace Sys2Proof.Machine

/-! ### Presence and obstruction (R28 to R31) -/

/-- R28: the sector in which a crane is present. -/
def State.presenceOf (s : State) (c : Crane) : Option Sector :=
  match s.current c with
  | none => none
  | some i =>
    let g := segmentAt (s.zone c) i
    match s.sharedSector c g with
    | none => none
    | some k => if (s.sector k).clash = .jib ∨ inBand g (s.evalRadius c) then some k else none

/-- R29: the sectors a crane is obstructing. -/
def State.obstructedBy (s : State) (c : Crane) : List Sector :=
  if s.located c then [] else s.sectorsOf c

/-- R30: what a report carries, from presence and obstruction before and after in one sector; none when nothing
has changed. -/
def presenceChange (wasIn isIn wasObstructing isObstructing : Bool) : Option PresenceChange :=
  match wasObstructing, isObstructing with
  | false, true => some (if wasIn then .obstructLeave else .obstruct)
  | true, false => some (if isIn then .unobstructEnter else .unobstruct)
  | _, _ =>
    match wasIn, isIn with
    | false, true => some .enter
    | true, false => some .leave
    | _, _ => none

/-- R30: the reports of a change of crane `c`'s record, in ascending sector number; `skip` names a sector that is
sent none (R31). -/
def presenceReports (c : Crane) (skip : Option Sector) (before after : PositionRecord) : List Notice :=
  allSectors.filterMap (fun k =>
    if skip = some k then none
    else
      (presenceChange (before.present == some k) (after.present == some k)
        (before.obstructed.contains k) (after.obstructed.contains k)).map (.presence k c))

/-- R31: presence and obstruction recomputed for a crane, and the reports sent. -/
def recomputePresence (c : Crane) (skip : Option Sector) (s : State) : State :=
  let p := s.position c
  let q := { p with present := s.presenceOf c, obstructed := s.obstructedBy c }
  (s.setPosition c q).send (presenceReports c skip p q)

/-! ### One frame (R20 to R24) -/

/-- R21: the corrected angle. -/
def correctAngle (raw : Nat) (offset : Int) : Nat := ((raw - offset) % 8192).toNat

/-- R22: one axis reported ok: the held value, the excursion mark and the RANGE event. -/
def clampAxis (c : Crane) (axis top : Nat) (mark : Bool) (value : Nat) : Nat × Bool × List EventBody :=
  if value > top then
    (top, true, if mark then [] else [eventOf .range (some c) none axis value])
  else (value, false, [])

/-- R22: one axis of a frame: taken when it is reported ok, and otherwise kept. -/
def takeAxis (c : Crane) (axis top : Nat) (ok : Bool) (held : Nat) (mark : Bool) (value : Nat) :
    Nat × Bool × List EventBody :=
  if ok then clampAxis c axis top mark value else (held, mark, [])

/-- R21: the frame's slew status. -/
def slewStatus (f : MotionFrame) : Bool := f.slewOk && decide (f.rawAngle.toNat < 8192)

/-- R23: the new position state. -/
def positionStateOf (slew trolley hoist : Bool) : PositionState :=
  if !slew then .lost else if trolley && hoist then .tracked else .degraded

/-- R20 to R24: the record an accepted frame leaves, before presence is recomputed, and its RANGE events. -/
def updateRecord (c : Crane) (r : CraneRecord) (staleTime : Nat) (f : MotionFrame) (p : PositionRecord) :
    PositionRecord × List EventBody :=
  let slew := slewStatus f
  let rad := takeAxis c 0 r.jib f.trolleyOk p.radius p.radiusMark f.radius.toNat
  let hgt := takeAxis c 1 3000 f.hoistOk p.height p.heightMark f.height.toNat
  let ld := takeAxis c 2 8000 f.loadOk p.load p.loadMark f.load.toNat
  ({ p with
      state := positionStateOf slew f.trolleyOk f.hoistOk
      seqRef := if slew then some f.seq else none
      slewOk := slew, trolleyOk := f.trolleyOk, hoistOk := f.hoistOk, loadOk := f.loadOk
      angle := if slew then correctAngle f.rawAngle.toNat r.slewOffset else p.angle
      radius := rad.1, height := hgt.1, load := ld.1
      radiusMark := rad.2.1, heightMark := hgt.2.1, loadMark := ld.2.1
      stale := if slew then some staleTime else none },
    rad.2.2 ++ hgt.2.2 ++ ld.2.2)

/-- TRACKED or DEGRADED. -/
def locatedState : PositionState → Bool
  | .tracked => true | .degraded => true | .none => false | .lost => false

/-- R26, R27: the event of a change of position state. `cause` is POSITION_LOST's: SLEW 0, STALE 1, ABSENT 2. -/
def positionEvents (c : Crane) (cause : Nat) (before after : PositionState) : List EventBody :=
  if after = .lost ∧ before ≠ .lost then [eventOf .positionLost (some c) none cause]
  else if locatedState after ∧ ¬ locatedState before then
    [eventOf .positionRegained (some c) none (positionCode after)]
  else []

/-- R32: the hand-offs of a frame, in the order of the rule: the load sample, the wind monitor, the booking table
and the permit path. -/
def handOffs (c : Crane) (before after : PositionRecord) : List Notice :=
  (if after.loadOk then [.loadSample c after.load] else [])
    ++ [.motionTaken c]
    ++ (if before.state ≠ after.state then [.craneCondition c] else [])
    ++ (if after.state = .lost ∧ before.state ≠ .lost then [.limit c] else [])
    ++ (if before.trolleyOk ∧ ¬ after.trolleyOk then [.limit c] else [])
    ++ (if before.hoistOk ∧ ¬ after.hoistOk then [.limit c] else [])

/-- R19: one MOTION frame of a present crane. Its RANGE, POSITION_LOST and POSITION_REGAINED records stand before the
records that the arbiter raises on its presence reports: no rule orders the two (log 5, DESIGN CHOICE). -/
def takeMotion (c : Crane) (f : MotionFrame) (s : State) : State :=
  let p := s.position c
  if seqAccepted p.seqRef f.seq then
    let u := updateRecord c (s.crane c) s.site.positionStale f p
    let s1 := (s.setPosition c u.1).postAll (u.2 ++ positionEvents c 0 p.state u.1.state)
    let s2 := recomputePresence c none s1
    withBeacons s (s2.send (handOffs c p u.1))
  else s

/-- POSITION_STALE_EXPIRY (R24, R26): a stopped timer does not expire. POSITION_LOST stands before what the arbiter raises
on the reports, as at a frame (log 5, DESIGN CHOICE). -/
def expirePosition (c : Crane) (s : State) : State :=
  let p := s.position c
  if p.stale = none then s
  else
    let s1 := (s.setPosition c { p with state := .lost, stale := none, seqRef := none }).postAll
      (positionEvents c 1 p.state .lost)
    let s2 := recomputePresence c none s1
    withBeacons s (s2.send [.craneCondition c, .limit c])

/-! ### A crane made absent (R33) -/

/-- R33: the record of a crane made absent. -/
def absentPosition (p : PositionRecord) : PositionRecord :=
  { p with state := .none, seqRef := none, slewOk := false, trolleyOk := false, hoistOk := false,
           loadOk := false, radiusMark := false, heightMark := false, loadMark := false, stale := none }

/-- R33, R32: entry to NONE; presence is recomputed after it (R31). -/
def loseAbsent (c : Crane) (s : State) : State :=
  let p := s.position c
  (s.setPosition c (absentPosition p)).postAll
    (if locatedState p.state then [eventOf .positionLost (some c) none 2] else [])

/-- R32: what is told of an entry to NONE. -/
def absentNotices (c : Crane) (before : PositionState) : List Notice :=
  if before = .none then [] else [.craneCondition c, .limit c]

end Sys2Proof.Machine
end

