-- ==== Sys2Proof/Machine/Detector.lean ====
section
/-! DEFINITION. The load-cycle detector (chapter 5): what one load sample does. -/

namespace Sys2Proof.Machine

/-- What a sample's transition makes of the record, and whether it completed a lift. -/
abbrev Transition := Detector × Bool

/-- R82: PICKING, after the run count has been brought up for this sample. -/
def pickingTest (r : CraneRecord) (noPick : Bool) (d : Detector) : Detector :=
  if d.run = r.debounce + 1 ∧ noPick = false then { d with state := .loaded, run := 0 }
  else { d with state := .picking }

/-- R82: an abandoned pick; the cycle ends. -/
def abandonPick (d : Detector) : Detector :=
  { d with state := .unloaded, run := 0, peak := 0, overload := false, reported := false }

/-- R84: SETTING, after the run count has been brought up for this sample. -/
def settingTest (r : CraneRecord) (d : Detector) : Transition :=
  if d.run ≥ r.debounce + 1 then ({ d with state := .unloaded }, true) else ({ d with state := .setting }, false)

/-- R85: the peak raised by a sample, before its transition. -/
def raisePeak (x : Nat) (d : Detector) : Detector :=
  match d.state with
  | .unloaded => d
  | _ => { d with peak := max d.peak x }

/-- R81 to R84: the transition of the current state. -/
def applySample (r : CraneRecord) (noPick : Bool) (x : Nat) (d : Detector) : Transition :=
  match d.state with
  | .unloaded =>
    if r.pick ≤ x then (pickingTest r noPick { d with run := 1, peak := x, reported := false }, false)
    else ({ d with run := 0, peak := 0 }, false)
  | .picking =>
    if r.pick ≤ x then (pickingTest r noPick { d with run := min (d.run + 1) (r.debounce + 1) }, false)
    else (abandonPick d, false)
  | .loaded =>
    if x ≤ r.setDown then settingTest r { d with run := 1 } else (d, false)
  | .setting =>
    if x ≤ r.setDown then settingTest r { d with run := d.run + 1 }
    else ({ d with state := .loaded, run := 0 }, false)

/-- R86: the LIFT event. -/
def liftEvent (c : Crane) (a : Attribution) (peak : Nat) : EventBody :=
  eventOf .lift (some c) (attributionSector a) (attributionBooking a) peak (attributionCode a)

/-- R86: a lift completed; the record holds the cycle's peak. -/
def completeLift (c : Crane) (s : State) : State :=
  let d := s.detector c
  let a := liftAnswer s c
  let s1 := attributeLift c (s.setDetector c { d with lifts := d.lifts + 1 })
  (s1.setDetector c
    { d with lifts := d.lifts + 1, lastLift := some { peak := d.peak, attribution := a },
             peak := 0, run := 0, overload := false, reported := false }).post (liftEvent c a d.peak)

/-- R87: the condition a sample meets, with the sector, the booking and its max load. -/
def State.bookedOverload (s : State) (c : Crane) (x : Nat) : Option (Sector × Half × Nat) :=
  if (s.detector c).state = .picking ∨ (s.detector c).state = .loaded then s.overloadedSector c x else none

/-- R87: the test of a sample, after its transition. -/
def testOverload (c : Crane) (x : Nat) (s : State) : State :=
  let d := s.detector c
  match s.bookedOverload c x with
  | none => s.setDetector c { d with overload := false }
  | some (k, id, m) =>
    let s1 := s.setDetector c { d with overload := true, reported := true }
    if d.reported then s1 else s1.post (eventOf .bookedOverload (some c) (some k) id.toNat x m)

/-- R88: the limit notices of a sample. -/
def sampleNotices (c : Crane) (noPick : Bool) (before after : Detector) : List Notice :=
  (if before.state = .unloaded ∧ after.state = .picking ∧ noPick then [.limit c] else [])
    ++ (if ¬ before.overload ∧ after.overload then [.limit c] else [])

/-- LOAD_SAMPLE (R80). -/
def takeSample (c : Crane) (x : Nat) (s : State) : State :=
  let d := s.detector c
  let noPick := s.noPick c
  let t := applySample (s.crane c) noPick x (raisePeak x d)
  let s1 := s.setDetector c t.1
  let s2 := if t.2 then completeLift c s1 else s1
  let s3 := testOverload c x s2
  s3.send (sampleNotices c noPick d (s3.detector c))

end Sys2Proof.Machine
end

