-- ==== Sys2Proof/Machine/Permits.lean ====
section
/-! DEFINITION. The permit path (chapter 9): demands of record, issuing, urgent permits, advice, and the two slots
of a crane link port. -/

namespace Sys2Proof.Machine

/-! ### Advice (R147) -/

/-- The lowest-numbered sector crane `c` holds whose grant meets a condition. -/
def State.heldWith (s : State) (c : Crane) (p : Grant → Bool) : Option Sector :=
  (s.heldBy c).find? (fun k => match grantOf (s.entry k) with | some g => p g | none => false)

/-- The lowest-numbered sector in whose request queue crane `c` stands. -/
def State.queuedIn (s : State) (c : Crane) : Option Sector :=
  allSectors.find? (fun k => queued (s.entry k) c)

/-- A grant owned by a booking. -/
def isBooked (g : Grant) : Bool :=
  match g.kind with
  | .booked _ => true
  | .routine => false

/-- R147: the first advice whose condition holds, with its sector. -/
def State.advice (s : State) (c : Crane) : Advice × Option Sector :=
  let w := s.windOf c
  if s.mode = .config ∨ s.hold then (.hold, none)
  else if (s.position c).state ≠ .tracked then (.position, none)
  else if w.state = .vanePending then (.vane, s.handshakeFailure c)
  else if w.state = .vane then (.vane, none)
  else if w.state = .stop ∧ w.vaneWait then (.parkForVane, none)
  else if w.state = .stop then (.windStop, none)
  else
    match s.exitPlace c with
    | some (.sector k) => (.evacuate, some k)
    | some (.barred _) => (.evacuate, none)
    | none =>
      match s.heldWith c (fun g => g.yielding.isSome), s.heldWith c (fun g => g.overstay), s.queuedIn c,
          s.heldWith c isBooked with
      | some k, _, _, _ => (.yield, some k)
      | none, some k, _, _ => (.overstay, some k)
      | none, none, some k, _ => (.waitSector, some k)
      | none, none, none, some k => (.booked, some k)
      | none, none, none, none => if w.state = .alert then (.windAlert, none) else (.none, none)

/-! ### Issuing (R143, R146, R148) -/

/-- R146: the contents of a permit, its sequence already advanced. -/
def State.assemble (s : State) (c : Crane) (x : Computation) : Permit :=
  let r := s.permit c
  let a := s.advice c
  { echoed := r.echoed, seq := r.seq, speeds := x.speeds, reasons := x.reasons,
    vaneRelease := (s.windOf c).state == .vane, noPick := x.noPick, demandStale := r.demandStale,
    advice := a.1, adviceSector := a.2, windState := (s.windOf c).state, source := (s.windOf c).source,
    gust := s.gustNumber c }

/-- R148: a permit handed to a link port. -/
def placePermit (p : Permit) (t : LinkSlots) : LinkSlots :=
  match t.transmit with
  | none => { t with transmit := some p }
  | some _ => { t with waiting := some p }

/-- R148: the completion of a frame's sending. -/
def completeSending (t : LinkSlots) : LinkSlots := { transmit := t.waiting, waiting := none }

/-- R143: the permit of a computation issued, and then the knocks of the computation (R53). -/
def issue (c : Crane) (x : Computation) (s : State) : State :=
  let r := s.permit c
  let s1 := s.setPermit c
    { r with seq := r.seq + 1, last := x.speeds, refresh := some s.site.permitRefresh }
  (s1.setSlot c (placePermit (s1.assemble c x) (s1.slot c))).send (x.knocks.map (fun k => .knock k c))

/-- The computation for a crane, and its permit issued. -/
def computeAndIssue (c : Crane) (s : State) : State := issue c (s.compute c) s

/-- R145: a permit issued to every present crane, in ascending number. -/
def issueAll (s : State) : State := s.presentCranes.foldl (fun t c => computeAndIssue c t) s

/-! ### Demands (R140 to R142) -/

/-- R35: a demand clamped to its range. -/
def clampDemand (d : Half) : Int := max (-1000) (min 1000 d.toInt)

/-- R140: one DEMAND frame of a present crane. -/
def takeDemand (c : Crane) (f : DemandFrame) (s : State) : State :=
  let r := s.permit c
  if seqAccepted r.seqRef f.seq then
    computeAndIssue c (s.setPermit c
      { r with seqRef := some f.seq, echoed := f.seq,
               demand := ⟨clampDemand f.slew, clampDemand f.trolley, clampDemand f.hoist⟩,
               demandStale := false, timeout := some s.site.demandTimeout })
  else s

/-- DEMAND_TIMEOUT_EXPIRY (R141): a stopped timer does not expire. -/
def expireDemand (c : Crane) (s : State) : State :=
  let r := s.permit c
  if r.timeout = none then s
  else s.setPermit c { r with demand := ⟨0, 0, 0⟩, demandStale := true, seqRef := none, timeout := none }

/-- REFRESH_EXPIRY (R142): a stopped timer does not expire. -/
def expireRefresh (c : Crane) (s : State) : State :=
  if (s.permit c).refresh = none then s else computeAndIssue c s

/-! ### Urgent permits (R144) -/

/-- R144: an axis whose new limit, in the direction of its last permitted speed, lies below that speed. -/
def fallen (l : Limits) (a : Axis) (last : Int) : Bool :=
  decide (last ≠ 0) && decide (l.get a (decide (0 < last)) < last.natAbs)

/-- R144: the urgent test. -/
def urgentTest (x : Computation) (last : PerAxis Int) : Bool :=
  fallen x.limits .slew last.slew || fallen x.limits .trolley last.trolley || fallen x.limits .hoist last.hoist

/-- LIMIT_NOTICE (R144): discarded for an absent crane. The knocks of a computation are sent whether or not its
permit is issued (R53, log 11). -/
def takeLimitNotice (c : Crane) (s : State) : State :=
  if (s.crane c).present then
    let x := s.compute c
    if urgentTest x (s.permit c).last then issue c x s
    else s.send (x.knocks.map (fun k => .knock k c))
  else s

/-! ### Cranes made present and absent (R139, R148) -/

/-- R139: the permit record of a crane made present. -/
def presentPermit (refresh : Nat) (r : PermitRecord) : PermitRecord :=
  { r with demand := ⟨0, 0, 0⟩, demandStale := true, seqRef := none, last := ⟨0, 0, 0⟩, timeout := none,
           refresh := some refresh }

/-- R139: the permit record of a crane made absent. -/
def absentPermit (r : PermitRecord) : PermitRecord :=
  { r with demand := ⟨0, 0, 0⟩, demandStale := true, seqRef := none, last := ⟨0, 0, 0⟩, timeout := none,
           refresh := none }

end Sys2Proof.Machine
end

