-- ==== Sys2Proof/Machine/Tables.lean ====
section
/-! DEFINITION. The table writes (chapter 1) and the arming consistency check. Each `write…` reads the operand
octets and answers; the mode is checked first (R1), after the operand count (R161). -/

namespace Sys2Proof.Machine

/-- A table write: the operand count, then the mode, then the write itself (R1, R161). -/
def tableWrite (widths : List Nat) (operands : List Byte) (f : List Nat → State → Answer) (s : State) : Answer :=
  match cutFields widths operands with
  | none => refuse s .badValue
  | some fields => if s.mode = .config then f fields s else refuse s .notInConfig

/-! ### Site parameters, patterns and profiles (R13, R15, R16) -/

/-- WRITE_SITE (R16). -/
def writeSite (operands : List Byte) (s : State) : Answer :=
  tableWrite siteWidths operands (fun fields s =>
    match readSiteParams fields with
    | none => refuse s .badValue
    | some p => accept { s with site := p }) s

/-- WRITE_PATTERN (R15): the pattern is replaced and every line showing its condition restarts. -/
def writePattern (operands : List Byte) (s : State) : Answer :=
  tableWrite patternWidths operands (fun fields s =>
    match conditionOf (fields.headD 255) with
    | none => refuse s .badIndex
    | some cond =>
      match readPattern fields.tail with
      | none => refuse s .badValue
      | some p => accept (({ s with patterns := setPattern s.patterns cond p } : State).restartShowing cond)) s

/-- R3: the counting of a wind record that starts afresh. -/
def restartCounting (w : WindRecord) : WindRecord :=
  { w with accSum := 0, accCount := 0, stopCount := 0, alertCount := 0, calmCount := 0 }

/-- WRITE_PROFILE (R13, R3): the profile is replaced, and the counting of every crane whose record names it
restarts; the record of an absent crane names profile 0 (R4). -/
def writeProfile (operands : List Byte) (s : State) : Answer :=
  tableWrite profileWidths operands (fun fields s =>
    if fields.headD 255 > 3 then refuse s .badIndex
    else
      match readProfile fields.tail with
      | none => refuse s .badValue
      | some p =>
        let n : ProfileNo := Fin.ofNat 4 (fields.headD 0)
        accept ((allCranes.filter (fun c => (s.crane c).profile == n)).foldl
          (fun t c => t.setWind c (restartCounting (t.windOf c))) (s.setProfile n p))) s

/-! ### Crane records (R2 to R5, R33, R89, R139, R148, R171) -/

/-- A WRITE_CRANE that makes crane `c` absent, or leaves it so (R5, R33, R139, R148). The position is lost before the
sources are selected, so POSITION_LOST stands before the WIND_SOURCE records (log 5). -/
def makeAbsent (c : Crane) (s : State) : State :=
  let was := (s.crane c).present
  let state := (s.position c).state
  let s1 := recomputePresence c none (loseAbsent c (s.setCrane c .absent))
  let s2 := if was then
      (s1.setPermit c (absentPermit (s1.permit c))).setSlot c { s1.slot c with waiting := none }
    else s1
  let s3 := s2.send (absentNotices c state)
  let s4 := if was then selectSources none s3 else s3
  s4.refreshLines

/-- A WRITE_CRANE that makes crane `c` present, or leaves it so (R2, R3, R89, R139). -/
def makePresent (c : Crane) (r : CraneRecord) (s : State) : State :=
  let was := (s.crane c).present
  let s1 := recomputePresence c none (s.setCrane c r)
  let s2 := s1.setWind c (restartCounting (s1.windOf c))
  let s3 := s2.setDetector c { s2.detector c with run := 0 }
  let s4 := if was then s3 else s3.setPermit c (presentPermit s3.site.permitRefresh (s3.permit c))
  let s5 := if was then s4 else selectSources none s4
  s5.refreshLines

/-- WRITE_CRANE (R4, R5). With the present field no, the other fields are not checked. -/
def writeCrane (operands : List Byte) (s : State) : Answer :=
  tableWrite craneWidths operands (fun fields s =>
    match fields with
    | c :: present :: rest =>
      if c > 7 then refuse s .badIndex
      else if present = 0 then accept (makeAbsent (Fin.ofNat 8 c) s)
      else if present = 1 then
        match rest with
        | off :: jib :: pr :: ph :: prof :: line :: more =>
          match readCraneRecord (off :: jib :: pr :: ph :: prof :: line :: more) with
          | none => refuse s .badValue
          | some r => accept (makePresent (Fin.ofNat 8 c) r s)
        | _ => refuse s .badValue
      else refuse s .badValue
    | _ => refuse s .badValue) s

/-! ### Sector records (R2, R10, R78) -/

/-- R2: presence recomputed for every crane listed before or after a sector's write, in ascending number. `skip`
is the sector when it has been disabled: it is sent no report (R31). -/
def recomputeMembers (k : Sector) (listed : List Crane) (skip : Option Sector) (s : State) : State :=
  (allCranes.filter (fun c => listed.contains c || (s.sector k).members.contains c)).foldl
    (fun t c => recomputePresence c skip t) s

/-- WRITE_SECTOR's effect: the record is replaced; a sector disabled by it has its entry reset (R78). -/
def putSector (k : Sector) (r : SectorRecord) (s : State) : State :=
  let listed := (s.sector k).members
  let s1 := s.setSector k r
  if r.enabled then recomputeMembers k listed none s1
  else (recomputeMembers k listed (some k) s1).setEntry k .reset

/-- WRITE_SECTOR (R10). With the enabled field no, the other fields are not checked. -/
def writeSector (operands : List Byte) (s : State) : Answer :=
  tableWrite sectorWidths operands (fun fields s =>
    match fields with
    | k :: enabled :: rest =>
      if k > 15 then refuse s .badIndex
      else if enabled = 0 then accept (putSector (Fin.ofNat 16 k) .disabled s)
      else if enabled = 1 then
        match readSectorRecord rest with
        | none => refuse s .badValue
        | some r => accept (putSector (Fin.ofNat 16 k) r s)
      else refuse s .badValue
    | _ => refuse s .badValue) s

/-! ### Zone tables (R7, R158) -/

/-- How many segments a part with a first index carries: the smaller of six and what remains (R158). -/
def partSize (count first : Nat) : Nat := min 6 (count - first)

/-- R158: whether a part's N, first index and segment count agree. -/
def partWellFormed (count first segments : Nat) : Bool :=
  within 1 16 count && [0, 6, 12].contains first && decide (first < count) && segments == partSize count first

/-- A part refused: the assembly is discarded. -/
def refusePart (s : State) (r : Result) : Answer := { state := { s with assembly := none }, result := r }

/-- R158: the last part completes the write; the list is checked and stored by R1 and R7. -/
def completeZone (c : Crane) (segments : List RawSegment) (s : State) : Answer :=
  let s1 : State := { s with assembly := none }
  match readZone segments with
  | none => { state := s1, result := .badValue }
  | some z => accept (recomputePresence c none (s1.setZone c z))

/-- R158: a well-formed part taken into the assembly. -/
def takePart (c : Crane) (count first : Nat) (part : List RawSegment) (s : State) : Answer :=
  let held : Option (List RawSegment) :=
    if first = 0 then some []
    else
      match s.assembly with
      | some a => if a.crane = c ∧ a.count = count ∧ a.segments.length = first then some a.segments else none
      | none => none
  match held with
  | none => refusePart s .badValue
  | some before =>
    let segments := before ++ part
    if segments.length = count then completeZone c segments s
    else accept { s with assembly := some { crane := c, count := count, segments := segments } }
      (octet1 segments.length)

/-- WRITE_SEGMENTS (R158). Operands that are no whole number of segments are the wrong count (R161) and leave
the assembly (log 8). -/
def writeSegments (operands : List Byte) (s : State) : Answer :=
  match operands with
  | c :: count :: first :: bs =>
    if bs.length % 7 ≠ 0 then refuse s .badValue
    else if s.mode ≠ .config then refusePart s .notInConfig
    else if c.toNat > 7 then refusePart s .badIndex
    else if partWellFormed count.toNat first.toNat (bs.length / 7) then
      takePart (Fin.ofNat 8 c.toNat) count.toNat first.toNat (readRawSegments (bs.length / 7) bs) s
    else refusePart s .badValue
  | _ => refuse s .badValue

/-! ### The arming consistency check (R17) -/

/-- Crane `c`'s segments with their indices. -/
def State.indexed (s : State) (c : Crane) : List (Nat × Segment) :=
  (List.range (s.zone c).length).map (fun i => (i, segmentAt (s.zone c) i))

/-- The first segment of a present crane, in ascending crane number and index, that a test names. -/
def State.firstSegment (s : State) (test : Crane → Nat → Segment → Bool) : Option Nat :=
  s.presentCranes.findSome? (fun c =>
    ((s.indexed c).find? (fun (i, g) => test c i g)).map (fun (i, _) => 16 * c.val + i))

/-- The first present crane that a test names. -/
def State.firstCrane (s : State) (test : Crane → Bool) : Option Nat := (s.presentCranes.find? test).map (·.val)

/-- The first enabled sector that a test names. -/
def State.firstSector (s : State) (test : Sector → Bool) : Option Nat :=
  (allSectors.find? (fun k => (s.sector k).enabled && test k)).map (·.val)

/-- Crane `c` has a SHARED segment that names sector `k`. -/
def State.reaches (s : State) (c : Crane) (k : Sector) : Bool :=
  (s.zone c).any (fun g => g.kind == .shared && g.sector == k)

/-- The ten tests in the order of their codes, each with its offender. -/
def State.armingTests (s : State) : List (Nat × Option Nat) :=
  [(1, if s.presentCranes = [] then some 255 else none),
   (2, s.firstCrane (fun c => !profileValid (s.profileOf c))),
   (3, s.firstCrane (fun c => (s.zone c).isEmpty)),
   (4, s.firstSegment (fun c i g => i != 0 && decide (g.start ≤ (segmentAt (s.zone c) (i - 1)).start))),
   (5, s.firstSegment (fun c _ g => decide ((s.crane c).jib < g.rHi))),
   (6, s.firstSegment (fun c _ g => g.kind == .shared && !s.isMember g.sector c)),
   (7, s.firstSector (fun k => (s.sector k).members.any (fun c => !((s.crane c).present && s.reaches c k)))),
   (8, s.firstCrane (fun c => decide ((s.crane c).pick ≤ (s.crane c).setDown))),
   (9, s.firstSegment (fun c _ g => g.kind == .shared && s.isMember g.sector c
          && (s.sector g.sector).clash == .hook && decide (g.rLo ≤ (s.crane c).parkRadius))),
   (10, s.firstSector (fun k =>
          decide (2 ≤ ((s.sector k).members.filter (fun c => (s.position c).present == some k)).length)))]

/-- R17: the locator of the first failing test; none when the site may be armed. -/
def State.checkFailure (s : State) : Option Nat :=
  s.armingTests.findSome? (fun (code, offender) => offender.map (fun i => 256 * code + i))

end Sys2Proof.Machine
end

