-- ==== Sys2Proof/Machine/Reads.lean ====
section
/-! DEFINITION. What the read operations return (R108, R122, R166, with the encodings of R157), and the octets of
the frames the device sends (R159). -/

namespace Sys2Proof.Machine

/-- A yes/no value in one octet. -/
def flagOctet (b : Bool) : List Byte := octet1 (flag b)

/-- A figure in two octets, FFFFh for none. -/
def figureOctets (x : Option Nat) : List Byte := octet2 (x.getD noneArg)

/-- Three numbers, one for each axis. -/
def axisOctets (x : PerAxis Int) : List Byte := signed2 x.slew ++ signed2 x.trolley ++ signed2 x.hoist

/-! ### READ_CRANE (R166) -/

/-- Selector 0: the fields of R18. -/
def positionData (p : PositionRecord) : List Byte :=
  octet1 (positionCode p.state) ++ octet2 (referenceCode p.seqRef)
    ++ octet1 (packFlags [p.slewOk, p.trolleyOk, p.hoistOk, p.loadOk])
    ++ octet2 p.angle ++ octet2 p.radius ++ octet2 p.height ++ octet2 p.load
    ++ octet1 (packFlags [p.radiusMark, p.heightMark, p.loadMark]) ++ octet2 (timeLeft p.stale)
    ++ octet1 (octetOrNone p.present) ++ octet2 (sectorMask p.obstructed)

/-- The last lift of a detector record, preceded by its presence (R157). -/
def lastLiftData (x : Option LastLift) : List Byte :=
  match x with
  | none => octet1 0 ++ octet2 0 ++ octet1 0 ++ octet1 0 ++ octet2 0
  | some l =>
    octet1 1 ++ octet2 l.peak ++ octet1 (attributionCode l.attribution)
      ++ octet1 (octetOrNone (attributionSector l.attribution)) ++ octet2 (attributionBooking l.attribution)

/-- Selector 1: the fields of R79. -/
def detectorData (d : Detector) : List Byte :=
  octet1 (detectorCode d.state) ++ octet1 d.run ++ octet2 d.peak ++ octet2 d.lifts.toNat
    ++ flagOctet d.overload ++ flagOctet d.reported ++ lastLiftData d.lastLift

/-- Selector 2: the fields of R123, then those of R109 but the two rings. -/
def windData (w : WindRecord) : List Byte :=
  octet1 (windCode w.state) ++ octet1 w.stopCount ++ octet1 w.alertCount ++ octet1 w.calmCount
    ++ octet2 (timeLeft w.recovery) ++ octet2 (timeLeft w.vaneDelay) ++ flagOctet w.vaneWait
    ++ octet2 (timeLeft w.vaneTimeout)
    ++ octet2 (referenceCode w.seqRef) ++ flagOctet w.excursion
    ++ octet1 w.fine.base.val ++ octet1 w.fine.fill ++ octet2 w.accSum ++ octet1 w.accCount
    ++ octet1 w.coarse.base.val ++ octet1 w.coarse.fill ++ octet2 (timeLeft w.ownStale)
    ++ octet1 (freshCode w.fresh) ++ figureOctets w.ownGust ++ figureOctets w.ownMean
    ++ octet1 (sourceCode w.source) ++ octet1 (octetOrNone (lenderOf w.source))

/-- Selector 3: the fields of R139. -/
def permitData (r : PermitRecord) : List Byte :=
  axisOctets r.demand ++ flagOctet r.demandStale ++ octet2 (referenceCode r.seqRef)
    ++ octet1 r.echoed.toNat ++ octet2 (timeLeft r.timeout) ++ octet1 (timeLeft r.refresh)
    ++ octet1 r.seq.toNat ++ axisOctets r.last

/-- READ_CRANE (R166). R1 has every table readable by the read operations, but R159 and R166 give none for the crane
records, the zone tables, the profiles, the patterns and the site parameters; the model has the five reads of R166 and
no other (log 22). -/
def readCrane (operands : List Byte) (s : State) : Answer :=
  match cutFields [1, 1] operands with
  | some [c, selector] =>
    if c > 7 then refuse s .badIndex
    else
      let crane : Crane := Fin.ofNat 8 c
      match selector with
      | 0 => accept s (positionData (s.position crane))
      | 1 => accept s (detectorData (s.detector crane))
      | 2 => accept s (windData (s.windOf crane))
      | 3 => accept s (permitData (s.permit crane))
      | _ => refuse s .badValue
  | _ => refuse s .badValue

/-! ### READ_SECTOR (R166) -/

/-- Cranes in order in so many places, FFh for each unused one. -/
def cranePlaces (n : Nat) (cs : List Crane) : List Byte :=
  (List.range n).flatMap (fun i => octet1 (octetOrNone cs[i]?))

/-- The grant record, FFh for its kind when there is none. -/
def grantData (g : Option Grant) : List Byte :=
  match g with
  | none => octet1 255 ++ octet2 0 ++ octet1 0 ++ octet2 0 ++ octet1 0 ++ octet1 0 ++ octet1 0
  | some g =>
    octet1 (grantCode g.kind) ++ octet2 (grantBooking g.kind) ++ octet1 g.sliceLeft
      ++ octet2 (timeLeft g.hold) ++ flagOctet g.expired
      ++ octet1 (match g.yielding with | none => 0 | some y => yieldCode y + 1) ++ flagOctet g.overstay

/-- The clearing timer's time remaining. -/
def clearingLeft (e : SectorEntry) : Nat :=
  match e.base with
  | .clearing _ _ n => n
  | _ => 0

/-- One place of the request queue. -/
def queuePlace (q : Option QueueEntry) : List Byte :=
  match q with
  | none => octet1 255 ++ octet1 0 ++ octet1 0
  | some q => octet1 q.crane.val ++ octet1 q.keep ++ flagOctet q.resume

/-- The 43 octets of READ_SECTOR. -/
def sectorData (r : SectorRecord) (e : SectorEntry) : List Byte :=
  flagOctet r.enabled ++ octet1 (clashCode r.clash) ++ cranePlaces 4 r.members
    ++ octet2 r.clearingTime ++ octet2 r.holdLimit ++ octet1 r.slice
    ++ octet1 (sectorCode (stateOf r.clash e)) ++ octet1 (sectorCode (baseState e))
    ++ octet1 (octetOrNone (ownerOf e)) ++ grantData (grantOf e) ++ octet2 (clearingLeft e)
    ++ queuePlace e.queue[0]? ++ queuePlace e.queue[1]? ++ queuePlace e.queue[2]?
    ++ cranePlaces 4 e.locks ++ octet1 (craneMask e.presence) ++ octet1 (craneMask e.obstruction)
    ++ octet2 (match e.claimant with | some cl => cl.booking.toNat | none => 0)
    ++ octet1 (octetOrNone (e.claimant.map (·.crane)))

/-- READ_SECTOR (R166). -/
def readSector (operands : List Byte) (s : State) : Answer :=
  match cutFields [1] operands with
  | some [k] =>
    if k > 15 then refuse s .badIndex
    else accept s (sectorData (s.sector (Fin.ofNat 16 k)) (s.entry (Fin.ofNat 16 k)))
  | _ => refuse s .badValue

/-! ### READ_STATUS, READ_BOOKING, READ_WIND (R108, R122, R166) -/

/-- The data of READ_STATUS. -/
def statusData (l : Link) (s : State) : List Byte :=
  octet2 (s.counter l).crc ++ octet2 (s.counter l).length ++ octet2 (s.counter l).misdirected
    ++ octet1 (modeCode s.mode) ++ flagOctet s.clockSet ++ octet4 s.clock.toNat
    ++ octet1 s.events.length ++ flagOctet s.overflow ++ octet4 s.mask.toNat

/-- READ_STATUS (R166). -/
def readStatus (operands : List Byte) (s : State) : Answer :=
  match cutFields [1] operands with
  | some [l] => if l > 8 then refuse s .badIndex else accept s (statusData (Fin.ofNat 9 l) s)
  | _ => refuse s .badValue

/-- The data of READ_BOOKING: the fields of R91, and whether the booking owns a grant. -/
def bookingData (b : Booking) (owns : Bool) : List Byte :=
  octet2 b.id.toNat ++ octet1 b.crane.val ++ octet1 b.sector.val ++ octet4 b.start ++ octet4 b.stop
    ++ octet1 b.quota ++ octet1 (classCode b.cls) ++ octet2 b.maxLoad ++ octet1 (bookingCode b.state)
    ++ octet2 b.done ++ octet1 (causeCode b.cause) ++ flagOctet owns

/-- READ_BOOKING (R108). -/
def readBookingOp (operands : List Byte) (s : State) : Answer :=
  match cutFields [2] operands with
  | some [n] =>
    match s.booking (BitVec.ofNat 16 n) with
    | none => refuse s .noSuchId
    | some b => accept s (bookingData b (s.grantOwner b.sector == some b.id))
  | _ => refuse s .badValue

/-- The data of READ_WIND. -/
def windReadData (s : State) (c : Crane) (value fill : Nat) : List Byte :=
  octet2 value ++ octet1 fill ++ octet1 (sourceCode (s.windOf c).source)
    ++ octet1 (octetOrNone (lenderOf (s.windOf c).source)) ++ octet2 (s.gustNumber c) ++ octet2 (s.meanNumber c)

/-- READ_WIND of one ring. -/
def readRing {n : Nat} [NeZero n] (s : State) (c : Crane) (r : Ring n) (offset : Nat) : Answer :=
  if offset ≥ n then refuse s .badValue
  else if offset < r.fill then accept s (windReadData s c (ringAt r offset) r.fill)
  else { state := s, result := .noData, data := windReadData s c 0 r.fill }

/-- READ_WIND (R122). -/
def readWind (operands : List Byte) (s : State) : Answer :=
  match cutFields [1, 1, 1] operands with
  | some [c, ring, offset] =>
    if c > 7 then refuse s .badIndex
    else
      let crane : Crane := Fin.ofNat 8 c
      match ring with
      | 0 => readRing s crane (s.windOf crane).fine offset
      | 1 => readRing s crane (s.windOf crane).coarse offset
      | _ => refuse s .badValue
  | _ => refuse s .badValue

/-! ### Frames sent (R155, R156, R159) -/

/-- The payload of a PERMIT frame. -/
def permitPayload (p : Permit) : List Byte :=
  octet1 p.echoed.toNat ++ octet1 p.seq.toNat ++ axisOctets p.speeds
    ++ octet1 (reasonCode p.reasons.slew) ++ octet1 (reasonCode p.reasons.trolley)
    ++ octet1 (reasonCode p.reasons.hoist)
    ++ octet1 (packFlags [p.vaneRelease, p.noPick, p.demandStale])
    ++ octet1 (adviceCode p.advice) ++ octet1 (octetOrNone p.adviceSector)
    ++ octet1 (windCode p.windState * 32 + sourceCode p.source * 8
        + (match lenderOf p.source with | some l => l.val | none => 0))
    ++ octet2 p.gust

/-- The payload of a REPLY frame. -/
def replyPayload (r : Reply) : List Byte :=
  r.tag :: r.operation :: octet1 (resultCode r.result) ++ octet2 r.locator.toNat ++ r.data

/-- The payload of an EVENT frame. -/
def eventPayload (e : EventRecord) (overflow : Bool) : List Byte :=
  octet1 (flag overflow * 128 + flag e.clockUnset * 64 + eventCode e.body.kind)
    ++ octet1 ((match e.body.sector with | some k => k.val | none => 0) * 16
        + (match e.body.crane with | some c => c.val | none => 0))
    ++ octet2 e.body.argA.toNat ++ octet2 e.body.argB.toNat ++ octet2 e.body.argC.toNat
    ++ octet4 e.time.toNat

/-- The octets of the frame a crane link is sending. -/
def State.craneLine (s : State) (c : Crane) : Option (List Byte) :=
  (s.slot c).transmit.map (fun p => frameOctets kindPermit (permitPayload p))

/-- The octets of the frame the site link is sending. -/
def State.siteLine (s : State) : Option (List Byte) :=
  s.transmitter.map (fun f =>
    match f with
    | .reply r => frameOctets kindReply (replyPayload r)
    | .event e overflow => frameOctets kindEvent (eventPayload e overflow))

/-- R150, R155: the level of crane `c`'s outgoing line so many bit times after its frame began. -/
def State.craneLevel (s : State) (c : Crane) (bit : Nat) : Bool := lineLevel (s.craneLine c) bit

/-- R150, R156: the level of the site link's outgoing line so many bit times after its frame began. -/
def State.siteLevel (s : State) (bit : Nat) : Bool := lineLevel s.siteLine bit

end Sys2Proof.Machine
end

