-- ==== Sys2Proof/Machine/Management.lean ====
section
/-! DEFINITION. The management unit (chapter 11): arming and disarming, the clock and mask, the commands it passes
to the arbiter and the wind monitor, and the operation codes. -/

namespace Sys2Proof.Machine

/-- An operation without operands. -/
def noOperands (operands : List Byte) (f : State → Answer) (s : State) : Answer :=
  match operands with
  | [] => f s
  | _ :: _ => refuse s .badValue

/-- An operation with operands of given widths. -/
def withOperands (widths : List Nat) (operands : List Byte) (f : List Nat → State → Answer) (s : State) : Answer :=
  match cutFields widths operands with
  | some fields => f fields s
  | none => refuse s .badValue

/-! ### Arming and disarming (R163, R164) -/

/-- R77: the sector arbiter sets up every enabled entry and runs its grant evaluation. Neither R77 nor R163 orders
the sectors: that they are taken in ascending number, and their GRANT records stand so, is a DESIGN CHOICE (log 5). -/
def setUpSectors (s : State) : State :=
  allSectors.foldl (fun t k =>
    entryEvent k (fun x e => takeArm x (t.presentIn k) (t.obstructing k)
      ((claimantOf t.bookings k).map asClaimant) e) t) s

/-- R163 steps 1 to 4. -/
def armSite (s : State) : State :=
  (armBookings (setUpSectors { s with mode := .armed })).post (eventOf .armed)

/-- ARM (R163). -/
def arm (operands : List Byte) (s : State) : Answer :=
  noOperands operands (fun s =>
    if s.mode = .armed then refuse s .wrongState
    else
      match s.checkFailure with
      | some locator => { state := s, result := .checkFailed, locator := locator }
      | none => accept (armSite s)) s

/-- R78: every enabled sector's entry cleared. Nothing is told of it: the zero permits of DISARM reach every
crane. -/
def clearSectors (s : State) : State :=
  allSectors.foldl (fun t k =>
    if (t.sector k).enabled then t.setEntry k (takeDisarm (t.entry k)).1 else t) s

/-- R164: a present crane is in VANE_PENDING or VANE. -/
def State.vaning (s : State) : Bool :=
  s.presentCranes.any (fun c => (s.windOf c).state == .vanePending || (s.windOf c).state == .vane)

/-- R164 steps 1 to 5. -/
def disarmSite (s : State) : State :=
  (issueAll (disarmBookings (clearSectors { s with mode := .config }))).post (eventOf .disarmed)

/-- DISARM (R164). -/
def disarm (operands : List Byte) (s : State) : Answer :=
  noOperands operands (fun s =>
    if s.mode = .config then refuse s .wrongState
    else if s.vaning then refuse s .vaneActive
    else accept (disarmSite s)) s

/-! ### Clock and mask (R165, R168) -/

/-- R165: the clock loaded, and the bookings judged by it. -/
def setClock (seconds : Nat) (s : State) : State :=
  evaluateWindows .clock { s with clock := BitVec.ofNat 32 seconds, clockSet := true }

/-- TIME_SET (R165, R98). -/
def timeSet (operands : List Byte) (s : State) : Answer :=
  withOperands [4] operands (fun fields s => accept (setClock (fields.headD 0) s)) s

/-- SET_MASK (R168): bits 22 to 31 are ignored. -/
def setMask (operands : List Byte) (s : State) : Answer :=
  withOperands [4] operands (fun fields s => accept { s with mask := BitVec.ofNat 22 (fields.headD 0) }) s

/-! ### Commands to the arbiter and the wind monitor (R74, R131, R136) -/

/-- The checks of SECTOR_CLOSE and SECTOR_OPEN (R74). -/
def sectorCommand (operands : List Byte) (f : Sector → State → State) (s : State) : Answer :=
  withOperands [1] operands (fun fields s =>
    let k := fields.headD 255
    if k > 15 ∨ ¬ (s.sector (Fin.ofNat 16 k)).enabled then refuse s .badIndex
    else if s.mode = .config then refuse s .notArmed
    else accept (f (Fin.ofNat 16 k) s)) s

/-- SECTOR_CLOSE (R73, R74). -/
def sectorClose (operands : List Byte) (s : State) : Answer := sectorCommand operands closeSector s

/-- SECTOR_OPEN (R74). -/
def sectorOpen (operands : List Byte) (s : State) : Answer := sectorCommand operands openSector s

/-- The first two checks of VANE and RESUME (R131, R136). -/
def craneCommand (operands : List Byte) (f : Crane → State → Answer) (s : State) : Answer :=
  withOperands [1] operands (fun fields s =>
    let c := fields.headD 255
    if c > 7 ∨ ¬ (s.crane (Fin.ofNat 8 c)).present then refuse s .badIndex
    else if s.mode = .config then refuse s .notArmed
    else f (Fin.ofNat 8 c) s) s

/-- VANE (R131). -/
def vaneCrane (operands : List Byte) (s : State) : Answer :=
  craneCommand operands (fun c s =>
    if (s.windOf c).state ≠ .stop then refuse s .wrongState
    else if ¬ s.parked c then refuse s .notParked
    else accept (enterVanePending c .vaneCommand s)) s

/-- R136: the wind stands in the way of a RESUME. -/
def State.windTooHigh (s : State) (c : Crane) : Bool :=
  (s.windOf c).source == .none || decide ((s.profileOf c).stopOff < s.gustNumber c)
    || decide ((s.profileOf c).stopOff < s.meanNumber c)

/-- RESUME (R136). -/
def resumeOp (operands : List Byte) (s : State) : Answer :=
  craneCommand operands (fun c s =>
    if (s.windOf c).state ≠ .vanePending ∧ (s.windOf c).state ≠ .vane then refuse s .wrongState
    else if s.windTooHigh c then refuse s .windHigh
    else accept (resumeCrane c s)) s

/-! ### Operation codes (R159) -/

/-- What an operation code asks for; none for an unknown code. -/
def operationOf (code : Byte) : Option (List Byte → State → Answer) :=
  match code.toNat with
  | 0x01 => some writeSite
  | 0x02 => some writeCrane
  | 0x03 => some writeSegments
  | 0x04 => some writeSector
  | 0x05 => some writeProfile
  | 0x06 => some writePattern
  | 0x10 => some arm
  | 0x11 => some disarm
  | 0x12 => some timeSet
  | 0x13 => some setMask
  | 0x20 => some bookAdd
  | 0x21 => some bookCancel
  | 0x22 => some bookPurge
  | 0x30 => some sectorClose
  | 0x31 => some sectorOpen
  | 0x32 => some vaneCrane
  | 0x33 => some resumeOp
  | 0x40 => some readCrane
  | 0x41 => some readSector
  | 0x42 => some readBookingOp
  | 0x43 => some readWind
  | 0x44 => some readStatus
  | _ => none

/-- R161: one REQUEST frame; an unknown operation code is answered BAD_VALUE. -/
def takeRequest (tag code : Byte) (operands : List Byte) (s : State) : State :=
  answerRequest tag code ((operationOf code).getD (fun _ s => refuse s .badValue) operands) s

/-! ### Site link transmitter (R156, R162, R167) -/

/-- R156: the transmitter is idle while a reply or an event record waits. -/
def State.mustSend (s : State) : Bool := s.transmitter.isNone && !(s.replies.isEmpty && s.events.isEmpty)

/-- R156: an idle transmitter begins the oldest reply, otherwise the oldest event record, whose frame takes the
overflow flag and clears it. -/
def beginSending (s : State) : State :=
  match s.transmitter with
  | some _ => s
  | none =>
    match s.replies, s.events with
    | r :: _, _ => { s with transmitter := some (.reply r) }
    | [], e :: _ => { s with transmitter := some (.event e s.overflow), overflow := false }
    | [], [] => s

/-- R162: the completion of a REPLY frame. -/
def completeReply (s : State) : State :=
  match s.transmitter with
  | some (.reply _) => { s with replies := s.replies.tail, transmitter := none }
  | _ => s

/-- R167: the completion of an EVENT frame. -/
def completeEvent (s : State) : State :=
  match s.transmitter with
  | some (.event _ _) => { s with events := s.events.tail, transmitter := none }
  | _ => s

end Sys2Proof.Machine
end

