-- ==== Sys2Proof/Machine/Links.lean ====
section
/-! DEFINITION. The link ports (chapter 10): handing good frames to their consumers, counting discards, and the
rescan after a length or CRC error. -/

namespace Sys2Proof.Machine

/-- R5, R153: a good frame on crane `c`'s link: taken by its consumer when the crane is present, and otherwise
counted as misdirected. -/
def handOn (c : Crane) (consumer : State → State) (s : State) : State :=
  if (s.crane c).present then consumer s else s.countMisdirected (linkOf c)

/-- R153: a good frame handed to its consumer. -/
def takeFrame (f : GoodFrame) (s : State) : State :=
  match f with
  | .motion c m => handOn c (takeMotion c m) s
  | .wind c w => handOn c (takeWind c w) s
  | .demand c d => handOn c (takeDemand c d) s
  | .request tag op operands => takeRequest tag op operands s

/-- R152, R154: one thing a receiver makes of its octets. -/
def hear (l : Link) (s : State) (h : Heard) : State :=
  match h with
  | .lengthError => s.countLength l
  | .crcError => s.countCrc l
  | .misdirected => s.countMisdirected l
  | .good f => s.send [.frame f]

/-- R152: the receiver after an error, from the octets it stored after the discarded frame's SYNC. Every discard of the
rescan is counted at once, and the good frames wait in flight in the order in which it finds them: so a frame is taken
with the discards that come after it counted already (log 1, DESIGN CHOICE). -/
def rescanOctets (l : Link) (stored : List Byte) (s : State) : State :=
  let r := rescan l stored
  (r.1.foldl (hear l) s).setReceiver l r.2

/-- R150, R152: what link `l`'s receiver makes of levels on its line: the octets they carry follow those it has stored
of a frame begun. No gap between octets ends a frame. -/
def hearLevels (l : Link) (levels : List Bool) (s : State) : State :=
  rescanOctets l ((s.receiver l).store ++ octetsHeard levels) s

/-- MISDIRECTED_FRAME (R152, R154). -/
def discardMisdirected (l : Link) (s : State) : State := (s.countMisdirected l).setReceiver l .hunting

/-- LENGTH_ERROR (R152, R154): KIND and LEN are what is stored after SYNC. -/
def discardLength (l : Link) (kind len : Byte) (s : State) : State := rescanOctets l [kind, len] (s.countLength l)

/-- CRC_ERROR (R152, R154). -/
def discardCrc (l : Link) (stored : List Byte) (s : State) : State := rescanOctets l stored (s.countCrc l)

/-- PERMIT_SEND_COMPLETION (R148, R155). -/
def completePermit (c : Crane) (s : State) : State :=
  if (s.slot c).transmit = none then s else s.setSlot c (completeSending (s.slot c))

end Sys2Proof.Machine
end

