-- ==== Sys2Proof/Machine/Timebase.lean ====
section
/-! DEFINITION. The timebase, the SITE HOLD filter and the resets (chapter 12), and the second and minute of
chapter 11. -/

namespace Sys2Proof.Machine

/-! ### Timers at a tick and at a second (R170) -/

/-- A sector entry's clearing timer one tick further. -/
def runClearing (e : SectorEntry) : SectorEntry :=
  { e with base := match e.base with
                   | .clearing f g n => .clearing f g (n - 1)
                   | b => b }

/-- A sector entry's hold timer and keep timers one second further. -/
def runSectorSecond (e : SectorEntry) : SectorEntry :=
  { mapGrant (fun g => { g with hold := runDown g.hold }) e with
    queue := e.queue.map (fun q => { q with keep := q.keep - 1 }) }

/-- Every timer counted in ticks, one tick further. -/
def runTickTimers (s : State) : State :=
  { s with
    positions := s.positions.update (fun p => { p with stale := runDown p.stale })
    winds := s.winds.update (fun w => { w with ownStale := runDown w.ownStale })
    permits := s.permits.update (fun r =>
      { r with timeout := runDown r.timeout, refresh := runDown r.refresh })
    entries := s.entries.update runClearing
    generators := s.generators.update Generator.tick }

/-- The timers of crane `c`'s wind state one second further: the recovery timer where it runs, and the two vane timers
unless the crane is absent (R127, R137). -/
def State.runWindSecond (s : State) (c : Crane) (w : WindRecord) : WindRecord :=
  { w with
    recovery := if s.recoveryRuns c then runDown w.recovery else w.recovery
    vaneDelay := if (s.crane c).present then runDown w.vaneDelay else w.vaneDelay
    vaneTimeout := if (s.crane c).present then runDown w.vaneTimeout else w.vaneTimeout }

/-- Every timer counted in seconds, one second further. -/
def runSecondTimers (s : State) : State :=
  { s with entries := s.entries.update runSectorSecond, winds := s.winds.updateAt s.runWindSecond }

/-- Whether a timer that runs stands at zero. -/
def State.due (s : State) (e : Expiry) : Bool :=
  match e with
  | .positionStale c => runOut (s.position c).stale
  | .windStale c => runOut (s.windOf c).ownStale
  | .demandTimeout c => runOut (s.permit c).timeout
  | .refresh c => runOut (s.permit c).refresh
  | .keep k c => (s.entry k).queue.any (fun q => q.crane == c && q.keep == 0)
  | .clearing k =>
    (match (s.entry k).base with
     | .clearing _ _ n => n == 0
     | _ => false)
  | .hold k =>
    (match grantOf (s.entry k) with
     | some g => runOut g.hold
     | none => false)
  | .recovery c => s.recoveryRuns c && runOut (s.windOf c).recovery
  | .vaneDelay c => (s.crane c).present && runOut (s.windOf c).vaneDelay
  | .vaneTimeout c => (s.crane c).present && runOut (s.windOf c).vaneTimeout
  | .phaseEnd n => runOut (s.generator n).left

/-- The timers counted in ticks, in the order in which the model takes their expiries (log 3). -/
def tickTimers : List Expiry :=
  allLines.map .phaseEnd ++ allCranes.map .positionStale ++ allCranes.map .windStale
    ++ allCranes.map .demandTimeout ++ allCranes.map .refresh ++ allSectors.map .clearing

/-- The timers counted in seconds, in the order in which the model takes their expiries (log 3). -/
def secondTimers : List Expiry :=
  allSectors.flatMap (fun k => allCranes.map (.keep k)) ++ allSectors.map .hold
    ++ allCranes.map .recovery ++ allCranes.map .vaneDelay ++ allCranes.map .vaneTimeout

/-- The expiries among the given timers. -/
def State.expiries (s : State) (timers : List Expiry) : List Notice := (timers.filter s.due).map .expiry

/-- The effect of one timer's expiry. -/
def expire (e : Expiry) (s : State) : State :=
  match e with
  | .positionStale c => expirePosition c s
  | .windStale c => expireWindStale c s
  | .demandTimeout c => expireDemand c s
  | .refresh c => expireRefresh c s
  | .keep k c => expireKeep k c s
  | .clearing k => expireClearing k s
  | .hold k => expireHold k s
  | .recovery c => expireRecovery c s
  | .vaneDelay c => expireVaneDelay c s
  | .vaneTimeout c => expireVaneTimeout c s
  | .phaseEnd n => s.endPhase n

/-! ### Seconds and minutes (R165) -/

/-- SITE_CLOCK_ADVANCE (R165): the clock advances by one second, and a new site minute is a boundary. -/
def advanceClock (s : State) : State :=
  let t : State := { s with clock := s.clock + 1 }
  if t.siteMinute = s.siteMinute then t else t.send [.minuteBoundary]

/-- MINUTE_BOUNDARY (R95). -/
def takeMinute (s : State) : State := evaluateWindows .window s

/-! ### SITE HOLD (R172, R145) -/

/-- SITE_HOLD_ASSERTED: the filtered state becomes asserted. -/
def assertHold (s : State) : State :=
  if s.hold then s
  else issueAll (({ s with hold := true } : State).post (eventOf .siteHold none none 1))

/-- SITE_HOLD_RELEASED: the filtered state becomes released. -/
def releaseHold (s : State) : State :=
  if s.hold then ({ s with hold := false } : State).post (eventOf .siteHold none none 0) else s

/-- R172: one sample of HOLD_N: two equal samples in a row that differ from the filtered state change it. -/
def sampleHold (low : Bool) (s : State) : State :=
  let t : State := { s with holdLow := low }
  if low && s.holdLow && !s.hold then t.send [.holdAsserted]
  else if !low && !s.holdLow && s.hold then t.send [.holdReleased]
  else t

/-! ### The tick (R170) -/

/-- The 100th tick: a second of the device. -/
def takeSecond (s : State) : State :=
  let t := runSecondTimers s
  t.send (.clockAdvance :: t.expiries secondTimers)

/-- TICK: the end of one tick and the beginning of the next. All that it brings is in flight before `tickDone`. -/
def takeTick (holdLow : Bool) (s : State) : State :=
  let t := runTickTimers { s with cycles := 0, divisor := s.site.tickDivisor }
  let t1 := t.send (t.expiries tickTimers)
  let t2 := if s.ticks + 1 ≥ 100 then takeSecond { t1 with ticks := 0 } else { t1 with ticks := s.ticks + 1 }
  (sampleHold holdLow t2).send [.tickDone]

/-! ### Resets (R169, R173) -/

/-- A device reset begun: everything is abandoned; the commands that wait still wait. -/
def beginReset (cause : ResetCause) (s : State) : State :=
  { State.cleared with
    inReset := some (match s.inReset with | some .powerOn => .powerOn | _ => cause)
    pending := s.pending, shortPulses := s.shortPulses }

/-- DEVICE_RESET (R173): a pulse shorter than 1 us may begin a reset or be ignored (log 10). -/
def takeReset (t : ResetTrigger) (s : State) : State :=
  match t with
  | .powerOn => beginReset .powerOn s
  | .pinLow ns =>
    if 1000 ≤ ns then beginReset .pin s
    else
      let u : State := { s with shortPulses := s.shortPulses + 1 }
      if Config.shortPulseResets s.shortPulses then beginReset .pin u else u

/-- RESET_END (R169): every state at its value after device reset, and STARTED posted. -/
def endReset (s : State) : State :=
  match s.inReset with
  | none => s
  | some cause =>
    { State.cleared with
      events := [startedRecord cause], pending := s.pending, shortPulses := s.shortPulses }

end Sys2Proof.Machine
end

