-- ==== Sys2Proof/Machine/Settle.lean ====
section
/-! DEFINITION. The work that waits: the notices in flight, what taking each one does and in what order they are taken,
and the frame an idle site transmitter begins. An event from outside (a frame heard, a timer's expiry, the second, a
change of SITE HOLD) waits until everything the event before it has caused has been taken (R19, R120, R124; log 1). An
idle transmitter begins what waits for it as soon as the event that made it wait is over (R156; log 4). -/

namespace Sys2Proof.Machine

/-- What a block does with one notice it takes. An expiry takes effect only if its timer still stands at zero:
an event taken before it may have restarted or cancelled the timer (Timers, 00). -/
def takeNotice (n : Notice) (s : State) : State :=
  match n with
  | .frame f => takeFrame f s
  | .presence k c ch => reportPresence k c ch s
  | .knock k c => knockSector k c s
  | .claimant k left cl => changeClaimant k left cl s
  | .lock k c => lockSector k c s
  | .unlock k c => unlockSector k c s
  | .liftCount id => takeLiftCount id s
  | .loadSample c x => takeSample c x s
  | .motionTaken c => takeMotionNotice c s
  | .limit c => takeLimitNotice c s
  | .evaluation c => takeEvaluation c s
  | .craneCondition c => takeCraneCondition c s
  | .handshake k => takeHandshake k s
  | .beacon c cond => s.showCondition c cond
  | .expiry e => if s.due e then expire e s else s
  | .clockAdvance => advanceClock s
  | .minuteBoundary => takeMinute s
  | .holdAsserted => assertHold s
  | .holdReleased => releaseHold s
  | .tickDone => s

/-- Whether a notice is an event of its own rather than what another event has caused. -/
def opensEvent (n : Notice) : Bool :=
  match n with
  | .frame _ | .expiry _ | .clockAdvance | .holdAsserted | .holdReleased | .tickDone => true
  | .presence .. | .knock .. | .claimant .. | .lock .. | .unlock .. | .liftCount _ | .loadSample .. | .motionTaken _
  | .limit _ | .evaluation _ | .craneCondition _ | .handshake _ | .beacon .. | .minuteBoundary => false

/-- The notice to be taken next: the oldest that an event has caused, so that the work of one event is complete
before the next is taken (R19), and otherwise the oldest event. -/
def nextNotice (ns : List Notice) : Option Notice :=
  match ns.find? (fun n => !opensEvent n) with
  | some n => some n
  | none => ns.head?

/-- The next piece of waiting work done: the frame an idle transmitter begins, and otherwise the next notice taken. -/
def takeNext (s : State) : State :=
  if s.mustSend then beginSending s
  else
    match nextNotice s.inFlight with
    | none => s
    | some n => takeNotice n { s with inFlight := s.inFlight.erase n }

/-- No work waits: nothing is in flight, and the site transmitter has nothing to begin. -/
def State.atRest (s : State) : Bool := s.inFlight.isEmpty && !s.mustSend

/-- So many pieces of waiting work done, or all there are. -/
def settleFor : Nat → State → State
  | 0, s => s
  | n + 1, s => if s.atRest then s else settleFor n (takeNext s)

/-- The work that waits done, before a command is taken. -/
def settle (s : State) : State := settleFor Config.noticeBound s

/-- A command's effect: in reset nothing but the reset's own commands reaches a block (R173); otherwise the work that
waits is done first (logs 1 and 4). -/
def whenRunning (f : State → State) (s : State) : Host.Outcome State Fault Refusal :=
  .next (if s.inReset = none then f (settle s) else s)

end Sys2Proof.Machine
end

