-- ==== Sys2Proof/Machine/LinkCommands.lean ====
section
/-! DEFINITION. What the links do: frames taken and refused, and frames sent (chapters 9 and 10). One meaning for
each command. -/

namespace Sys2Proof.Machine

/-- MOTION: a good MOTION frame on crane `c`'s link (R5, R19, R153). -/
def execMotion (c : Crane) (f : MotionFrame) (s : State) : Host.Outcome State Fault Refusal :=
  whenRunning (fun t => handOn c (takeMotion c f) (t.setReceiver (linkOf c) .hunting)) s

/-- WIND: a good WIND frame (R5, R110, R153). -/
def execWind (c : Crane) (f : WindFrame) (s : State) : Host.Outcome State Fault Refusal :=
  whenRunning (fun t => handOn c (takeWind c f) (t.setReceiver (linkOf c) .hunting)) s

/-- DEMAND: a good DEMAND frame (R5, R140, R153). -/
def execDemand (c : Crane) (f : DemandFrame) (s : State) : Host.Outcome State Fault Refusal :=
  whenRunning (fun t => handOn c (takeDemand c f) (t.setReceiver (linkOf c) .hunting)) s

/-- MISDIRECTED_FRAME: a good frame of a kind the link does not accept (R152, R154). -/
def execMisdirectedFrame (l : Link) (s : State) : Host.Outcome State Fault Refusal :=
  whenRunning (fun t => discardMisdirected l t) s

/-- LENGTH_ERROR: a frame discarded at its LEN (R152, R154). -/
def execLengthError (l : Link) (kind : Byte) (len : Byte) (s : State) : Host.Outcome State Fault Refusal :=
  whenRunning (fun t => discardLength l kind len t) s

/-- CRC_ERROR: a frame discarded at its CRC, with the octets stored after its SYNC (R152, R154). -/
def execCrcError (l : Link) (octets : List Byte) (s : State) : Host.Outcome State Fault Refusal :=
  whenRunning (fun t => discardCrc l octets t) s

/-- PERMIT_SEND_COMPLETION: crane `c`'s link has sent its frame (R148, R155). -/
def execPermitSendCompletion (c : Crane) (s : State) : Host.Outcome State Fault Refusal :=
  whenRunning (fun t => completePermit c t) s

/-- SITE_TRANSMIT_BEGIN: the idle site transmitter begins a frame (R156, R167). -/
def execSiteTransmitBegin (s : State) : Host.Outcome State Fault Refusal :=
  whenRunning (fun t => beginSending t) s

/-- REPLY_FRAME_COMPLETION: the site link has sent a REPLY (R156, R162). -/
def execReplyFrameCompletion (s : State) : Host.Outcome State Fault Refusal :=
  whenRunning (fun t => completeReply t) s

/-- EVENT_FRAME_COMPLETION: the site link has sent an EVENT (R156, R167). -/
def execEventFrameCompletion (s : State) : Host.Outcome State Fault Refusal :=
  whenRunning (fun t => completeEvent t) s

end Sys2Proof.Machine
end

