-- ==== Sys2Proof/Machine/RequestCommands.lean ====
section
/-! DEFINITION. The requests of the site controller (chapter 11). One meaning for each command. -/

namespace Sys2Proof.Machine

/-- A REQUEST frame's arrival: the receiver hunts again, and the operation is made and answered (R152, R161). -/
def request (tag code : Byte) (op : State → Answer) (s : State) : State :=
  answerRequest tag code op (s.setReceiver siteLink .hunting)

/-- WRITE_SITE: operation 01h (R16). -/
def execWriteSite (tag : Byte) (operands : List Byte) (s : State) : Host.Outcome State Fault Refusal :=
  whenRunning (fun t => request tag 0x01#8 (writeSite operands) t) s

/-- WRITE_CRANE: operation 02h (R4, R5). -/
def execWriteCrane (tag : Byte) (operands : List Byte) (s : State) : Host.Outcome State Fault Refusal :=
  whenRunning (fun t => request tag 0x02#8 (writeCrane operands) t) s

/-- WRITE_SEGMENTS: operation 03h (R7, R158). -/
def execWriteSegments (tag : Byte) (operands : List Byte) (s : State) : Host.Outcome State Fault Refusal :=
  whenRunning (fun t => request tag 0x03#8 (writeSegments operands) t) s

/-- WRITE_SECTOR: operation 04h (R10). -/
def execWriteSector (tag : Byte) (operands : List Byte) (s : State) : Host.Outcome State Fault Refusal :=
  whenRunning (fun t => request tag 0x04#8 (writeSector operands) t) s

/-- WRITE_PROFILE: operation 05h (R13). -/
def execWriteProfile (tag : Byte) (operands : List Byte) (s : State) : Host.Outcome State Fault Refusal :=
  whenRunning (fun t => request tag 0x05#8 (writeProfile operands) t) s

/-- WRITE_PATTERN: operation 06h (R15). -/
def execWritePattern (tag : Byte) (operands : List Byte) (s : State) : Host.Outcome State Fault Refusal :=
  whenRunning (fun t => request tag 0x06#8 (writePattern operands) t) s

/-- ARM: operation 10h (R163). -/
def execArm (tag : Byte) (operands : List Byte) (s : State) : Host.Outcome State Fault Refusal :=
  whenRunning (fun t => request tag 0x10#8 (Machine.arm operands) t) s

/-- DISARM: operation 11h (R164). -/
def execDisarm (tag : Byte) (operands : List Byte) (s : State) : Host.Outcome State Fault Refusal :=
  whenRunning (fun t => request tag 0x11#8 (Machine.disarm operands) t) s

/-- TIME_SET: operation 12h (R165). -/
def execTimeSet (tag : Byte) (operands : List Byte) (s : State) : Host.Outcome State Fault Refusal :=
  whenRunning (fun t => request tag 0x12#8 (timeSet operands) t) s

/-- SET_MASK: operation 13h (R168). -/
def execSetMask (tag : Byte) (operands : List Byte) (s : State) : Host.Outcome State Fault Refusal :=
  whenRunning (fun t => request tag 0x13#8 (setMask operands) t) s

/-- BOOK_ADD: operation 20h (R93, R94). -/
def execBookAdd (tag : Byte) (operands : List Byte) (s : State) : Host.Outcome State Fault Refusal :=
  whenRunning (fun t => request tag 0x20#8 (bookAdd operands) t) s

/-- BOOK_CANCEL: operation 21h (R103). -/
def execBookCancel (tag : Byte) (operands : List Byte) (s : State) : Host.Outcome State Fault Refusal :=
  whenRunning (fun t => request tag 0x21#8 (bookCancel operands) t) s

/-- BOOK_PURGE: operation 22h (R104). -/
def execBookPurge (tag : Byte) (operands : List Byte) (s : State) : Host.Outcome State Fault Refusal :=
  whenRunning (fun t => request tag 0x22#8 (bookPurge operands) t) s

/-- SECTOR_CLOSE: operation 30h (R73, R74). -/
def execSectorClose (tag : Byte) (operands : List Byte) (s : State) : Host.Outcome State Fault Refusal :=
  whenRunning (fun t => request tag 0x30#8 (sectorClose operands) t) s

/-- SECTOR_OPEN: operation 31h (R74). -/
def execSectorOpen (tag : Byte) (operands : List Byte) (s : State) : Host.Outcome State Fault Refusal :=
  whenRunning (fun t => request tag 0x31#8 (sectorOpen operands) t) s

/-- VANE: operation 32h (R131, R132). -/
def execVane (tag : Byte) (operands : List Byte) (s : State) : Host.Outcome State Fault Refusal :=
  whenRunning (fun t => request tag 0x32#8 (vaneCrane operands) t) s

/-- RESUME: operation 33h (R136). -/
def execResume (tag : Byte) (operands : List Byte) (s : State) : Host.Outcome State Fault Refusal :=
  whenRunning (fun t => request tag 0x33#8 (resumeOp operands) t) s

/-- READ_CRANE: operation 40h (R166). -/
def execReadCrane (tag : Byte) (operands : List Byte) (s : State) : Host.Outcome State Fault Refusal :=
  whenRunning (fun t => request tag 0x40#8 (readCrane operands) t) s

/-- READ_SECTOR: operation 41h (R166). -/
def execReadSector (tag : Byte) (operands : List Byte) (s : State) : Host.Outcome State Fault Refusal :=
  whenRunning (fun t => request tag 0x41#8 (readSector operands) t) s

/-- READ_STATUS: operation 44h (R166). -/
def execReadStatus (tag : Byte) (operands : List Byte) (s : State) : Host.Outcome State Fault Refusal :=
  whenRunning (fun t => request tag 0x44#8 (readStatus operands) t) s

/-- READ_BOOKING: operation 42h (R108). -/
def execReadBooking (tag : Byte) (operands : List Byte) (s : State) : Host.Outcome State Fault Refusal :=
  whenRunning (fun t => request tag 0x42#8 (readBookingOp operands) t) s

/-- READ_WIND: operation 43h (R122). -/
def execReadWind (tag : Byte) (operands : List Byte) (s : State) : Host.Outcome State Fault Refusal :=
  whenRunning (fun t => request tag 0x43#8 (readWind operands) t) s

/-- UNKNOWN_OPERATION_CODE: a code outside the operations table is answered BAD_VALUE (R158, R161). -/
def execUnknownOperationCode (tag : Byte) (operation : Byte) (_operands : List Byte) (s : State) : Host.Outcome State Fault Refusal :=
  whenRunning (fun t => request tag operation (fun u => refuse u .badValue) t) s

end Sys2Proof.Machine
end

