-- ==== Sys2Proof/Machine/BlockCommands.lean ====
section
/-! DEFINITION. What one block tells another (chapters 4 to 9, 11 and 12). One meaning for each command. -/

namespace Sys2Proof.Machine

/-- EVENT_POSTING: a block posts an event (R167, R168). -/
def execEventPosting (body : EventBody) (s : State) : Host.Outcome State Fault Refusal :=
  whenRunning (fun t => t.post body) s

/-- PRESENCE_REPORT: a presence or obstruction report (R56). -/
def execPresenceReport (k : Sector) (c : Crane) (ch : PresenceChange) (s : State) : Host.Outcome State Fault Refusal :=
  whenRunning (fun t => reportPresence k c ch t) s

/-- KNOCK: the limit engine's knock (R57, R65). -/
def execKnock (k : Sector) (c : Crane) (s : State) : Host.Outcome State Fault Refusal :=
  whenRunning (fun t => knockSector k c t) s

/-- BOOKED_CLAIMANT_CHANGE: the booking table's report (R69, R71). -/
def execBookedClaimantChange (k : Sector) (left : List (Half × BookingState)) (cl : Option Claimant) (s : State) : Host.Outcome State Fault Refusal :=
  whenRunning (fun t => changeClaimant k left cl t) s

/-- LOCK_REQUEST: a lock request of a vaning crane (R72). -/
def execLockRequest (k : Sector) (c : Crane) (s : State) : Host.Outcome State Fault Refusal :=
  whenRunning (fun t => lockSector k c t) s

/-- UNLOCK: an unlock of a resumed crane (R72, R74). -/
def execUnlock (k : Sector) (c : Crane) (s : State) : Host.Outcome State Fault Refusal :=
  whenRunning (fun t => unlockSector k c t) s

/-- LIFT_ATTRIBUTION: a completed lift is attributed (R75). -/
def execLiftAttribution (c : Crane) (s : State) : Host.Outcome State Fault Refusal :=
  whenRunning (fun t => attributeLift c t) s

/-- BOOKED_LIFT_COUNT: a lift passed to its booking (R101, R102). -/
def execBookedLiftCount (id : Half) (s : State) : Host.Outcome State Fault Refusal :=
  whenRunning (fun t => takeLiftCount id t) s

/-- LOAD_SAMPLE: one load sample (R80). -/
def execLoadSample (c : Crane) (x : Nat) (s : State) : Host.Outcome State Fault Refusal :=
  whenRunning (fun t => takeSample c x t) s

/-- MOTION_FRAME_NOTICE: a MOTION frame has been taken (R130). -/
def execMotionFrameNotice (c : Crane) (s : State) : Host.Outcome State Fault Refusal :=
  whenRunning (fun t => takeMotionNotice c t) s

/-- LIMIT_NOTICE: a limit may have fallen (R144). -/
def execLimitNotice (c : Crane) (s : State) : Host.Outcome State Fault Refusal :=
  whenRunning (fun t => takeLimitNotice c t) s

/-- EVALUATION: one evaluation of the wind state machine (R124). -/
def execEvaluation (c : Crane) (s : State) : Host.Outcome State Fault Refusal :=
  whenRunning (fun t => takeEvaluation c t) s

/-- CRANE_CONDITION_CHANGE: the crane's position or wind state has changed (R97). -/
def execCraneConditionChange (c : Crane) (s : State) : Host.Outcome State Fault Refusal :=
  whenRunning (fun t => takeCraneCondition c t) s

/-- HANDSHAKE_REPORT: a sector's lock set or presence has changed (R133). -/
def execHandshakeReport (k : Sector) (s : State) : Host.Outcome State Fault Refusal :=
  whenRunning (fun t => takeHandshake k t) s

/-- BEACON_CONDITION_CHANGE: a crane's beacon condition has changed (R171). -/
def execBeaconConditionChange (c : Crane) (cond : BeaconCondition) (s : State) : Host.Outcome State Fault Refusal :=
  whenRunning (fun t => t.showCondition c cond) s

end Sys2Proof.Machine
end

