-- ==== Sys2Proof/Machine/TimerCommands.lean ====
section
/-! DEFINITION. The timer expiries that a command names: each takes effect while its timer runs (log 2). One meaning
for each command. -/

namespace Sys2Proof.Machine

/-- POSITION_STALE_EXPIRY: R24. -/
def execPositionStaleExpiry (c : Crane) (s : State) : Host.Outcome State Fault Refusal :=
  whenRunning (fun t => expirePosition c t) s

/-- WIND_STALE_EXPIRY: R117, R118. -/
def execWindStaleExpiry (c : Crane) (s : State) : Host.Outcome State Fault Refusal :=
  whenRunning (fun t => expireWindStale c t) s

/-- DEMAND_TIMEOUT_EXPIRY: R141. -/
def execDemandTimeoutExpiry (c : Crane) (s : State) : Host.Outcome State Fault Refusal :=
  whenRunning (fun t => expireDemand c t) s

/-- REFRESH_EXPIRY: R142. -/
def execRefreshExpiry (c : Crane) (s : State) : Host.Outcome State Fault Refusal :=
  whenRunning (fun t => expireRefresh c t) s

/-- KEEP_TIMER_EXPIRY: R58. -/
def execKeepTimerExpiry (k : Sector) (c : Crane) (s : State) : Host.Outcome State Fault Refusal :=
  whenRunning (fun t => expireKeep k c t) s

/-- CLEARING_EXPIRY: R64. -/
def execClearingExpiry (k : Sector) (s : State) : Host.Outcome State Fault Refusal :=
  whenRunning (fun t => expireClearing k t) s

/-- HOLD_TIMER_EXPIRY: R66. -/
def execHoldTimerExpiry (k : Sector) (s : State) : Host.Outcome State Fault Refusal :=
  whenRunning (fun t => expireHold k t) s

/-- RECOVERY_EXPIRY: R127. -/
def execRecoveryExpiry (c : Crane) (s : State) : Host.Outcome State Fault Refusal :=
  whenRunning (fun t => expireRecovery c t) s

/-- VANE_DELAY_EXPIRY: R130. -/
def execVaneDelayExpiry (c : Crane) (s : State) : Host.Outcome State Fault Refusal :=
  whenRunning (fun t => expireVaneDelay c t) s

/-- VANE_TIMEOUT_EXPIRY: R134. -/
def execVaneTimeoutExpiry (c : Crane) (s : State) : Host.Outcome State Fault Refusal :=
  whenRunning (fun t => expireVaneTimeout c t) s

/-- BEACON_PHASE_END: R171. -/
def execBeaconPhaseEnd (n : BeaconLine) (s : State) : Host.Outcome State Fault Refusal :=
  whenRunning (fun t => t.endPhase n) s

end Sys2Proof.Machine
end

