-- ==== Sys2Proof/Machine/PinCommands.lean ====
section
/-! DEFINITION. The timebase and the pins (chapter 12). One meaning for each command. -/

namespace Sys2Proof.Machine

/-- TICK: the end of a tick, with the level of HOLD_N (R170, R172). -/
def execTick (holdLow : Bool) (s : State) : Host.Outcome State Fault Refusal :=
  whenRunning (fun t => takeTick holdLow t) s

/-- SITE_CLOCK_ADVANCE: one second of the device (R165). -/
def execSiteClockAdvance (s : State) : Host.Outcome State Fault Refusal :=
  whenRunning (fun t => advanceClock t) s

/-- MINUTE_BOUNDARY: the site minute has changed (R95). -/
def execMinuteBoundary (s : State) : Host.Outcome State Fault Refusal :=
  whenRunning (fun t => takeMinute t) s

/-- SITE_HOLD_ASSERTED: R172, R145. -/
def execSiteHoldAsserted (s : State) : Host.Outcome State Fault Refusal :=
  whenRunning (fun t => assertHold t) s

/-- SITE_HOLD_RELEASED: R172. -/
def execSiteHoldReleased (s : State) : Host.Outcome State Fault Refusal :=
  whenRunning (fun t => releaseHold t) s

/-- DEVICE_RESET: a reset begins (R173). -/
def execDeviceReset (trigger : ResetTrigger) (s : State) : Host.Outcome State Fault Refusal :=
  .next (takeReset trigger s)

/-- RESET_END: the reset ends (R169). -/
def execResetEnd (s : State) : Host.Outcome State Fault Refusal :=
  .next (endReset s)

end Sys2Proof.Machine
end

