-- ==== Sys2Proof/Machine/Dispatch.lean ====
section
/-! DEFINITION. The dispatch: each command to its meaning. -/

namespace Sys2Proof.Machine

def exec (i : Instr) (s : State) : Host.Outcome State Fault Refusal :=
  match i with
  | .motion c f => Sys2Proof.Machine.execMotion c f s
  | .wind c f => Sys2Proof.Machine.execWind c f s
  | .demand c f => Sys2Proof.Machine.execDemand c f s
  | .misdirectedFrame l => Sys2Proof.Machine.execMisdirectedFrame l s
  | .lengthError l kind len => Sys2Proof.Machine.execLengthError l kind len s
  | .crcError l octets => Sys2Proof.Machine.execCrcError l octets s
  | .writeSite tag operands => Sys2Proof.Machine.execWriteSite tag operands s
  | .writeCrane tag operands => Sys2Proof.Machine.execWriteCrane tag operands s
  | .writeSegments tag operands => Sys2Proof.Machine.execWriteSegments tag operands s
  | .writeSector tag operands => Sys2Proof.Machine.execWriteSector tag operands s
  | .writeProfile tag operands => Sys2Proof.Machine.execWriteProfile tag operands s
  | .writePattern tag operands => Sys2Proof.Machine.execWritePattern tag operands s
  | .arm tag operands => Sys2Proof.Machine.execArm tag operands s
  | .disarm tag operands => Sys2Proof.Machine.execDisarm tag operands s
  | .timeSet tag operands => Sys2Proof.Machine.execTimeSet tag operands s
  | .setMask tag operands => Sys2Proof.Machine.execSetMask tag operands s
  | .bookAdd tag operands => Sys2Proof.Machine.execBookAdd tag operands s
  | .bookCancel tag operands => Sys2Proof.Machine.execBookCancel tag operands s
  | .bookPurge tag operands => Sys2Proof.Machine.execBookPurge tag operands s
  | .sectorClose tag operands => Sys2Proof.Machine.execSectorClose tag operands s
  | .sectorOpen tag operands => Sys2Proof.Machine.execSectorOpen tag operands s
  | .vane tag operands => Sys2Proof.Machine.execVane tag operands s
  | .resume tag operands => Sys2Proof.Machine.execResume tag operands s
  | .readCrane tag operands => Sys2Proof.Machine.execReadCrane tag operands s
  | .readSector tag operands => Sys2Proof.Machine.execReadSector tag operands s
  | .readStatus tag operands => Sys2Proof.Machine.execReadStatus tag operands s
  | .readBooking tag operands => Sys2Proof.Machine.execReadBooking tag operands s
  | .readWind tag operands => Sys2Proof.Machine.execReadWind tag operands s
  | .permitSendCompletion c => Sys2Proof.Machine.execPermitSendCompletion c s
  | .siteTransmitBegin => Sys2Proof.Machine.execSiteTransmitBegin s
  | .replyFrameCompletion => Sys2Proof.Machine.execReplyFrameCompletion s
  | .eventFrameCompletion => Sys2Proof.Machine.execEventFrameCompletion s
  | .eventPosting body => Sys2Proof.Machine.execEventPosting body s
  | .presenceReport k c ch => Sys2Proof.Machine.execPresenceReport k c ch s
  | .knock k c => Sys2Proof.Machine.execKnock k c s
  | .bookedClaimantChange k left cl => Sys2Proof.Machine.execBookedClaimantChange k left cl s
  | .lockRequest k c => Sys2Proof.Machine.execLockRequest k c s
  | .unlock k c => Sys2Proof.Machine.execUnlock k c s
  | .liftAttribution c => Sys2Proof.Machine.execLiftAttribution c s
  | .bookedLiftCount id => Sys2Proof.Machine.execBookedLiftCount id s
  | .loadSample c x => Sys2Proof.Machine.execLoadSample c x s
  | .motionFrameNotice c => Sys2Proof.Machine.execMotionFrameNotice c s
  | .limitNotice c => Sys2Proof.Machine.execLimitNotice c s
  | .evaluation c => Sys2Proof.Machine.execEvaluation c s
  | .craneConditionChange c => Sys2Proof.Machine.execCraneConditionChange c s
  | .handshakeReport k => Sys2Proof.Machine.execHandshakeReport k s
  | .beaconConditionChange c cond => Sys2Proof.Machine.execBeaconConditionChange c cond s
  | .positionStaleExpiry c => Sys2Proof.Machine.execPositionStaleExpiry c s
  | .windStaleExpiry c => Sys2Proof.Machine.execWindStaleExpiry c s
  | .demandTimeoutExpiry c => Sys2Proof.Machine.execDemandTimeoutExpiry c s
  | .refreshExpiry c => Sys2Proof.Machine.execRefreshExpiry c s
  | .keepTimerExpiry k c => Sys2Proof.Machine.execKeepTimerExpiry k c s
  | .clearingExpiry k => Sys2Proof.Machine.execClearingExpiry k s
  | .holdTimerExpiry k => Sys2Proof.Machine.execHoldTimerExpiry k s
  | .recoveryExpiry c => Sys2Proof.Machine.execRecoveryExpiry c s
  | .vaneDelayExpiry c => Sys2Proof.Machine.execVaneDelayExpiry c s
  | .vaneTimeoutExpiry c => Sys2Proof.Machine.execVaneTimeoutExpiry c s
  | .beaconPhaseEnd n => Sys2Proof.Machine.execBeaconPhaseEnd n s
  | .tick holdLow => Sys2Proof.Machine.execTick holdLow s
  | .siteClockAdvance => Sys2Proof.Machine.execSiteClockAdvance s
  | .minuteBoundary => Sys2Proof.Machine.execMinuteBoundary s
  | .siteHoldAsserted => Sys2Proof.Machine.execSiteHoldAsserted s
  | .siteHoldReleased => Sys2Proof.Machine.execSiteHoldReleased s
  | .deviceReset trigger => Sys2Proof.Machine.execDeviceReset trigger s
  | .resetEnd => Sys2Proof.Machine.execResetEnd s
  | .unknownOperationCode tag operation operands => Sys2Proof.Machine.execUnknownOperationCode tag operation operands s

end Sys2Proof.Machine
end

