-- ==== Sys2Proof/Machine/Step.lean ====
section
/-! DEFINITION. One step of the device: the command at the front of the queue. -/

namespace Sys2Proof.Machine

/-- One step. With a command waiting, its meaning is run with the queue's rest. With none, the next piece of waiting
work is done, if there is one; otherwise the device idles (log 1, DESIGN CHOICE). -/
def step (s : State) : Host.Outcome State Fault Refusal :=
  match s.pending with
  | c :: rest => exec c { s with pending := rest }
  | [] => .next (takeNext s)

/-- The state with the command that a word spells put at the front of its queue, and unchanged where the word
spells none. -/
def State.withFetchWord (s : State) (nbits w : Nat) : State :=
  match decodeTableWord nbits w with
  | some c => { s with pending := c :: s.pending }
  | none => s

end Sys2Proof.Machine
end

