-- ==== Sys2Proof/WellFormed.lean ====
section
/-! DEFINITION. Which terms of `Instr` stand for something that can reach the device: a check for each kind of
operand the manual bounds. `exec` is total and does not ask. -/

namespace Sys2Proof

open Machine

/-- The operation codes of the operations table (R159). -/
def knownOperations : List Nat :=
  [0x01, 0x02, 0x03, 0x04, 0x05, 0x06, 0x10, 0x11, 0x12, 0x13, 0x20, 0x21, 0x22, 0x30, 0x31, 0x32, 0x33,
   0x40, 0x41, 0x42, 0x43, 0x44]

/-- A REQUEST's operands fit its payload of 2 to 48 octets (R152, R159). -/
def fitsRequest (operands : List Byte) : Bool := operands.length ≤ 46

/-- R152: the octets stored after SYNC of a frame with a good LEN and a bad check. -/
def isCrcError (l : Link) (octets : List Byte) : Bool :=
  match octets with
  | kind :: len :: rest =>
    !lengthIsError l kind len.toNat && rest.length == len.toNat + 2 && crcOf octets != 0
  | _ => false

/-- The states a booking that has left ACTIVE can be in (R71). -/
def leftStates (left : List (Half × BookingState)) : Bool :=
  left.all (fun b => b.1 != 0#16 && b.2 != .active)

/-- R170, R172, R173: a reset trigger that lasts. -/
def isTrigger : ResetTrigger → Bool
  | .powerOn => true
  | .pinLow ns => ns > 0

/-- A crane other than those the kinds of a posting allow: RANGE and the like name one, STARTED none (R159). -/
def namesCrane : EventKind → Bool
  | .started | .armed | .disarmed | .contested | .siteHold => false
  | _ => true

/-- Whether a command is well formed. -/
def Instr.wellFormed : Instr → Bool
  | .motion _ _ | .wind _ _ | .demand _ _ | .misdirectedFrame _ => true
  | .lengthError l kind len => lengthIsError l kind len.toNat
  | .crcError l octets => isCrcError l octets
  | .writeSite _ ops | .writeCrane _ ops | .writeSegments _ ops | .writeSector _ ops
  | .writeProfile _ ops | .writePattern _ ops | .arm _ ops | .disarm _ ops | .timeSet _ ops
  | .setMask _ ops | .bookAdd _ ops | .bookCancel _ ops | .bookPurge _ ops | .sectorClose _ ops
  | .sectorOpen _ ops | .vane _ ops | .resume _ ops | .readCrane _ ops | .readSector _ ops
  | .readStatus _ ops | .readBooking _ ops | .readWind _ ops => fitsRequest ops
  | .permitSendCompletion _ | .siteTransmitBegin | .replyFrameCompletion | .eventFrameCompletion => true
  | .eventPosting body => body.crane.isSome == namesCrane body.kind
  | .presenceReport _ _ _ | .knock _ _ => true
  | .bookedClaimantChange _ left cl =>
    leftStates left && (match cl with | some x => x.booking != 0#16 | none => true)
  | .lockRequest _ _ | .unlock _ _ | .liftAttribution _ => true
  | .bookedLiftCount booking => booking != 0#16
  | .loadSample _ sample => sample ≤ 8000
  | .motionFrameNotice _ | .limitNotice _ | .evaluation _ | .craneConditionChange _ | .handshakeReport _
  | .beaconConditionChange _ _ | .positionStaleExpiry _ | .windStaleExpiry _ | .demandTimeoutExpiry _
  | .refreshExpiry _ | .keepTimerExpiry _ _ | .clearingExpiry _ | .holdTimerExpiry _ | .recoveryExpiry _
  | .vaneDelayExpiry _ | .vaneTimeoutExpiry _ | .beaconPhaseEnd _ | .tick _ | .siteClockAdvance
  | .minuteBoundary | .siteHoldAsserted | .siteHoldReleased => true
  | .deviceReset trigger => isTrigger trigger
  | .resetEnd => true
  | .unknownOperationCode _ operation ops => !knownOperations.contains operation.toNat && fitsRequest ops

end Sys2Proof
end

