-- ==== Sys2Proof/Safety.lean ====
section
/-! DEFINITION. The terms in which claims are made: when a command meets a quiet device, what a reply adds, the
octets of a request's operands, and what every step keeps. -/

namespace Sys2Proof.Machine

/-! ### A command taken by a quiet device -/

/-- The device is not in reset, no notice is in flight, and the site transmitter has nothing to begin: it is sending, or
both its queues are empty. -/
def State.Ready (s : State) : Prop :=
  s.inReset = none ∧ s.inFlight = [] ∧ (s.transmitter = none → s.replies = [] ∧ s.events = [])

/-- The reply queue has room (R161). -/
def State.Room (s : State) : Prop := s.replies.length < 4

/-- The state with a reply appended, the LS receiver back in HUNT (R152, R161). -/
def State.answeredAt (s : State) (tag operation : Byte) (result : Result) (locator : Half) (data : List Byte) :
    State :=
  { s with
    replies := s.replies ++
      [{ tag := tag, operation := operation, result := result, locator := locator, data := data }],
    receivers := s.receivers.write siteLink .hunting }

/-- The same with the locator 0000h that every reply but CHECK_FAILED carries (R161). -/
def State.answered (s : State) (tag operation : Byte) (result : Result) (data : List Byte) : State :=
  s.answeredAt tag operation result 0 data

/-- The state with link `l`'s receiver back in HUNT (R152). -/
def State.hunting (s : State) (l : Link) : State := { s with receivers := s.receivers.write l .hunting }

/-! ### Requests (R158, R159) -/

/-- A request's tag, operation code and operands. -/
def asRequest : Instr → Option (Byte × Byte × List Byte)
  | .writeSite tag ops => some (tag, 0x01#8, ops)
  | .writeCrane tag ops => some (tag, 0x02#8, ops)
  | .writeSegments tag ops => some (tag, 0x03#8, ops)
  | .writeSector tag ops => some (tag, 0x04#8, ops)
  | .writeProfile tag ops => some (tag, 0x05#8, ops)
  | .writePattern tag ops => some (tag, 0x06#8, ops)
  | .arm tag ops => some (tag, 0x10#8, ops)
  | .disarm tag ops => some (tag, 0x11#8, ops)
  | .timeSet tag ops => some (tag, 0x12#8, ops)
  | .setMask tag ops => some (tag, 0x13#8, ops)
  | .bookAdd tag ops => some (tag, 0x20#8, ops)
  | .bookCancel tag ops => some (tag, 0x21#8, ops)
  | .bookPurge tag ops => some (tag, 0x22#8, ops)
  | .sectorClose tag ops => some (tag, 0x30#8, ops)
  | .sectorOpen tag ops => some (tag, 0x31#8, ops)
  | .vane tag ops => some (tag, 0x32#8, ops)
  | .resume tag ops => some (tag, 0x33#8, ops)
  | .readCrane tag ops => some (tag, 0x40#8, ops)
  | .readSector tag ops => some (tag, 0x41#8, ops)
  | .readBooking tag ops => some (tag, 0x42#8, ops)
  | .readWind tag ops => some (tag, 0x43#8, ops)
  | .readStatus tag ops => some (tag, 0x44#8, ops)
  | .unknownOperationCode tag op ops => some (tag, op, ops)
  | _ => none

/-- How many operand octets an operation calls for (R159); WRITE_SEGMENTS calls for 3 and 7 a segment. -/
def operandCount (code : Byte) : Option Nat :=
  match code.toNat with
  | 0x01 => some 12
  | 0x02 => some 30
  | 0x04 => some 13
  | 0x05 => some 34
  | 0x06 => some 4
  | 0x10 => some 0
  | 0x11 => some 0
  | 0x12 => some 4
  | 0x13 => some 4
  | 0x20 => some 16
  | 0x21 => some 2
  | 0x22 => some 0
  | 0x30 => some 1
  | 0x31 => some 1
  | 0x32 => some 1
  | 0x33 => some 1
  | 0x40 => some 2
  | 0x41 => some 1
  | 0x42 => some 2
  | 0x43 => some 3
  | 0x44 => some 1
  | _ => none

/-- The command that gives a request of a tag, an operation code and operands (R159). -/
def requestCommand (tag operation : Byte) (operands : List Byte) : Instr :=
  match operation.toNat with
  | 0x01 => .writeSite tag operands
  | 0x02 => .writeCrane tag operands
  | 0x03 => .writeSegments tag operands
  | 0x04 => .writeSector tag operands
  | 0x05 => .writeProfile tag operands
  | 0x06 => .writePattern tag operands
  | 0x10 => .arm tag operands
  | 0x11 => .disarm tag operands
  | 0x12 => .timeSet tag operands
  | 0x13 => .setMask tag operands
  | 0x20 => .bookAdd tag operands
  | 0x21 => .bookCancel tag operands
  | 0x22 => .bookPurge tag operands
  | 0x30 => .sectorClose tag operands
  | 0x31 => .sectorOpen tag operands
  | 0x32 => .vane tag operands
  | 0x33 => .resume tag operands
  | 0x40 => .readCrane tag operands
  | 0x41 => .readSector tag operands
  | 0x42 => .readBooking tag operands
  | 0x43 => .readWind tag operands
  | 0x44 => .readStatus tag operands
  | _ => .unknownOperationCode tag operation operands

/-! ### The commands that notices stand for (95_what_each_step_holds) -/

/-- The command that gives a good frame. -/
def frameCommand : GoodFrame → Instr
  | .motion c f => .motion c f
  | .wind c f => .wind c f
  | .demand c f => .demand c f
  | .request tag operation operands => requestCommand tag operation operands

/-- The link on which a good frame is heard. -/
def GoodFrame.link : GoodFrame → Link
  | .motion c _ => linkOf c
  | .wind c _ => linkOf c
  | .demand c _ => linkOf c
  | .request .. => siteLink

/-- The command that names a timer's expiry. -/
def expiryCommand : Expiry → Instr
  | .positionStale c => .positionStaleExpiry c
  | .windStale c => .windStaleExpiry c
  | .demandTimeout c => .demandTimeoutExpiry c
  | .refresh c => .refreshExpiry c
  | .keep k c => .keepTimerExpiry k c
  | .clearing k => .clearingExpiry k
  | .hold k => .holdTimerExpiry k
  | .recovery c => .recoveryExpiry c
  | .vaneDelay c => .vaneDelayExpiry c
  | .vaneTimeout c => .vaneTimeoutExpiry c
  | .phaseEnd n => .beaconPhaseEnd n

/-- The command that names what a notice tells; the end of a tick's work has none. -/
def noticeCommand : Notice → Option Instr
  | .tickDone => none
  | .frame f => some (frameCommand f)
  | .presence k c change => some (.presenceReport k c change)
  | .knock k c => some (.knock k c)
  | .claimant k left cl => some (.bookedClaimantChange k left cl)
  | .lock k c => some (.lockRequest k c)
  | .unlock k c => some (.unlock k c)
  | .liftCount id => some (.bookedLiftCount id)
  | .loadSample c x => some (.loadSample c x)
  | .motionTaken c => some (.motionFrameNotice c)
  | .limit c => some (.limitNotice c)
  | .evaluation c => some (.evaluation c)
  | .craneCondition c => some (.craneConditionChange c)
  | .handshake k => some (.handshakeReport k)
  | .beacon c cond => some (.beaconConditionChange c cond)
  | .expiry e => some (expiryCommand e)
  | .clockAdvance => some .siteClockAdvance
  | .minuteBoundary => some .minuteBoundary
  | .holdAsserted => some .siteHoldAsserted
  | .holdReleased => some .siteHoldReleased

/-- A notice is an event of its own rather than what another event has caused (log 1). -/
def Notice.Opens (n : Notice) : Prop :=
  (∃ f, n = .frame f) ∨ (∃ e, n = .expiry e) ∨ n = .clockAdvance ∨ n = .holdAsserted ∨ n = .holdReleased ∨ n = .tickDone

/-- The timer that an expiry names runs and stands at 0 (Timers, 00; for the wind state's, R127 and R137). -/
def State.RunOut (s : State) : Expiry → Prop
  | .positionStale c => (s.position c).stale = some 0
  | .windStale c => (s.windOf c).ownStale = some 0
  | .demandTimeout c => (s.permit c).timeout = some 0
  | .refresh c => (s.permit c).refresh = some 0
  | .phaseEnd n => (s.generator n).left = some 0
  | .clearing k => ∃ f g, (s.entry k).base = .clearing f g 0
  | .keep k c => ∃ q ∈ (s.entry k).queue, q.crane = c ∧ q.keep = 0
  | .hold k => ∃ g, grantOf (s.entry k) = some g ∧ g.hold = some 0
  | .recovery c =>
    (s.crane c).present = true ∧ profileValid (s.profileOf c) = true ∧ (s.windOf c).source ≠ .none ∧
      (s.windOf c).recovery = some 0
  | .vaneDelay c => (s.crane c).present = true ∧ (s.windOf c).vaneDelay = some 0
  | .vaneTimeout c => (s.crane c).present = true ∧ (s.windOf c).vaneTimeout = some 0

/-! ### The work that waits (logs 1 and 4) -/

/-- The site transmitter has nothing to begin: it is sending, or both its queues are empty. -/
def State.NothingToBegin (s : State) : Prop := s.transmitter = none → s.replies = [] ∧ s.events = []

/-- One piece of waiting work takes `s` to `t`: an idle transmitter begins the oldest reply, otherwise the oldest event
record; where it has none to begin, the oldest notice that an event has caused is taken, and only where there is none of
these the oldest event. -/
def State.Works (s t : State) : Prop :=
  (∃ r rest, s.transmitter = none ∧ s.replies = r :: rest ∧ t = { s with transmitter := some (.reply r) }) ∨
  (∃ e rest, s.transmitter = none ∧ s.replies = [] ∧ s.events = e :: rest ∧
    t = { s with transmitter := some (.event e s.overflow), overflow := false }) ∨
  (s.NothingToBegin ∧ ∃ before n after, s.inFlight = before ++ n :: after ∧
    ((¬ n.Opens ∧ ∀ m ∈ before, m.Opens) ∨ (before = [] ∧ ∀ m ∈ n :: after, m.Opens)) ∧
    t = takeNotice n { s with inFlight := before ++ after })

/-- So many pieces of waiting work take `s` to `t`. -/
def State.WorksFor (s : State) : Nat → State → Prop
  | 0, t => t = s
  | n + 1, t => ∃ u, s.Works u ∧ u.WorksFor n t

/-! ### Operands (R159) -/

/-- The operands of WRITE_SITE (R159). -/
def siteOctets (p : SiteParams) : List Byte :=
  octet4 p.tickDivisor ++ octet2 p.positionStale ++ octet2 p.windStale ++ octet2 p.demandTimeout
    ++ octet1 p.permitRefresh ++ octet1 p.keepTime

/-- The ranges of R16. -/
def SiteParams.InRange (p : SiteParams) : Prop :=
  (1000 ≤ p.tickDivisor ∧ p.tickDivisor ≤ 400000) ∧ (2 ≤ p.positionStale ∧ p.positionStale ≤ 1000) ∧
  (10 ≤ p.windStale ∧ p.windStale ≤ 6000) ∧ (2 ≤ p.demandTimeout ∧ p.demandTimeout ≤ 1000) ∧
  (1 ≤ p.permitRefresh ∧ p.permitRefresh ≤ 100) ∧ (1 ≤ p.keepTime ∧ p.keepTime ≤ 255)

/-- The operands of WRITE_PATTERN (R159). -/
def patternOctets (condition : Nat) (p : BeaconPattern) : List Byte :=
  octet1 condition ++ octet1 p.on ++ octet1 p.off ++ octet1 p.scale

/-- The ranges of R15. -/
def BeaconPattern.InRange (p : BeaconPattern) : Prop :=
  p.on ≤ 255 ∧ p.off ≤ 255 ∧ p.scale ∈ [1, 2, 4, 8, 16, 32, 64, 128]

/-- The code of a condition: its place in R15's list (R157). -/
def conditionCode : BeaconCondition → Nat
  | .off => 0 | .alert => 1 | .stop => 2 | .vanePending => 3 | .vane => 4 | .fault => 5

/-- The operands of WRITE_PROFILE (R159). -/
def profileOctets (n : ProfileNo) (p : WindProfile) : List Byte :=
  octet1 n.val ++ octet1 p.gustWindow ++ octet1 p.blockLength ++ octet1 p.meanBlocks
    ++ octet2 p.alertOn ++ octet2 p.alertOff ++ octet2 p.stopGust ++ octet2 p.stopMean ++ octet2 p.stopOff
    ++ octet1 p.debounce ++ octet2 p.recovery ++ octet1 (match p.vaneMode with | .manual => 0 | .auto => 1)
    ++ octet2 p.vaneDelay ++ octet2 p.vaneTimeout
    ++ octet2 p.alertCaps.slew ++ octet2 p.alertCaps.trolley ++ octet2 p.alertCaps.hoist
    ++ octet2 p.stopCaps.slew ++ octet2 p.stopCaps.trolley ++ octet2 p.stopCaps.hoist

/-- The ranges and the relations of R13. -/
def WindProfile.InRange (p : WindProfile) : Prop :=
  (2 ≤ p.gustWindow ∧ p.gustWindow ≤ 16) ∧ (4 ≤ p.blockLength ∧ p.blockLength ≤ 64) ∧
  (1 ≤ p.meanBlocks ∧ p.meanBlocks ≤ 64) ∧
  (p.alertOn ≤ 600 ∧ p.alertOff ≤ 600 ∧ p.stopGust ≤ 600 ∧ p.stopMean ≤ 600 ∧ p.stopOff ≤ 600) ∧
  p.debounce ≤ 15 ∧ (1 ≤ p.recovery ∧ p.recovery ≤ 3600) ∧ p.vaneDelay ≤ 3600 ∧
  (1 ≤ p.vaneTimeout ∧ p.vaneTimeout ≤ 3600) ∧
  (p.alertCaps.slew ≤ 1000 ∧ p.alertCaps.trolley ≤ 1000 ∧ p.alertCaps.hoist ≤ 1000) ∧
  (p.stopCaps.slew ≤ 1000 ∧ p.stopCaps.trolley ≤ 1000 ∧ p.stopCaps.hoist ≤ 1000) ∧
  p.alertOff < p.alertOn ∧ p.alertOn ≤ p.stopGust ∧ p.stopOff < p.stopGust ∧ p.stopOff < p.stopMean ∧
  p.alertOff ≤ p.stopOff

/-- The fields of a wind profile fit the octets that carry them (R159). -/
def WindProfile.Fits (p : WindProfile) : Prop :=
  (p.gustWindow < 256 ∧ p.blockLength < 256 ∧ p.meanBlocks < 256 ∧ p.debounce < 256) ∧
  (p.alertOn < 65536 ∧ p.alertOff < 65536 ∧ p.stopGust < 65536 ∧ p.stopMean < 65536 ∧ p.stopOff < 65536) ∧
  (p.recovery < 65536 ∧ p.vaneDelay < 65536 ∧ p.vaneTimeout < 65536) ∧
  (p.alertCaps.slew < 65536 ∧ p.alertCaps.trolley < 65536 ∧ p.alertCaps.hoist < 65536) ∧
  (p.stopCaps.slew < 65536 ∧ p.stopCaps.trolley < 65536 ∧ p.stopCaps.hoist < 65536)

/-- The operands of WRITE_CRANE with the present field yes (R159). -/
def craneOctets (c : Crane) (r : CraneRecord) : List Byte :=
  octet1 c.val ++ octet1 1 ++ signed2 r.slewOffset ++ octet2 r.jib ++ octet2 r.parkRadius
    ++ octet2 r.parkHeight ++ octet1 r.profile.val ++ octet1 (octetOrNone r.beaconLine)
    ++ octet2 r.slew.margin ++ octet2 r.slew.band ++ octet1 r.slew.creep
    ++ octet1 r.trolley.margin ++ octet2 r.trolley.band ++ octet1 r.trolley.creep
    ++ octet1 r.hoist.margin ++ octet2 r.hoist.band ++ octet1 r.hoist.creep
    ++ octet2 r.pick ++ octet2 r.setDown ++ octet1 r.debounce

/-- The ranges of R4 for a present crane. -/
def CraneRecord.InRange (r : CraneRecord) : Prop :=
  r.present = true ∧ (-4096 ≤ r.slewOffset ∧ r.slewOffset ≤ 4095) ∧ (100 ≤ r.jib ∧ r.jib ≤ 1000) ∧
  r.parkRadius ≤ r.jib ∧ r.parkHeight ≤ 3000 ∧
  (r.slew.margin ≤ 1024 ∧ 1 ≤ r.slew.band ∧ r.slew.band ≤ 4096 ∧ r.slew.creep ≤ 200) ∧
  (r.trolley.margin ≤ 200 ∧ 1 ≤ r.trolley.band ∧ r.trolley.band ≤ 500 ∧ r.trolley.creep ≤ 200) ∧
  (r.hoist.margin ≤ 200 ∧ 1 ≤ r.hoist.band ∧ r.hoist.band ≤ 500 ∧ r.hoist.creep ≤ 200) ∧
  (1 ≤ r.pick ∧ r.pick ≤ 8000) ∧ r.setDown ≤ 7999 ∧ r.debounce ≤ 15

/-- The fields of a crane record fit the octets that carry them (R159). -/
def CraneRecord.Fits (r : CraneRecord) : Prop :=
  (-32768 ≤ r.slewOffset ∧ r.slewOffset ≤ 32767) ∧ (r.jib < 65536 ∧ r.parkRadius < 65536 ∧ r.parkHeight < 65536) ∧
  (r.slew.margin < 65536 ∧ r.slew.band < 65536 ∧ r.slew.creep < 256) ∧
  (r.trolley.margin < 256 ∧ r.trolley.band < 65536 ∧ r.trolley.creep < 256) ∧
  (r.hoist.margin < 256 ∧ r.hoist.band < 65536 ∧ r.hoist.creep < 256) ∧
  (r.pick < 65536 ∧ r.setDown < 65536 ∧ r.debounce < 256)

/-- The operands of WRITE_SECTOR with the enabled field yes (R159). -/
def sectorOctets (k : Sector) (r : SectorRecord) : List Byte :=
  octet1 k.val ++ octet1 1 ++ octet1 (clashCode r.clash) ++ octet1 r.members.length ++ cranePlaces 4 r.members
    ++ octet2 r.clearingTime ++ octet2 r.holdLimit ++ octet1 r.slice

/-- The ranges of R10 for an enabled sector. -/
def SectorRecord.InRange (r : SectorRecord) : Prop :=
  r.enabled = true ∧ (2 ≤ r.members.length ∧ r.members.length ≤ 4) ∧ r.members.Nodup ∧
  (1 ≤ r.clearingTime ∧ r.clearingTime ≤ 6000) ∧ (1 ≤ r.holdLimit ∧ r.holdLimit ≤ 3600) ∧ r.slice ≤ 63

/-- The numbers of a sector record fit the octets that carry them, and its members the four places (R159). -/
def SectorRecord.Fits (r : SectorRecord) : Prop :=
  r.members.length ≤ 4 ∧ r.clearingTime < 65536 ∧ r.holdLimit < 65536 ∧ r.slice < 256

/-- The seven octets of a segment (R159). -/
def segmentOctets (g : RawSegment) : List Byte :=
  octet2 g.start ++ octet1 (g.kindCode * 64 + g.sector.val)
    ++ octet4 (g.rLo * 4194304 + g.rHi * 4096 + g.floor)

/-- The ranges of R7; OWN has code 0, SHARED 1, BARRED 2. -/
def RawSegment.InRange (g : RawSegment) : Prop :=
  g.start ≤ 8191 ∧ g.kindCode ≤ 2 ∧ g.rHi ≤ 1000 ∧ g.rLo < g.rHi ∧ g.floor ≤ 3000

/-- The fields of a segment fit the bits that carry them (R159). -/
def RawSegment.Fits (g : RawSegment) : Prop :=
  g.start < 65536 ∧ g.kindCode < 4 ∧ g.rLo < 1024 ∧ g.rHi < 1024 ∧ g.floor < 4096

/-- A segment as R7 stores it: the sector of a SHARED segment only, the floor of a BARRED one only. -/
def RawSegment.stored (g : RawSegment) : Segment :=
  { start := g.start
    kind := if g.kindCode = 0 then .own else if g.kindCode = 1 then .shared else .barred
    sector := if g.kindCode = 1 then g.sector else 0
    rLo := g.rLo, rHi := g.rHi
    floor := if g.kindCode = 2 then g.floor else 0 }

/-- R30: what one report says of crane `c` in sector `k` between two states: how its standing there has changed. -/
def State.Reports (s t : State) (k : Sector) (c : Crane) (change : PresenceChange) : Prop :=
  presenceChange ((s.position c).present == some k) ((t.position c).present == some k)
    ((s.position c).obstructed.contains k) ((t.position c).obstructed.contains k) = some change

/-- R17: the test of a code fails, with its offender: a crane and a segment's index (4, 5, 6, 9), a crane (2, 3, 8), a
sector (7, 10), or 255 for none (1). -/
def State.FailsTest (s : State) (code a b : Nat) : Prop :=
  let crane (bad : Crane → Prop) : Prop := b = 0 ∧ ∃ c : Crane, a = c.val ∧ (s.crane c).present = true ∧ bad c
  let sector (bad : Sector → Prop) : Prop := b = 0 ∧ ∃ k : Sector, a = k.val ∧ (s.sector k).enabled = true ∧ bad k
  let segment (bad : Crane → Segment → Prop) : Prop :=
    ∃ c : Crane, a = c.val ∧ (s.crane c).present = true ∧ ∃ g, (s.zone c)[b]? = some g ∧ bad c g
  let shares (c : Crane) (g : Segment) : Prop :=
    g.kind = .shared ∧ (s.sector g.sector).enabled = true ∧ c ∈ (s.sector g.sector).members
  match code with
  | 1 => a = 255 ∧ b = 0 ∧ ∀ c, (s.crane c).present = false
  | 2 => crane (fun c => profileValid (s.profile (s.crane c).profile) = false)
  | 3 => crane (fun c => s.zone c = [])
  | 4 => segment (fun c g => b ≠ 0 ∧ ∃ former, (s.zone c)[b - 1]? = some former ∧ g.start ≤ former.start)
  | 5 => segment (fun c g => (s.crane c).jib < g.rHi)
  | 6 => segment (fun c g => g.kind = .shared ∧ ¬ shares c g)
  | 7 => sector (fun k => ∃ c ∈ (s.sector k).members,
      (s.crane c).present = false ∨ ∀ g ∈ s.zone c, g.kind = .shared → g.sector ≠ k)
  | 8 => crane (fun c => (s.crane c).pick ≤ (s.crane c).setDown)
  | 9 => segment (fun c g => shares c g ∧ (s.sector g.sector).clash = .hook ∧ g.rLo ≤ (s.crane c).parkRadius)
  | 10 => sector (fun k => 2 ≤ ((s.sector k).members.filter (fun c => (s.position c).present == some k)).length)
  | _ => False

/-- The operands of BOOK_ADD (R159). -/
def bookingOctets (b : Booking) : List Byte :=
  octet2 b.id.toNat ++ octet1 b.crane.val ++ octet1 b.sector.val ++ octet4 b.start ++ octet4 b.stop
    ++ octet1 b.quota ++ octet1 (classCode b.cls) ++ octet2 b.maxLoad

/-- The ranges of R91. -/
def Booking.InRange (b : Booking) : Prop :=
  b.id ≠ 0 ∧ b.start < b.stop ∧ b.stop ≤ b.start + 10080 ∧ b.stop ≤ 71582788 ∧ b.quota ≤ 250 ∧ b.maxLoad ≤ 8000

/-- The fields of a booking fit the octets that carry them (R159). -/
def Booking.Fits (b : Booking) : Prop :=
  b.start < 4294967296 ∧ b.stop < 4294967296 ∧ b.quota < 256 ∧ b.maxLoad < 65536

/-- R92: a terminal state. -/
def terminal (st : BookingState) : Prop := st = .exhausted ∨ st = .expired ∨ st = .cancelled

/-- R96: the crane condition, written out. -/
def State.CanWork (s : State) (c : Crane) : Prop :=
  s.mode = .armed ∧ ((s.position c).state = .tracked ∨ (s.position c).state = .degraded) ∧
  ((s.windOf c).state = .calm ∨ (s.windOf c).state = .alert)

/-- The state a booking entered, with the cause of the change, or as it stands where it keeps its state (R92, R107). -/
def Booking.entering (b : Booking) (st : BookingState) (cause : BookingCause) : Booking :=
  if b.state = st then b else { b with state := st, cause := cause }

/-- R107: the BOOKING_STATE event of an entry that has left a state, or that is new. -/
def bookingChange (former : Option BookingState) (b : Booking) : EventBody :=
  { kind := .bookingState, crane := some b.crane, sector := some b.sector, argA := b.id,
    argB := BitVec.ofNat 16 (bookingCode b.state * 4096
      + (match former with | some st => bookingCode st | none => 15) * 256 + causeCode b.cause),
    argC := BitVec.ofNat 16 b.done }

/-- R107: the BOOKING_STATE events of the entries whose state differs between two tables, in table order. -/
def bookingChanges (before after : List Booking) : List EventBody :=
  (before.zip after).filterMap (fun x =>
    if x.1.state = x.2.state then none else some (bookingChange (some x.1.state) x.2))

/-- R95, R96: what a window evaluation with a cause makes of an entry: with the clock SET a live booking is given the
state its window and its crane call for. -/
def State.judges (s : State) (cause : BookingCause) (b : Booking) : Booking :=
  if s.clockSet = false ∨ b.state = .exhausted ∨ b.state = .expired ∨ b.state = .cancelled then b
  else if s.clock.toNat / 60 < b.start then b.entering .waiting cause
  else if b.stop ≤ s.clock.toNat / 60 then b.entering .expired cause
  else if s.craneCondition b.crane = true then b.entering .active cause
  else b.entering .suspended cause

/-- The claimant of sector `k` as the booking table has it (R105). -/
def State.tableClaimant (s : State) (k : Sector) : Option Claimant :=
  (claimantOf s.bookings k).map (fun b => { booking := b.id, crane := b.crane })

/-- R106: the bookings naming sector `k` that have left ACTIVE between two tables, with the state each entered. -/
def departures (before after : List Booking) (k : Sector) : List (Half × BookingState) :=
  (before.zip after).filterMap (fun x =>
    if x.1.sector = k ∧ x.1.state = .active ∧ x.2.state ≠ .active then some (x.2.id, x.2.state) else none)

/-- R106: between two states every sector whose claimant has changed, or whose grant is BOOKED to a booking that has
left ACTIVE, is sent one report, with the bookings naming it that have left ACTIVE, each with the state it entered,
and its new claimant; no other sector is sent one, and nothing else is sent. -/
def State.InformsArbiter (s t : State) : Prop :=
  let departed := departures s.bookings t.bookings
  let owes (k : Sector) : Prop :=
    t.tableClaimant k ≠ s.tableClaimant k ∨
    ∃ x ∈ departed k, (grantOf (s.entry k)).map (·.kind) = some (.booked x.1)
  t.inFlight.Nodup ∧ (∀ n ∈ t.inFlight, ∃ k left cl, n = .claimant k left cl) ∧
  ∀ k left cl, .claimant k left cl ∈ t.inFlight ↔ owes k ∧ left = departed k ∧ cl = t.tableClaimant k

/-! ### Sector entries (R54 to R76) -/

/-- The record of a new ROUTINE grant (R61). -/
def Grant.routineBy (r : SectorRecord) : Grant :=
  { kind := .routine, sliceLeft := r.slice, hold := some r.holdLimit, expired := false, yielding := none,
    overstay := false }

/-- The record of a new BOOKED grant (R61). -/
def Grant.bookedBy (r : SectorRecord) (id : Half) : Grant :=
  { kind := .booked id, sliceLeft := r.slice, hold := none, expired := false, yielding := none, overstay := false }

/-- One event taken by sector `k`'s entry leaves it as `e` and raises the events `bs`; notices may be sent. -/
def State.EntryTakes (s t : State) (k : Sector) (e : SectorEntry) (bs : List EventBody) : Prop :=
  t = { s with
    entries := s.entries.write k e
    events := (s.postAll bs).events
    overflow := (s.postAll bs).overflow
    inFlight := t.inFlight }

/-- Sector `k` is enabled in an ARMED site. -/
def State.Running (s : State) (k : Sector) : Prop := (s.sector k).enabled = true ∧ s.mode = .armed

/-- R55: the state of sector `k`. -/
def State.sectorState (s : State) (k : Sector) : SectorState := stateOf (s.sector k).clash (s.entry k)

/-- An entry that is not evaluated by what it takes: HELD or CLEARING, LOCKED or CLOSED without a grant, or CONTESTED
with two or more members present. -/
def State.KeepsState (s : State) (k : Sector) : Prop :=
  s.sectorState k = .held ∨ s.sectorState k = .clearing ∨
  ((s.sectorState k = .locked ∨ s.sectorState k = .closed) ∧ ownerOf (s.entry k) = none) ∨
  (s.sectorState k = .contested ∧ 2 ≤ (s.entry k).presence.length)

/-- R60, R62: the grant evaluation of an entry `e` of sector `k`, FREE or CONTESTED: what it becomes and the events
raised. `entering` is the crane whose own enter report a FREE sector is taking. -/
def GrantEvaluation (k : Sector) (r : SectorRecord) (entering : Option Crane) (e e' : SectorEntry)
    (bs : List EventBody) : Prop :=
  let held (c : Crane) (g : Grant) : SectorEntry := { e with base := .held c g, queue := withdraw e.queue c }
  let uninvited (c : Crane) : List EventBody :=
    if entering = some c ∧ ∀ q ∈ e.queue, q.crane ≠ c then [eventOf .intrusion (some c) (some k) 0] else []
  (2 ≤ e.presence.length → e.base = .contested → e' = e ∧ bs = []) ∧
  (2 ≤ e.presence.length → e.base ≠ .contested →
    e' = { e with base := .contested } ∧ bs = [eventOf .contested none (some k) e.presence.length]) ∧
  (e.presence.length ≤ 1 → e.obstruction ≠ [] → e' = { e with base := .free } ∧ bs = []) ∧
  (e.obstruction = [] →
    (∀ c, e.presence = [c] →
      (∀ cl, e.claimant = some cl → cl.crane = c →
        e' = held c (.bookedBy r cl.booking) ∧
        bs = [eventOf .grant (some c) (some k) cl.booking.toNat 1 0]) ∧
      (∀ cl, e.claimant = some cl → cl.crane ≠ c →
        e' = held c { Grant.routineBy r with yielding := some .booking } ∧
        bs = eventOf .grant (some c) (some k) 0 0 0 :: uninvited c ++ [eventOf .yield (some c) (some k) 1]) ∧
      (e.claimant = none →
        e' = held c (.routineBy r) ∧ bs = eventOf .grant (some c) (some k) 0 0 0 :: uninvited c)) ∧
    (e.presence = [] →
      (∀ cl, e.claimant = some cl →
        e' = held cl.crane (.bookedBy r cl.booking) ∧
        bs = [eventOf .grant (some cl.crane) (some k) cl.booking.toNat 1 1]) ∧
      (∀ q rest, e.claimant = none → e.queue = q :: rest →
        e' = held q.crane (.routineBy r) ∧
        bs = [eventOf .grant (some q.crane) (some k) 0 0 (if q.resume = true then 2 else 3)]) ∧
      (e.claimant = none → e.queue = [] → e' = { e with base := .free } ∧ bs = [])))

/-! ### Wind sources, the way to vane, and permits -/

/-- R119: crane `l` lends its figures: it is present, its own source is fresh, and no such crane has a higher own gust,
nor an equal one and a lower number. -/
def State.BestLender (s : State) (l : Crane) : Prop :=
  (s.crane l).present = true ∧ (s.windOf l).fresh = true ∧
  ∀ d, (s.crane d).present = true → (s.windOf d).fresh = true →
    let gust (e : Crane) : Nat := (s.windOf e).ownGust.getD 0
    gust d < gust l ∨ (gust d = gust l ∧ l ≤ d)

/-- R119: every present crane works from its own figures while they are fresh, otherwise from the best lender's, and
otherwise from none. -/
def State.SourcesSelected (s : State) : Prop :=
  ∀ c, (s.crane c).present = true →
    ((s.windOf c).fresh = true → (s.windOf c).source = .own) ∧
    ((s.windOf c).fresh = false →
      (∀ l, (s.windOf c).source = .borrowed l ↔ s.BestLender l) ∧
      ((∀ l, ¬ s.BestLender l) → (s.windOf c).source = .none))

/-- R120: the WIND_SOURCE events of the cranes present in the later state whose source differs between two states, in
ascending number. -/
def sourceChanges (s t : State) : List EventBody :=
  (allCranes.filter (fun d => (t.crane d).present && (s.windOf d).source != (t.windOf d).source)).map (fun d =>
    eventOf .windSource (some d) none (sourceCode (t.windOf d).source) (sourceCode (s.windOf d).source)
      (match (t.windOf d).source with | .borrowed l => l.val | _ => 65535))

/-- R120: the evaluations sent between two states to the present cranes with a valid profile whose source has changed,
and to no other. -/
def State.EvaluatesChanges (s t : State) : Prop :=
  ∀ d, .evaluation d ∈ t.inFlight ↔ (t.crane d).present = true ∧ profileValid (t.profileOf d) = true ∧
    (t.windOf d).source ≠ (s.windOf d).source

/-- R138: between two states the beacon driver is told of every present crane whose beacon condition has changed, and of
no other. -/
def State.TellsBeacons (s t : State) : Prop :=
  ∀ d cond, .beacon d cond ∈ t.inFlight ↔
    (t.crane d).present = true ∧ cond = t.beaconCondition d ∧ s.beaconCondition d ≠ cond

/-- R127, R137: the recovery timer of crane `c` runs: the crane is present, its profile is valid, and its source is not
NONE. -/
def State.RecoveryRuns (s : State) (c : Crane) : Prop :=
  (s.crane c).present = true ∧ profileValid (s.profileOf c) = true ∧ (s.windOf c).source ≠ .none

/-- R133: sector `k` keeps crane `c` from vaning: the crane is not in its lock set, or a member outside the lock set is
present in it. -/
abbrev State.BlocksVane (s : State) (c : Crane) (k : Sector) : Prop :=
  s.isMember k c = true ∧ (c ∉ s.locksOf k ∨ ∃ d ∈ (s.entry k).presence, d ∉ s.locksOf k)

/-- What tells the others of a change of crane `c`'s wind state (R129). -/
def State.TellsWindState (s t : State) (c : Crane) : Prop :=
  .craneCondition c ∈ t.inFlight ∧ .limit c ∈ t.inFlight ∧
  ((s.crane c).present = true → s.beaconCondition c ≠ t.beaconCondition c →
    .beacon c (t.beaconCondition c) ∈ t.inFlight)

/-- R129: one WIND_STATE event; causes by their codes, THRESHOLD 0 to VANE_COMMAND 4. -/
def State.windStateEvent (s : State) (c : Crane) (new : WindState) (cause : Nat) : EventBody :=
  eventOf .windState (some c) none (windCode new * 4096 + windCode (s.windOf c).state * 256 + cause)
    (s.gustNumber c) (s.meanNumber c)

/-- R132, R133: crane `c` enters VANE_PENDING, and VANE in the same event when no sector keeps it from vaning; the locks
are requested of every sector of which it is a member, and the others are told of the change (R129). -/
def State.HeadsForVane (s t : State) (c : Crane) (cause : Nat) : Prop :=
  let pending : WindRecord :=
    { s.windOf c with
      state := .vanePending, stopCount := 0, alertCount := 0, calmCount := 0, recovery := none,
      vaneDelay := none, vaneWait := false, vaneTimeout := some (s.profileOf c).vaneTimeout }
  let entered := s.windStateEvent c .vanePending cause
  let released := eventOf .vaneReleased (some c) none (s.sectorsOf c).length
  ((∃ k, s.BlocksVane c k) →
    t = { s with
      winds := s.winds.write c pending
      events := (s.post entered).events
      overflow := (s.post entered).overflow
      inFlight := t.inFlight }) ∧
  ((∀ k, ¬ s.BlocksVane c k) →
    t = { s with
      winds := s.winds.write c { pending with state := .vane, vaneTimeout := none }
      events := (s.postAll [entered, released]).events
      overflow := (s.postAll [entered, released]).overflow
      inFlight := t.inFlight }) ∧
  (∀ k, s.isMember k c = true → .lock k c ∈ t.inFlight) ∧ s.TellsWindState t c

/-- R143, R146, R148: a permit issued to crane `c` from the computation for its demand of record, and the knocks of that
computation. -/
def State.Issues (s t : State) (c : Crane) : Prop :=
  let x := s.compute c
  let r : PermitRecord :=
    { s.permit c with
      seq := (s.permit c).seq + 1, last := x.speeds, refresh := some s.site.permitRefresh }
  let p : Permit :=
    { echoed := r.echoed, seq := r.seq, speeds := x.speeds, reasons := x.reasons,
      vaneRelease := decide ((s.windOf c).state = .vane), noPick := s.noPick c, demandStale := r.demandStale,
      advice := (s.advice c).1, adviceSector := (s.advice c).2, windState := (s.windOf c).state,
      source := (s.windOf c).source, gust := s.gustNumber c }
  t = { s with
    permits := s.permits.write c r
    slots := s.slots.write c
      (match (s.slot c).transmit with
       | none => { transmit := some p, waiting := (s.slot c).waiting }
       | some q => { transmit := some q, waiting := some p })
    inFlight := s.inFlight ++ x.knocks.map (fun k => .knock k c) }

/-- R25, R36: segment `g` bars crane `c`, with the evaluation radius and height written out. -/
def State.Bars (s : State) (c : Crane) (g : Segment) : Prop :=
  let p := s.position c
  let r := if p.trolleyOk = true then min p.radius (s.crane c).jib else (s.crane c).jib
  let h := if p.hoistOk = true then p.height else 0
  let inBand : Prop := g.rLo ≤ r ∧ r ≤ g.rHi
  match g.kind with
  | .own => False
  | .barred => inBand ∧ (g.floor = 0 ∨ h < g.floor)
  | .shared => s.isMember g.sector c = true ∧ holderOf (s.entry g.sector) ≠ some c ∧
      ((s.sector g.sector).clash = .jib ∨ inBand)

/-- R8, R37: segment `i` of its zone table, `g`, is the current segment of crane `c`, which is TRACKED or DEGRADED. -/
def State.StandsIn (s : State) (c : Crane) (i : Nat) (g : Segment) : Prop :=
  ((s.position c).state = .tracked ∨ (s.position c).state = .degraded) ∧ (s.zone c)[i]? = some g ∧
  ((g.start ≤ (s.position c).angle ∧ ∀ j g', i < j → (s.zone c)[j]? = some g' → (s.position c).angle < g'.start) ∨
    (i + 1 = (s.zone c).length ∧ ∀ g' ∈ s.zone c, (s.position c).angle < g'.start))

/-- R37, R42: crane `c` is an exit crane in its current segment `g`. -/
def State.ExitsFrom (s : State) (c : Crane) (g : Segment) : Prop :=
  s.Bars c g ∧ ¬ (g.kind = .shared ∧ c ∈ s.locksOf g.sector)

/-- R41: `value` is the ramp's for distance `d`. -/
def AxisParams.Ramps (p : AxisParams) (d value : Nat) : Prop :=
  (d ≤ p.margin → value = 0) ∧
  (p.margin < d → d < p.margin + p.band → value = p.creep + (1000 - p.creep) * (d - p.margin) / p.band) ∧
  (p.margin < d → p.margin + p.band ≤ d → value = 1000)

/-- R38: `b` is the first segment that bars crane `c` beyond its current segment `i`, at index `j`, forward or
backward round the zone table. -/
def State.FirstBarrier (s : State) (c : Crane) (i : Nat) (forward : Bool) (j : Nat) (b : Segment) : Prop :=
  let z := s.zone c
  let index (m : Nat) : Nat := if forward = true then (i + m) % z.length else (i + z.length - m) % z.length
  ∃ m, 0 < m ∧ m < z.length ∧ j = index m ∧ z[j]? = some b ∧ s.Bars c b ∧
    ∀ m' b', 0 < m' → m' < m → z[index m']? = some b' → ¬ s.Bars c b'

/-- R49: crane `c` is under no-pick. -/
def State.UnderNoPick (s : State) (c : Crane) : Prop :=
  (s.windOf c).state = .stop ∨
  (∃ k g, (s.position c).present = some k ∧ (s.entry k).base = .held c g ∧ (g.yielding ≠ none ∨ g.overstay = true)) ∨
  ∃ i g, s.StandsIn c i g ∧ s.ExitsFrom c g

/-- The value of one axis. -/
def PerAxis.on {α : Type} (x : PerAxis α) : Axis → α
  | .slew => x.slew
  | .trolley => x.trolley
  | .hoist => x.hoist

/-- R145: crane `c` is issued a permit of zero speeds and advice HOLD, with the reason SITE on every axis whose demand
is not 0, and its link port takes it (R148). -/
def State.IssuesZero (s t : State) (c : Crane) : Prop :=
  let r := s.permit c
  t.permit c = { r with seq := r.seq + 1, last := ⟨0, 0, 0⟩, refresh := some s.site.permitRefresh } ∧
  ∃ p : Permit, p.speeds = ⟨0, 0, 0⟩ ∧ p.advice = .hold ∧ p.seq = r.seq + 1 ∧ p.echoed = r.echoed ∧
    (∀ a : Axis, p.reasons.on a = if r.demand.on a = 0 then .none else .site) ∧
    t.slot c =
      match (s.slot c).transmit with
      | none => { transmit := some p, waiting := (s.slot c).waiting }
      | some q => { transmit := some q, waiting := some p }

/-! ### Beacon lines (R171) -/

/-- R171: the generator restarted by crane `c` with a condition and its pattern: the start of phase ON, or the steady
state. It remembers when the tick in progress was to end the phase it cuts short; the restart is none that the tick
before has brought (log 26). -/
def Generator.restartedBy (g : Generator) (c : Crane) (cond : BeaconCondition) (p : BeaconPattern) : Generator :=
  { driver := some c
    condition := cond
    phase := if p.on = 0 then .off else .on
    left := if p.on = 0 ∨ p.off = 0 then none else some (p.on * p.scale)
    cutShort := decide (g.cutShort = true ∨ g.left = some 1) }

/-- R171: between two states a line without a driving crane is held off, and a line with one shows that crane's
condition: restarted where its driver or its condition has changed, and left as it runs where neither has. -/
def State.LinesFollow (s t : State) : Prop :=
  ∀ n,
    let g := s.generator n
    (t.lineDriver n = none → g.driver = none → t.generator n = g) ∧
    (t.lineDriver n = none → g.driver ≠ none →
      t.generator n =
        { driver := none, condition := .off, phase := .off, left := none,
          cutShort := decide (g.cutShort = true ∨ g.left = some 1) }) ∧
    (∀ c, t.lineDriver n = some c →
      let cond := t.beaconCondition c
      t.generator n =
        if g.driver = some c ∧ g.condition = cond then g else g.restartedBy c cond (patternOf s.patterns cond))

/-! ### What a read returns (R157, R166) -/

/-- R157: yes/no values, flags or marks in one octet, bit n for the nth. -/
def bitsOctet (bits : List Bool) : List Byte :=
  octet1 (bits.zipIdx.map (fun x => if x.1 = true then 2 ^ x.2 else 0)).sum

/-- R157: the bit mask of a set, bit n for number n. -/
def maskOf {n : Nat} (xs : List (Fin n)) : Nat :=
  ((List.finRange n).map (fun i => if i ∈ xs then 2 ^ i.val else 0)).sum

/-- R157: a number that may be none, FFh for none. -/
def orNone {n : Nat} (x : Option (Fin n)) : List Byte := octet1 ((x.map (·.val)).getD 255)

/-- R157: a sequence reference, FFFFh for open; also a figure, FFFFh for none. -/
def orOpen (x : Option Nat) : List Byte := octet2 (x.getD 65535)

/-- R18, R166: the data of READ_CRANE with selector 0. -/
def positionOctets (p : PositionRecord) : List Byte :=
  octet1 (match p.state with | .none => 0 | .tracked => 1 | .degraded => 2 | .lost => 3)
    ++ orOpen (p.seqRef.map (·.toNat)) ++ bitsOctet [p.slewOk, p.trolleyOk, p.hoistOk, p.loadOk]
    ++ octet2 p.angle ++ octet2 p.radius ++ octet2 p.height ++ octet2 p.load
    ++ bitsOctet [p.radiusMark, p.heightMark, p.loadMark] ++ octet2 (p.stale.getD 0) ++ orNone p.present
    ++ octet2 (maskOf p.obstructed)

/-- R79, R166: the data of READ_CRANE with selector 1. -/
def detectorOctets (d : Detector) : List Byte :=
  octet1 (match d.state with | .unloaded => 0 | .picking => 1 | .loaded => 2 | .setting => 3)
    ++ octet1 d.run ++ octet2 d.peak ++ octet2 d.lifts.toNat ++ bitsOctet [d.overload] ++ bitsOctet [d.reported]
    ++ (match d.lastLift with
        | none => octet1 0 ++ octet2 0 ++ octet1 0 ++ octet1 0 ++ octet2 0
        | some l => octet1 1 ++ octet2 l.peak ++ (match l.attribution with
          | .booked k id => octet1 0 ++ octet1 k.val ++ octet2 id.toNat
          | .routine k => octet1 1 ++ octet1 k.val ++ octet2 0
          | .craneOnly => octet1 2 ++ octet1 255 ++ octet2 0))

/-- R109, R123, R166: the data of READ_CRANE with selector 2. -/
def windOctets (w : WindRecord) : List Byte :=
  octet1 (match w.state with | .calm => 0 | .alert => 1 | .stop => 2 | .vanePending => 3 | .vane => 4)
    ++ octet1 w.stopCount ++ octet1 w.alertCount ++ octet1 w.calmCount
    ++ octet2 (w.recovery.getD 0) ++ octet2 (w.vaneDelay.getD 0) ++ bitsOctet [w.vaneWait]
    ++ octet2 (w.vaneTimeout.getD 0)
    ++ orOpen (w.seqRef.map (·.toNat)) ++ bitsOctet [w.excursion] ++ octet1 w.fine.base.val ++ octet1 w.fine.fill
    ++ octet2 w.accSum ++ octet1 w.accCount ++ octet1 w.coarse.base.val ++ octet1 w.coarse.fill
    ++ octet2 (w.ownStale.getD 0) ++ octet1 (if w.fresh = true then 0 else 1) ++ orOpen w.ownGust ++ orOpen w.ownMean
    ++ (match w.source with
        | .none => octet1 0 ++ octet1 255
        | .own => octet1 1 ++ octet1 255
        | .borrowed l => octet1 2 ++ octet1 l.val)

/-- R139, R166: the data of READ_CRANE with selector 3. -/
def permitOctets (r : PermitRecord) : List Byte :=
  signed2 r.demand.slew ++ signed2 r.demand.trolley ++ signed2 r.demand.hoist ++ bitsOctet [r.demandStale]
    ++ orOpen (r.seqRef.map (·.toNat)) ++ octet1 r.echoed.toNat ++ octet2 (r.timeout.getD 0)
    ++ octet1 (r.refresh.getD 0) ++ octet1 r.seq.toNat
    ++ signed2 r.last.slew ++ signed2 r.last.trolley ++ signed2 r.last.hoist

/-- R166: the data of READ_SECTOR, by its table. -/
def sectorEntryOctets (r : SectorRecord) (e : SectorEntry) : List Byte :=
  let base := match e.base with | .free => 0 | .held _ _ => 1 | .clearing _ _ _ => 2 | .contested => 3
  let locked : Prop := e.locks ≠ []
  let place (q : Option QueueEntry) : List Byte := match q with
    | none => octet1 255 ++ octet1 0 ++ octet1 0
    | some q => octet1 q.crane.val ++ octet1 q.keep ++ bitsOctet [q.resume]
  let grant (g : Grant) : List Byte :=
    (match g.kind with | .routine => octet1 0 ++ octet2 0 | .booked id => octet1 1 ++ octet2 id.toNat)
      ++ octet1 g.sliceLeft ++ octet2 (g.hold.getD 0) ++ bitsOctet [g.expired]
      ++ octet1 (match g.yielding with | none => 0 | some .slice => 1 | some .booking => 2) ++ bitsOctet [g.overstay]
  let noGrant : List Byte := octet1 255 ++ octet2 0 ++ octet1 0 ++ octet2 0 ++ octet1 0 ++ octet1 0 ++ octet1 0
  bitsOctet [r.enabled] ++ octet1 (match r.clash with | .jib => 0 | .hook => 1)
    ++ orNone r.members[0]? ++ orNone r.members[1]? ++ orNone r.members[2]? ++ orNone r.members[3]?
    ++ octet2 r.clearingTime ++ octet2 r.holdLimit ++ octet1 r.slice
    ++ octet1 (if e.closed = true then 5 else if locked then 4 else base) ++ octet1 base
    ++ (match e.base with
        | .held h g => octet1 h.val ++ grant g ++ octet2 0
        | .clearing f g left => octet1 f.val ++ grant g ++ octet2 left
        | .free => octet1 255 ++ noGrant ++ octet2 0
        | .contested => octet1 255 ++ noGrant ++ octet2 0)
    ++ place e.queue[0]? ++ place e.queue[1]? ++ place e.queue[2]?
    ++ orNone e.locks[0]? ++ orNone e.locks[1]? ++ orNone e.locks[2]? ++ orNone e.locks[3]?
    ++ octet1 (maskOf e.presence) ++ octet1 (maskOf e.obstruction)
    ++ (match e.claimant with
        | none => octet2 0 ++ octet1 255
        | some cl => octet2 cl.booking.toNat ++ octet1 cl.crane.val)

/-- R91, R108: the data of READ_BOOKING. -/
def bookingEntryOctets (b : Booking) (owns : Bool) : List Byte :=
  octet2 b.id.toNat ++ octet1 b.crane.val ++ octet1 b.sector.val ++ octet4 b.start ++ octet4 b.stop ++ octet1 b.quota
    ++ octet1 (match b.cls with | .planned => 0 | .critical => 1) ++ octet2 b.maxLoad
    ++ octet1 (match b.state with
        | .waiting => 0 | .active => 1 | .suspended => 2 | .exhausted => 3 | .expired => 4 | .cancelled => 5)
    ++ octet2 b.done
    ++ octet1 (match b.cause with
        | .add => 0 | .window => 1 | .clock => 2 | .crane => 3 | .mode => 4 | .quota => 5 | .cancel => 6 | .table => 7)
    ++ bitsOctet [owns]

/-! ### Frames and their check (R151) -/

/-- R151: one octet taken into the CRC register: it is exclusive-ored into the high eight bits, and the register is shifted
left eight times, with 1021h exclusive-ored in wherever the bit shifted out was 1. -/
def crcTakes (register : BitVec 16) (b : Byte) : BitVec 16 :=
  (List.range 8).foldl (fun r _ => if r.msb = true then (r <<< 1) ^^^ 0x1021#16 else r <<< 1)
    (register ^^^ (b ++ 0x00#8))

/-- R151: the octets of a frame: SYNC, KIND, LEN, the payload, and the CRC over KIND, LEN and the payload, high octet
first. -/
def frameOf (kind : Byte) (payload : List Byte) : List Byte :=
  let check := ([kind, BitVec.ofNat 8 payload.length] ++ payload).foldl crcTakes 0xFFFF#16
  [0xC3#8, kind, BitVec.ofNat 8 payload.length] ++ payload ++ [check.extractLsb' 8 8, check.extractLsb' 0 8]

/-! ### Frames sent (R146, R159) -/

/-- R146, R159: the 17 octets of a PERMIT frame's payload. -/
def permitFrame (p : Permit) : List Byte :=
  let reason (r : Reason) : List Byte := octet1 ([.none, .site, .posn, .wind, .exit, .sect, .book, .zone].idxOf r)
  let order : List Advice := [.hold, .position, .vane, .parkForVane, .windStop, .evacuate, .yield, .overstay, .waitSector,
    .booked, .windAlert, .none]
  [p.echoed, p.seq] ++ signed2 p.speeds.slew ++ signed2 p.speeds.trolley ++ signed2 p.speeds.hoist
    ++ reason p.reasons.slew ++ reason p.reasons.trolley ++ reason p.reasons.hoist
    ++ bitsOctet [p.vaneRelease, p.noPick, p.demandStale] ++ octet1 (order.idxOf p.advice + 1) ++ orNone p.adviceSector
    ++ octet1 (32 * (match p.windState with | .calm => 0 | .alert => 1 | .stop => 2 | .vanePending => 3 | .vane => 4)
        + (match p.source with | .none => 0 | .own => 8 | .borrowed l => 16 + l.val))
    ++ octet2 p.gust

/-- R159: the payload of a REPLY frame. -/
def replyFrame (r : Reply) : List Byte :=
  let order : List Result := [.ok, .notInConfig, .notArmed, .wrongState, .badValue, .badIndex, .tableFull, .duplicateId,
    .noSuchId, .pastWindow, .checkFailed, .windHigh, .notParked, .vaneActive, .noData]
  [r.tag, r.operation] ++ octet1 (order.idxOf r.result) ++ octet2 r.locator.toNat ++ r.data

/-- R159: the 12 octets of an EVENT frame's payload. -/
def eventFrame (e : EventRecord) (overflow : Bool) : List Byte :=
  let order : List EventKind := [.started, .armed, .disarmed, .positionLost, .positionRegained, .range, .intrusion,
    .contested, .grant, .release, .evacuate, .overstay, .yield, .lift, .bookingState, .bookedOverload, .windState,
    .windSource, .vaneReleased, .vaneBlocked, .resumed, .siteHold]
  octet1 ((if overflow = true then 128 else 0) + (if e.clockUnset = true then 64 else 0) + order.idxOf e.body.kind)
    ++ octet1 (16 * ((e.body.sector.map (·.val)).getD 0) + (e.body.crane.map (·.val)).getD 0)
    ++ octet2 e.body.argA.toNat ++ octet2 e.body.argB.toNat ++ octet2 e.body.argC.toNat ++ octet4 e.time.toNat

/-! ### What every step keeps -/

/-- R162, R167: the queues stay within their sizes. -/
def State.QueuesBounded (s : State) : Prop := s.events.length ≤ 32 ∧ s.replies.length ≤ 4

/-- R91, R101: the booking table stays within its size, no two entries hold one id, and lifts done never exceeds a
nonzero quota, with EXHAUSTED when they are equal. -/
def State.BookingsSound (s : State) : Prop :=
  s.bookings.length ≤ 64 ∧ (s.bookings.map (·.id)).Nodup ∧
  ∀ b ∈ s.bookings, b.quota ≠ 0 → b.done ≤ b.quota ∧ (b.done = b.quota → b.state = .exhausted)

/-- R109, R113, R114, R117: fills within the rings, the accumulator within its ranges, and the own figures and the
stale timer there exactly while the own source is fresh. -/
def WindRecord.Sound (w : WindRecord) : Prop :=
  w.fine.fill ≤ 16 ∧ w.coarse.fill ≤ 64 ∧ w.accCount ≤ 63 ∧ w.accSum ≤ 600 * w.accCount ∧
  w.ownStale.isSome = w.fresh ∧ w.ownGust.isSome = w.fresh ∧ w.ownMean.isSome = w.fresh

/-- Every crane's wind record is sound, and the accumulator of a present crane with a valid profile holds fewer samples
than a block (R114). -/
def State.WindsSound (s : State) : Prop :=
  ∀ c, (s.windOf c).Sound ∧
    ((s.crane c).present = true → profileValid (s.profileOf c) = true →
      (s.windOf c).accCount < (s.profileOf c).blockLength)

/-- R54, R78: a disabled sector's entry is at its reset values, and in CONFIG every entry is FREE with nothing
queued, locked or closed. -/
def State.SectorsIdle (s : State) : Prop :=
  (∀ k, (s.sector k).enabled = false → s.entry k = .reset) ∧
  (s.mode = .config → ∀ k, (s.entry k).base = .free ∧ (s.entry k).queue = [] ∧ (s.entry k).locks = [] ∧
    (s.entry k).closed = false)

/-- R23, last table: NONE and LOST have no timer, an open reference and no presence; TRACKED and DEGRADED have a
running timer, a reference and no obstruction. -/
def PositionRecord.Sound (p : PositionRecord) : Prop :=
  (locatedState p.state = false → p.stale = none ∧ p.seqRef = none ∧ p.present = none) ∧
  (locatedState p.state = true → p.stale.isSome = true ∧ p.seqRef.isSome = true ∧ p.obstructed = [])

/-- Every crane's position record is sound. -/
def State.PositionsSound (s : State) : Prop := ∀ c, (s.position c).Sound

/-- Three speeds between -1000 and 1000. -/
def PerAxis.WithinThousand (x : PerAxis Int) : Prop :=
  x.slew.natAbs ≤ 1000 ∧ x.trolley.natAbs ≤ 1000 ∧ x.hoist.natAbs ≤ 1000

/-- R139, R142, R149: demands and permitted speeds in range; the refresh timer runs exactly for present cranes,
and an absent crane's demand timeout is stopped. -/
def State.PermitsSound (s : State) : Prop :=
  ∀ c, (s.permit c).demand.WithinThousand ∧ (s.permit c).last.WithinThousand ∧
    (s.permit c).refresh.isSome = (s.crane c).present ∧
    ((s.crane c).present = false → (s.permit c).timeout = none)

/-- R57, R61: no crane stands twice in a request queue, and the holder does not stand in it. R55, R73: an entry that is
closed or has lock requests has no holder, no former holder and no grant record. -/
def SectorEntry.Sound (e : SectorEntry) : Prop :=
  (e.queue.map (·.crane)).Nodup ∧ (∀ h, holderOf e = some h → h ∉ e.queue.map (·.crane)) ∧
  (e.closed = true ∨ e.locks ≠ [] → ownerOf e = none ∧ grantOf e = none)

/-- Every sector's entry is sound. -/
def State.EntriesSound (s : State) : Prop := ∀ k, (s.entry k).Sound

/-- R79, R81 to R87: the run count within the longest debounce, everything of a cycle at rest in UNLOADED, no run in
LOADED, and the overload standing in PICKING and LOADED only, once its event has been raised. -/
def Detector.Sound (d : Detector) : Prop :=
  d.run ≤ 16 ∧ (d.state = .unloaded → d.run = 0 ∧ d.peak = 0 ∧ d.reported = false) ∧
  (d.state = .loaded → d.run = 0) ∧
  (d.overload = true → (d.state = .picking ∨ d.state = .loaded) ∧ d.reported = true)

/-- Every crane's load debounce is in its range (R4), and its detector is sound. -/
def State.DetectorsSound (s : State) : Prop := ∀ c, (s.crane c).debounce ≤ 15 ∧ (s.detector c).Sound

end Sys2Proof.Machine
end

