-- ==== Sys2Proof/Certificates/Slice0/Obligations.lean ====
section
/-! DEFINITION. The statements for the provers. Unless one says otherwise, a command is taken by a quiet device
(`State.Ready`: no notice in flight, and nothing for the site transmitter to begin), and a request finds room in the
reply queue (`State.Room`); CommandsMeetAQuietDevice says what a command meets otherwise, and RequestsRefused what
becomes of a request without room. CraneTermsMean and SectorTermsMean say what the terms mean that the others use. -/

open Sys2Proof Sys2Proof.Machine

/-! ### Steps, reset and what every step keeps -/

/-- The step takes the command at the front of the queue and runs it with the queue's rest (the task's rule for a
block; 95_what_each_step_holds). -/
def Obligations.StepRunsFrontCommand : Prop :=
  ∀ (c : Instr) (s : State) (rest : List Instr),
    step { s with pending := c :: rest } = exec c { s with pending := rest }

/-- Outside reset, a command that finds work waiting, notices in flight or a frame that an idle site transmitter has
to begin, has the effect it has once that work has been done, piece by piece, until none waits or the bound of log 1 is
reached; where none waits the device is quiet, with the same commands waiting. In reset, every command but the reset's
own does nothing. With no command waiting a step does one piece of that work, and nothing where none waits. A notice
is an event of its own when it is a frame, an expiry, the second, a change of SITE HOLD or the end of a tick's work. To
take a notice is to take the command of the same name: a frame's is the frame, or the request that its operation code
names; an expiry whose timer does not stand at 0, or does not run, is nothing, and so is the end of a tick's work. All
of it is the model's choice (logs 1, 3, 4, 13, 23 and 26). -/
def Obligations.CommandsMeetAQuietDevice : Prop :=
  (∀ (c : Instr) (s : State), (∀ trigger, c ≠ .deviceReset trigger) → c ≠ .resetEnd →
    (s.inReset = none → (settle s).inFlight = [] → (settle s).NothingToBegin →
      exec c s = exec c (settle s) ∧ (settle s).Ready ∧ (settle s).pending = s.pending) ∧
    (s.inReset ≠ none → exec c s = .next s)) ∧
  (∀ s : State, ∃ pieces, pieces ≤ Config.noticeBound ∧ s.WorksFor pieces (settle s) ∧
    (pieces < Config.noticeBound → (settle s).inFlight = [] ∧ (settle s).NothingToBegin)) ∧
  (∀ s : State, s.pending = [] →
    (s.inFlight = [] → s.NothingToBegin → step s = .next s) ∧ (∀ t, s.Works t → step s = .next t)) ∧
  (∀ n, opensEvent n = true ↔ n.Opens) ∧
  (∀ (s : State) (e : Expiry), s.due e = true ↔ s.RunOut e) ∧
  (∀ s : State, s.Ready →
    (∀ n c, noticeCommand n = some c → (∀ f, n ≠ .frame f) → (∀ e, n = .expiry e → s.RunOut e) →
      exec c s = .next (takeNotice n s)) ∧
    (∀ e, ¬ s.RunOut e → takeNotice (.expiry e) s = s) ∧
    (∀ f, exec (frameCommand f) s = .next (takeNotice (.frame f) (s.hunting f.link))) ∧
    takeNotice .tickDone s = s)

/-- R169, R173: what begins a reset and what ends it. A reset abandons everything but the commands that wait; power
below range at any time during it makes its cause POWER_ON; when it ends every state has its value after device reset
and STARTED is the first event. A pulse shorter than 1 us begins a reset or is ignored. That the commands that wait
and the count of short pulses outlast a reset, and that the state in reset already has the values after it, is the
model's (logs 18, 10 and 13). -/
def Obligations.ResetBeginsAndEnds : Prop :=
  ∀ s : State,
    exec (.deviceReset .powerOn) s =
      .next { State.cleared with
        inReset := some .powerOn, pending := s.pending, shortPulses := s.shortPulses } ∧
    (∀ ns, 1000 ≤ ns →
      exec (.deviceReset (.pinLow ns)) s =
        .next { State.cleared with
          inReset := some (if s.inReset = some .powerOn then .powerOn else .pin),
          pending := s.pending, shortPulses := s.shortPulses }) ∧
    (∀ ns, ns < 1000 →
      exec (.deviceReset (.pinLow ns)) s = .next { s with shortPulses := s.shortPulses + 1 } ∨
      exec (.deviceReset (.pinLow ns)) s =
        .next { State.cleared with
          inReset := some (if s.inReset = some .powerOn then .powerOn else .pin),
          pending := s.pending, shortPulses := s.shortPulses + 1 }) ∧
    (∀ cause, s.inReset = some cause →
      exec .resetEnd s =
        .next { State.reset with
          events := [{ body := { kind := .started, crane := none, sector := none,
                                 argA := if cause = .powerOn then 0 else 1, argB := 0, argC := 0 },
                       time := 0, clockUnset := true }],
          pending := s.pending, shortPulses := s.shortPulses })

/-- The values after device reset that the chapters give: R4, R7, R10, R13, R15, R16, R18, R54, R79, R91, R109, R123,
R139, R148, R152, R154, R160, R162, R165, R167, R168, R171, R172. That no value of a booking, a segment or an event but
STARTED exists then follows from the empty lists; the level of HOLD_N before the first sample is the model's choice
(log 9) and not stated here. -/
def Obligations.ResetLeavesEveryValue : Prop :=
  (∀ c, State.reset.crane c =
      { present := false, slewOffset := 0, jib := 0, parkRadius := 0, parkHeight := 0, profile := 0,
        beaconLine := none, slew := ⟨0, 0, 0⟩, trolley := ⟨0, 0, 0⟩, hoist := ⟨0, 0, 0⟩, pick := 0, setDown := 0,
        debounce := 0 } ∧
    State.reset.zone c = []) ∧
  (∀ k, State.reset.sector k =
    { enabled := false, clash := .jib, members := [], clearingTime := 0, holdLimit := 0, slice := 0 }) ∧
  (∀ p, profileValid (State.reset.profile p) = false ∧
    State.reset.profile p =
      { gustWindow := 0, blockLength := 0, meanBlocks := 0, alertOn := 0, alertOff := 0, stopGust := 0, stopMean := 0,
        stopOff := 0, debounce := 0, recovery := 0, vaneMode := .manual, vaneDelay := 0, vaneTimeout := 0,
        alertCaps := ⟨0, 0, 0⟩, stopCaps := ⟨0, 0, 0⟩ }) ∧
  (∀ cond, patternOf State.reset.patterns cond = { on := 0, off := 0, scale := 1 }) ∧
  State.reset.site =
    { tickDivisor := 160000, positionStale := 30, windStale := 300, demandTimeout := 25, permitRefresh := 10,
      keepTime := 30 } ∧
  (∀ c, State.reset.position c =
    { state := .none, seqRef := none, slewOk := false, trolleyOk := false, hoistOk := false, loadOk := false,
      angle := 0, radius := 0, height := 0, load := 0, radiusMark := false, heightMark := false,
      loadMark := false, stale := none, present := none, obstructed := [] }) ∧
  (∀ k, State.reset.entry k =
    { base := .free, queue := [], locks := [], closed := false, presence := [], obstruction := [],
      claimant := none }) ∧
  (∀ c, State.reset.detector c =
    { state := .unloaded, run := 0, peak := 0, lifts := 0, overload := false, reported := false,
      lastLift := none }) ∧
  State.reset.bookings = [] ∧
  (∀ c, State.reset.windOf c =
      { seqRef := none, excursion := false, fine := { (State.reset.windOf c).fine with base := 15, fill := 0 },
        accSum := 0, accCount := 0, coarse := { (State.reset.windOf c).coarse with base := 63, fill := 0 },
        ownStale := none, fresh := false, ownGust := none, ownMean := none, source := .none, state := .stop,
        stopCount := 0, alertCount := 0, calmCount := 0, recovery := none, vaneDelay := none, vaneWait := false,
        vaneTimeout := none } ∧
    (∀ i, (State.reset.windOf c).fine.slots.read i = 0) ∧ (∀ i, (State.reset.windOf c).coarse.slots.read i = 0)) ∧
  (∀ c, State.reset.permit c =
    { demand := ⟨0, 0, 0⟩, demandStale := true, seqRef := none, echoed := 0, timeout := none, refresh := none,
      seq := 255, last := ⟨0, 0, 0⟩ }) ∧
  (∀ c, State.reset.slot c = { transmit := none, waiting := none }) ∧
  (∀ l, State.reset.receiver l = { state := .hunt, store := [] } ∧
    State.reset.counter l = { crc := 0, length := 0, misdirected := 0 }) ∧
  State.reset.mode = .config ∧ State.reset.clock = 0 ∧ State.reset.clockSet = false ∧
  State.reset.replies = [] ∧ State.reset.overflow = false ∧ (∀ kind, State.reset.reports kind = true) ∧
  State.reset.assembly = none ∧ State.reset.transmitter = none ∧ State.reset.hold = false ∧
  (∀ n, State.reset.lineHigh n = false ∧ (State.reset.generator n).driver = none)

/-- The invariants below hold after device reset, and it leaves no notice in flight. -/
def Obligations.ResetMeetsInvariants : Prop :=
  (State.reset.inReset = none ∧ State.reset.inFlight = []) ∧ State.reset.QueuesBounded ∧ State.reset.BookingsSound ∧
  State.reset.WindsSound ∧ State.reset.SectorsIdle ∧ State.reset.PositionsSound ∧ State.reset.PermitsSound ∧
  State.reset.EntriesSound ∧ State.reset.DetectorsSound

/-- R162, R167: every step keeps the reply queue within 4 and the event queue within 32. -/
def Obligations.QueuesStayBounded : Prop :=
  ∀ s t : State, s.QueuesBounded → step s = .next t → t.QueuesBounded

/-- R91, R101: every step keeps the booking table within 64 entries of distinct ids, with lifts done below a nonzero
quota until the booking is EXHAUSTED. -/
def Obligations.BookingsStaySound : Prop :=
  ∀ s t : State, s.BookingsSound → step s = .next t → t.BookingsSound

/-- R109, R114, R117, R118: every step keeps the wind records sound, and the accumulator of a present crane with a valid
profile below its block length. -/
def Obligations.WindRecordsStaySound : Prop :=
  ∀ s t : State, s.WindsSound → step s = .next t → t.WindsSound

/-- R54, R78: every step keeps a disabled sector's entry at its reset values, and in CONFIG every entry idle. -/
def Obligations.SectorsStayIdle : Prop :=
  ∀ s t : State, s.SectorsIdle → step s = .next t → t.SectorsIdle

/-- R20, R23, R24, R29: every step keeps each position record as its state calls for. -/
def Obligations.PositionsStaySound : Prop :=
  ∀ s t : State, s.PositionsSound → step s = .next t → t.PositionsSound

/-- R35, R51, R142, R149: every step keeps demands and permitted speeds within 1000, and the refresh timer running
exactly for the present cranes. -/
def Obligations.PermitsStaySound : Prop :=
  ∀ s t : State, s.PermitsSound → step s = .next t → t.PermitsSound

/-- R55, R57, R61, R73: every step keeps every request queue free of repeats and of the sector's holder, and a CLOSED
or LOCKED entry without grant, holder or former holder. -/
def Obligations.SectorEntriesStaySound : Prop :=
  ∀ s t : State, s.EntriesSound → step s = .next t → t.EntriesSound

/-- R79, R82 to R87: every step keeps every detector sound: its run at most 16, nothing counted, peaked or marked in
UNLOADED, no run in LOADED, and the overload standing in PICKING and LOADED only, with its mark set. -/
def Obligations.DetectorsStaySound : Prop :=
  ∀ s t : State, s.DetectorsSound → step s = .next t → t.DetectorsSound

/-- R130, R132, R133, R135, R136, R152: a crane in VANE_PENDING stays in it or goes on to VANE, and a crane in VANE
stays in it, at every step but three: its own RESUME in the ARMED site, given as a command or as a REQUEST frame that
a rescan has found and that is still in flight, which takes it to ALERT, and the beginning and the end of a device
reset. By one command of a quiet device a crane comes into VANE only when no sector keeps it from vaning, and from
VANE_PENDING, or parked in the ARMED site from STOP or by the evaluation that takes it to STOP; it comes into
VANE_PENDING only parked in the ARMED site, from STOP or by such an evaluation. -/
def Obligations.VaneIsLeftByResume : Prop :=
  (∀ (s t : State) (c : Crane), step s = .next t →
    (s.windOf c).state = .vanePending ∨ (s.windOf c).state = .vane →
    ((t.windOf c).state = (s.windOf c).state ∨ (t.windOf c).state = .vane) ∨
    (∃ tag rest, s.pending = .resume tag (octet1 c.val) :: rest ∧ (t.windOf c).state = .alert ∧
      (s.inFlight = [] → s.mode = .armed)) ∨
    (∃ tag, .frame (.request tag 0x33#8 (octet1 c.val)) ∈ s.inFlight ∧
      (s.pending = [] → (t.windOf c).state = .alert ∧ s.mode = .armed)) ∨
    (∃ trigger rest, s.pending = .deviceReset trigger :: rest) ∨ (∃ rest, s.pending = .resetEnd :: rest)) ∧
  (∀ (i : Instr) (s t : State) (c : Crane), s.Ready → exec i s = .next t →
    let sets : Prop := ((s.windOf c).state = .stop ∨ i = .evaluation c) ∧ s.mode = .armed ∧ s.parked c = true
    ((s.windOf c).state ≠ .vane → (t.windOf c).state = .vane →
      (∀ k, ¬ t.BlocksVane c k) ∧ ((s.windOf c).state = .vanePending ∨ sets)) ∧
    ((s.windOf c).state ≠ .vanePending → (t.windOf c).state = .vanePending →
      (s.windOf c).state ≠ .vane ∧ sets))

/-! ### The links (R148 to R156) -/

/-- R5, R20, R111, R140, R151 to R154: on a crane link, a good frame of an absent crane is counted as misdirected and
goes no further; a frame of a present crane whose sequence is not newer than its reference is dropped by its consumer
and counted nowhere. A misdirected frame, a length error and a CRC error are each counted once, staying at 65535, and
the receiver hunts again from the octets stored after the frame's SYNC: with no C3h among them it drops them all; a
KIND of C3h begins a frame of which the LEN is the KIND; a LEN of C3h begins a frame. A good frame that lies whole
among those octets, with no other C3h before or after it, is found by the rescan and handed on; its check is the CRC
of R151. -/
def Obligations.FramesDiscarded : Prop :=
  (∀ (s : State) (c : Crane) (m : MotionFrame) (w : WindFrame) (d : DemandFrame), s.Ready →
      ((s.crane c).present = false → ∀ i ∈ [Instr.motion c m, Instr.wind c w, Instr.demand c d],
        exec i s = .next { s with
          receivers := s.receivers.write (linkOf c) .hunting
          counters := s.counters.write (linkOf c)
            { s.counter (linkOf c) with misdirected := min ((s.counter (linkOf c)).misdirected + 1) 65535 } }) ∧
      ((s.crane c).present = true →
        (∀ q, (s.position c).seqRef = some q → (m.seq - q).toNat = 0 ∨ 128 ≤ (m.seq - q).toNat →
          exec (.motion c m) s = .next (s.hunting (linkOf c))) ∧
        (∀ q, (s.windOf c).seqRef = some q → (w.seq - q).toNat = 0 ∨ 128 ≤ (w.seq - q).toNat →
          exec (.wind c w) s = .next (s.hunting (linkOf c))) ∧
        (∀ q, (s.permit c).seqRef = some q → (d.seq - q).toNat = 0 ∨ 128 ≤ (d.seq - q).toNat →
          exec (.demand c d) s = .next (s.hunting (linkOf c))))) ∧
  (∀ (s : State) (l : Link), s.Ready →
      exec (.misdirectedFrame l) s = .next { s with
        receivers := s.receivers.write l { state := .hunt, store := [] }
        counters := s.counters.write l
          { s.counter l with misdirected := min ((s.counter l).misdirected + 1) 65535 } } ∧
      (∀ kind len : Byte,
        exec (.lengthError l kind len) s = .next { s with
          receivers := s.receivers.write l
            (if kind = 0xC3#8 then { state := .len, store := [kind, len] }
             else if len = 0xC3#8 then { state := .kind, store := [len] }
             else { state := .hunt, store := [] })
          counters := s.counters.write l { s.counter l with length := min ((s.counter l).length + 1) 65535 } }) ∧
      (∀ octets : List Byte, 0xC3#8 ∉ octets →
        exec (.crcError l octets) s = .next { s with
          receivers := s.receivers.write l { state := .hunt, store := [] }
          counters := s.counters.write l { s.counter l with crc := min ((s.counter l).crc + 1) 65535 } }) ∧
      (∀ (kind : Byte) (before payload after : List Byte) (f : GoodFrame),
        0xC3#8 ∉ before → 0xC3#8 ∉ after → acceptsKind l kind = true →
        lengthIsError l kind payload.length = false → readPayload l payload = some f →
        exec (.crcError l (before ++ frameOctets kind payload ++ after)) s = .next { s with
          receivers := s.receivers.write l { state := .hunt, store := [] }
          counters := s.counters.write l { s.counter l with crc := min ((s.counter l).crc + 1) 65535 }
          inFlight := [.frame f] }))

/-- R148: both slots are empty after device reset; a permit handed to the port enters an empty transmit slot, an
empty pending slot behind a frame being sent, or replaces the pending permit; a completion empties the transmit slot
and moves a pending permit into it; a crane made absent has its pending slot emptied and keeps the frame being sent;
a PERMIT frame takes 22 octets. That a completion does nothing on an empty transmit slot is the model's choice
(log 4). -/
def Obligations.PermitSlotsPassPermitsOn : Prop :=
  (∀ c, State.reset.slot c = { transmit := none, waiting := none }) ∧
  (∀ (s : State) (c : Crane) (x : Computation),
    (issue c x s).slot c =
      match (s.slot c).transmit with
      | none => { transmit := some ((issue c x s).assemble c x), waiting := (s.slot c).waiting }
      | some p => { transmit := some p, waiting := some ((issue c x s).assemble c x) }) ∧
  (∀ (s : State) (c : Crane) (p : Permit), s.Ready → (s.slot c).transmit = some p →
    exec (.permitSendCompletion c) s =
      .next { s with slots := s.slots.write c { transmit := (s.slot c).waiting, waiting := none } }) ∧
  (∀ (s : State) (c : Crane), s.Ready → (s.slot c).transmit = none → exec (.permitSendCompletion c) s = .next s) ∧
  (∀ (s : State) (c : Crane) (tag : Byte) (others : List Byte), s.Ready → s.Room → s.mode = .config →
    (s.crane c).present = true → others.length = 28 →
    ∃ t, exec (.writeCrane tag (octet1 c.val ++ octet1 0 ++ others)) s = .next t ∧
      t.slot c = { transmit := (s.slot c).transmit, waiting := none }) ∧
  (∀ (s : State) (c : Crane) (line : List Byte), s.craneLine c = some line → line.length = 22)

/-- R156, R162, R167: an idle site transmitter begins the oldest reply, otherwise the oldest event record, which takes
the overflow flag with it, before any command has its effect; the completion of a frame takes its reply or record out
of the head of its queue. That it begins at once, and not at a command of its own, that SITE_TRANSMIT_BEGIN then has
nothing left to do, and that a completion without its frame does nothing, is the model's choice (log 4). -/
def Obligations.SiteTransmitterSends : Prop :=
  ∀ s : State, s.inReset = none → s.inFlight = [] →
    let begins (t : State) : Prop :=
      exec .siteTransmitBegin s = .next t ∧
      ∀ c : Instr, (∀ trigger, c ≠ .deviceReset trigger) → c ≠ .resetEnd → exec c s = exec c t
    (∀ r rest, s.transmitter = none → s.replies = r :: rest → begins { s with transmitter := some (.reply r) }) ∧
    (∀ e rest, s.transmitter = none → s.replies = [] → s.events = e :: rest →
      begins { s with transmitter := some (.event e s.overflow), overflow := false }) ∧
    (s.transmitter ≠ none ∨ (s.replies = [] ∧ s.events = []) →
      exec .siteTransmitBegin s = .next s ∧
      (∀ r r' rest, s.transmitter = some (.reply r) → s.replies = r' :: rest →
        exec .replyFrameCompletion s = .next { s with replies := rest, transmitter := none }) ∧
      (∀ e v e' rest, s.transmitter = some (.event e v) → s.events = e' :: rest →
        exec .eventFrameCompletion s = .next { s with events := rest, transmitter := none }) ∧
      ((∀ r, s.transmitter ≠ some (.reply r)) → exec .replyFrameCompletion s = .next s) ∧
      ((∀ e v, s.transmitter ≠ some (.event e v)) → exec .eventFrameCompletion s = .next s))

/-- R150, R151, R155, R157, R159: on a line an octet is a low start bit, eight data bits with the least significant first, and a
high stop bit, and a frame is its octets back to back; a line is high while it sends nothing and after its frame, and
a PERMIT frame takes 220 bit times. A receiver takes every octet, whatever the level of its stop bit and however long
the line stood high before it, and nothing of an octet still on its way; a good frame that reaches a hunting receiver
in two parts, split anywhere and with any gaps in it, is handed on whole. The fields of every frame stand where the
tables of R159 put them: PERMIT, REPLY and EVENT as they are sent, MOTION, WIND, DEMAND and REQUEST as they are read,
with the bits of a status octet that the layout does not name ignored, and each kind in its length; a field of several
octets has its most significant octet first, and a signed one is in two's complement. A frame is SYNC, KIND, LEN, the
payload and the CRC of R151. That after a low stop bit the next low level
is a start bit is the model's choice, and no bit time is measured (log 17). -/
def Obligations.LinesCarryOctets : Prop :=
  let carries (level : Nat → Bool) (line : Option (List Byte)) : Prop :=
    (line = none → ∀ bit, level bit = true) ∧
    (∀ octets, line = some octets →
      (∀ bit, 10 * octets.length ≤ bit → level bit = true) ∧
      (∀ i b, octets[i]? = some b → level (10 * i) = false ∧ level (10 * i + 9) = true ∧
        ∀ j, j < 8 → level (10 * i + 1 + j) = b.getLsbD j))
  let spoken (xs : List (Nat × Byte × Bool)) : List Bool :=
    xs.flatMap (fun x => List.replicate x.1 true ++ false :: (List.range 8).map x.2.1.getLsbD ++ [x.2.2])
  (∀ s : State, (∀ c, carries (s.craneLevel c) (s.craneLine c)) ∧ carries s.siteLevel s.siteLine ∧
    ∀ c octets, s.craneLine c = some octets → octets.length = 22) ∧
  (∀ (xs : List (Nat × Byte × Bool)) (tail : List Bool), tail.length < 10 →
    octetsHeard (spoken xs ++ tail) = xs.map (·.2.1)) ∧
  (∀ (s : State) (l : Link) (kind : Byte) (payload : List Byte) (f : GoodFrame) (xs ys : List (Nat × Byte × Bool)),
    s.receiver l = { state := .hunt, store := [] } → acceptsKind l kind = true →
    lengthIsError l kind payload.length = false → readPayload l payload = some f →
    (xs ++ ys).map (·.2.1) = frameOctets kind payload → ys ≠ [] →
    hearLevels l (spoken ys) (hearLevels l (spoken xs) s) = { s with inFlight := s.inFlight ++ [.frame f] }) ∧
  (∀ s : State,
    (∀ c, s.craneLine c = (s.slot c).transmit.map (fun p => frameOctets 0x31#8 (permitFrame p))) ∧
    (s.transmitter = none → s.siteLine = none) ∧
    (∀ r, s.transmitter = some (.reply r) → s.siteLine = some (frameOctets 0x51#8 (replyFrame r))) ∧
    (∀ e v, s.transmitter = some (.event e v) → s.siteLine = some (frameOctets 0x52#8 (eventFrame e v)))) ∧
  (∀ (c : Crane) (kind : Byte) (n : Nat),
    (acceptsKind (linkOf c) kind = true ↔ kind = 0x21#8 ∨ kind = 0x22#8 ∨ kind = 0x23#8) ∧
    (acceptsKind siteLink kind = true ↔ kind = 0x41#8) ∧
    (lengthIsError (linkOf c) kind n = false ↔
      n ≤ 48 ∧ (kind = 0x21#8 → n = 10) ∧ (kind = 0x22#8 → n = 4) ∧ (kind = 0x23#8 → n = 7)) ∧
    (lengthIsError siteLink kind n = false ↔ n ≤ 48 ∧ (kind = 0x41#8 → 2 ≤ n))) ∧
  (∀ (c : Crane) (seq status tag operation : Byte) (w x y z : Half) (operands : List Byte),
    let two (v : Half) : List Byte := octet2 v.toNat
    readPayload (linkOf c) ([seq] ++ two w ++ two x ++ two y ++ two z ++ [status]) =
      some (.motion c
        { seq := seq, rawAngle := w, radius := x, height := y, load := z, slewOk := status.getLsbD 0,
          trolleyOk := status.getLsbD 1, hoistOk := status.getLsbD 2, loadOk := status.getLsbD 3 }) ∧
    readPayload (linkOf c) ([seq] ++ two w ++ [status]) =
      some (.wind c { seq := seq, speed := w, anemometerOk := status.getLsbD 0 }) ∧
    readPayload (linkOf c) ([seq] ++ two w ++ two x ++ two y) =
      some (.demand c { seq := seq, slew := w, trolley := x, hoist := y }) ∧
    readPayload siteLink (tag :: operation :: operands) = some (.request tag operation operands)) ∧
  (∀ octets kind payload, crcOf octets = octets.foldl crcTakes 0xFFFF#16 ∧
    frameOctets kind payload = frameOf kind payload) ∧
  (∀ n : Nat,
    (n < 256 → ∃ a, octet1 n = [a] ∧ a.toNat = n) ∧
    (n < 65536 → ∃ a b, octet2 n = [a, b] ∧ 256 * a.toNat + b.toNat = n) ∧
    (n < 4294967296 → ∃ a b c d, octet4 n = [a, b, c, d] ∧
      16777216 * a.toNat + 65536 * b.toNat + 256 * c.toNat + d.toNat = n)) ∧
  (∀ i : Int, -32768 ≤ i → i ≤ 32767 → ∃ a b, signed2 i = [a, b] ∧
    (256 * a.toNat + b.toNat : Int) = if i < 0 then i + 65536 else i)

/-! ### Requests (R158, R161) -/

/-- R1, R158, R161: a request that finds 4 replies waiting is discarded whole: it changes nothing but the receiver,
which hunts again. With room, an unknown operation code, and operands of the wrong count, are answered BAD_VALUE with
locator 0000h and no data, the tag and the code repeated, and nothing else changes. Operands of WRITE_SEGMENTS that
are not 3 octets and 7 for each segment are the wrong count: that reading, which keeps the assembly, is the model's
(log 8). In ARMED every table write of the right operand count is refused with NOT_IN_CONFIG whatever its operands
hold; a refused part of WRITE_SEGMENTS discards the assembly. -/
def Obligations.RequestsRefused : Prop :=
  ∀ (s : State) (tag operation : Byte) (operands : List Byte), s.Ready →
    (∀ i, asRequest i = some (tag, operation, operands) → 4 ≤ s.replies.length →
      exec i s = .next (s.hunting siteLink)) ∧
    (s.Room →
      exec (.unknownOperationCode tag operation operands) s = .next (s.answered tag operation .badValue []) ∧
      (∀ i n, asRequest i = some (tag, operation, operands) → operandCount operation = some n →
        operands.length ≠ n → exec i s = .next (s.answered tag operation .badValue [])) ∧
      (operands.length < 3 ∨ (operands.length - 3) % 7 ≠ 0 →
        exec (.writeSegments tag operands) s = .next (s.answered tag 0x03#8 .badValue []))) ∧
    (s.Room → s.mode = .armed →
      (operands.length = 12 →
        exec (.writeSite tag operands) s = .next (s.answered tag 0x01#8 .notInConfig [])) ∧
      (operands.length = 30 →
        exec (.writeCrane tag operands) s = .next (s.answered tag 0x02#8 .notInConfig [])) ∧
      (operands.length = 13 →
        exec (.writeSector tag operands) s = .next (s.answered tag 0x04#8 .notInConfig [])) ∧
      (operands.length = 34 →
        exec (.writeProfile tag operands) s = .next (s.answered tag 0x05#8 .notInConfig [])) ∧
      (operands.length = 4 →
        exec (.writePattern tag operands) s = .next (s.answered tag 0x06#8 .notInConfig [])) ∧
      (3 ≤ operands.length → (operands.length - 3) % 7 = 0 →
        exec (.writeSegments tag operands) s =
          .next { s.answered tag 0x03#8 .notInConfig [] with assembly := none }))

/-! ### The site model (R1 to R17) -/

/-- R16, R168: in CONFIG, WRITE_SITE stores the six site parameters when each lies in its range, and otherwise refuses
the whole set with BAD_VALUE; it does not change the mask. Every kind is reported after device reset; SET_MASK, in
either mode and whatever its operand, gives bit n for kind n and ignores bits 22 to 31; a posting of a masked kind has
no effect; one of a reported kind is appended with the site clock and the clock's state up to 32 records, and beyond
them dropped with the overflow flag set. -/
def Obligations.SiteParametersAndMaskSet : Prop :=
  (∀ (s : State) (tag : Byte) (p : SiteParams), s.Ready → s.Room → s.mode = .config →
    (p.InRange →
      exec (.writeSite tag (siteOctets p)) s = .next { s.answered tag 0x01#8 .ok [] with site := p }) ∧
    (¬ p.InRange → p.tickDivisor < 4294967296 → p.positionStale < 65536 → p.windStale < 65536 →
      p.demandTimeout < 65536 → p.permitRefresh < 256 → p.keepTime < 256 →
      exec (.writeSite tag (siteOctets p)) s = .next (s.answered tag 0x01#8 .badValue []))) ∧
  (∀ kind, State.reset.reports kind = true) ∧
  (∀ (s : State) (tag : Byte) (m : BitVec 32), s.Ready → s.Room →
    exec (.setMask tag (octet4 m.toNat)) s =
      .next { s.answered tag 0x13#8 .ok [] with mask := m.truncate 22 }) ∧
  (∀ (s : State) (m : BitVec 32) (kind : EventKind),
    ({ s with mask := m.truncate 22 } : State).reports kind = m.getLsbD (eventCode kind)) ∧
  (∀ (s : State) (b : EventBody), s.Ready → s.reports b.kind = false → exec (.eventPosting b) s = .next s) ∧
  (∀ (s : State) (b : EventBody), s.Ready → s.reports b.kind = true →
    (s.events.length < 32 →
      exec (.eventPosting b) s =
        .next { s with events := s.events ++ [{ body := b, time := s.clock, clockUnset := !s.clockSet }] }) ∧
    (32 ≤ s.events.length → exec (.eventPosting b) s = .next { s with overflow := true })) ∧
  (∀ (s t : State) (tag : Byte) (operands : List Byte), s.Ready → exec (.writeSite tag operands) s = .next t →
    t.mask = s.mask)

/-- R3, R4, R13: in CONFIG, WRITE_PROFILE stores a valid profile and restarts the counting of every crane whose record
names it, an absent crane's record naming profile 0: its accumulator and its three counts return to 0, and nothing else
of its wind record changes. A profile that would not be valid is refused with BAD_VALUE, a profile number above 3 with
BAD_INDEX. -/
def Obligations.ProfileWritten : Prop :=
  ∀ (s : State) (tag : Byte) (n : ProfileNo) (p : WindProfile), s.Ready → s.Room → s.mode = .config →
    (p.InRange →
      ∃ t, exec (.writeProfile tag (profileOctets n p)) s = .next t ∧
        t = { s.answered tag 0x05#8 .ok [] with profiles := s.profiles.write n p, winds := t.winds } ∧
        (∀ c, t.windOf c =
          if (s.crane c).profile = n then
            { s.windOf c with accSum := 0, accCount := 0, stopCount := 0, alertCount := 0, calmCount := 0 }
          else s.windOf c)) ∧
    (¬ p.InRange → p.Fits →
      exec (.writeProfile tag (profileOctets n p)) s = .next (s.answered tag 0x05#8 .badValue [])) ∧
    (∀ (m : Nat) (others : List Byte), 3 < m → m < 256 → others.length = 33 →
      exec (.writeProfile tag (octet1 m ++ others)) s = .next (s.answered tag 0x05#8 .badIndex []))

/-- R2, R3, R4, R30, R31, R89, R119, R120, R139, R171: in CONFIG, WRITE_CRANE with the present field yes stores the
record and recomputes the crane's presence from its held position, each sector whose standing it changes being sent
its report; its wind counting and its detector's run start afresh. If it was absent, its permit record starts afresh,
and every present crane's source is selected again, the changes raising their WIND_SOURCE events and being evaluated;
if it was present, its permit record is kept and no source changes. Every line has the driver R171 gives it: one whose
driver or condition changes restarts, and any other is left as it runs. A field out of range is refused with BAD_VALUE, a crane above 7 with BAD_INDEX. -/
def Obligations.CraneWritten : Prop :=
  ∀ (s : State) (tag : Byte) (c : Crane) (r : CraneRecord), s.Ready → s.Room → s.mode = .config →
    (r.InRange →
      ∃ t, exec (.writeCrane tag (craneOctets c r)) s = .next t ∧
        t = { s.answered tag 0x02#8 .ok [] with
              cranes := s.cranes.write c r
              positions := s.positions.write c
                { s.position c with present := t.presenceOf c, obstructed := t.obstructedBy c }
              detectors := s.detectors.write c { s.detector c with run := 0 }
              winds := t.winds
              permits := if (s.crane c).present = true then s.permits
                else s.permits.write c
                  { s.permit c with
                    demand := ⟨0, 0, 0⟩, demandStale := true, seqRef := none, last := ⟨0, 0, 0⟩,
                    timeout := none, refresh := some s.site.permitRefresh }
              generators := t.generators
              events := (s.postAll (sourceChanges s t)).events
              overflow := (s.postAll (sourceChanges s t)).overflow
              inFlight := t.inFlight } ∧
        t.windOf c =
          { s.windOf c with
            accSum := 0, accCount := 0, stopCount := 0, alertCount := 0, calmCount := 0,
            source := (t.windOf c).source } ∧
        (∀ d, d ≠ c → t.windOf d = { s.windOf d with source := (t.windOf d).source }) ∧
        ((s.crane c).present = true → ∀ d, (t.windOf d).source = (s.windOf d).source) ∧
        ((s.crane c).present = false →
          t.SourcesSelected ∧ ∀ d, (t.crane d).present = false → (t.windOf d).source = (s.windOf d).source) ∧
        s.EvaluatesChanges t ∧ s.TellsBeacons t ∧
        (∀ m ∈ t.inFlight, (∃ k change, m = .presence k c change) ∨ (∃ d, m = .evaluation d) ∨ ∃ d cond, m = .beacon d cond) ∧
        (∀ n, (t.generator n).driver = t.lineDriver n) ∧ s.LinesFollow t ∧
        (∀ k d change, .presence k d change ∈ t.inFlight ↔ d = c ∧ s.Reports t k c change)) ∧
    (¬ r.InRange → r.present = true → r.Fits →
      exec (.writeCrane tag (craneOctets c r)) s = .next (s.answered tag 0x02#8 .badValue [])) ∧
    (∀ (n : Nat) (others : List Byte), 7 < n → n < 256 → others.length = 29 →
      exec (.writeCrane tag (octet1 n ++ others)) s = .next (s.answered tag 0x02#8 .badIndex []))

/-- R5, R26, R30, R32, R33, R119, R120, R139, R148, R171: in CONFIG, WRITE_CRANE with the present field no returns the
record to its reset values whatever its other operands; the crane loses its position, drives no line, and obstructs
every sector that lists it, each sector whose standing it changes being sent its report; its wind record and its
detector are kept. The booking table and the permit path are told when its position state was not NONE already. A line
whose driver or condition changes restarts, or is held off, and any other is left as it runs. A crane that was present also loses its demand and its pending permit, and the source of every
crane still present is selected again, the changes raising their WIND_SOURCE events and being evaluated; a crane that
was absent keeps both, and no source changes. POSITION_LOST with cause ABSENT is raised when it was TRACKED or
DEGRADED; that it stands first, before WIND_SOURCE, is the model's choice (log 5). -/
def Obligations.CraneMadeAbsent : Prop :=
  ∀ (s : State) (tag : Byte) (c : Crane) (others : List Byte), s.Ready → s.Room → s.mode = .config →
    others.length = 28 →
    let was := (s.crane c).present
    let lost : List EventBody :=
      if (s.position c).state = .tracked ∨ (s.position c).state = .degraded then
        [eventOf .positionLost (some c) none 2]
      else []
    ∃ t, exec (.writeCrane tag (octet1 c.val ++ octet1 0 ++ others)) s = .next t ∧
      t = { s.answered tag 0x02#8 .ok [] with
            cranes := s.cranes.write c .absent
            positions := s.positions.write c
              { s.position c with
                state := .none, seqRef := none, slewOk := false, trolleyOk := false, hoistOk := false,
                loadOk := false, radiusMark := false, heightMark := false, loadMark := false, stale := none,
                present := none, obstructed := s.sectorsOf c }
            winds := t.winds
            permits := if was = true then s.permits.write c
                { s.permit c with
                  demand := ⟨0, 0, 0⟩, demandStale := true, seqRef := none, last := ⟨0, 0, 0⟩,
                  timeout := none, refresh := none }
              else s.permits
            slots := if was = true then s.slots.write c { s.slot c with waiting := none } else s.slots
            generators := t.generators
            events := (s.postAll (lost ++ sourceChanges s t)).events
            overflow := (s.postAll (lost ++ sourceChanges s t)).overflow
            inFlight := t.inFlight } ∧
      (∀ d, t.windOf d = { s.windOf d with source := (t.windOf d).source }) ∧
      (∀ d, (t.crane d).present = false → t.windOf d = s.windOf d) ∧
      (was = true → t.SourcesSelected) ∧
      (was = false → ∀ d, t.windOf d = s.windOf d) ∧
      s.EvaluatesChanges t ∧ s.TellsBeacons t ∧
      (∀ m ∈ t.inFlight, m = .craneCondition c ∨ m = .limit c ∨ (∃ k change, m = .presence k c change) ∨
        (∃ d, m = .evaluation d) ∨ ∃ d cond, m = .beacon d cond) ∧
      (∀ n, (t.generator n).driver = t.lineDriver n ∧ (t.generator n).driver ≠ some c) ∧ s.LinesFollow t ∧
      (∀ d, (.craneCondition d ∈ t.inFlight ↔ d = c ∧ (s.position c).state ≠ .none) ∧
        (.limit d ∈ t.inFlight ↔ d = c ∧ (s.position c).state ≠ .none)) ∧
      (∀ k d change, .presence k d change ∈ t.inFlight ↔ d = c ∧ s.Reports t k c change)

/-- R2, R10, R30, R31, R78: in CONFIG, WRITE_SECTOR with the enabled field yes stores the record and recomputes the
presence of every crane listed before or after it, each sector whose standing that changes being sent its report; with
the field no it disables the sector whatever its other operands, returns its entry to its reset values, and sends that
entry no report. -/
def Obligations.SectorWritten : Prop :=
  ∀ (s : State) (tag : Byte) (k : Sector) (r : SectorRecord), s.Ready → s.Room → s.mode = .config →
    (r.InRange →
      ∃ t, exec (.writeSector tag (sectorOctets k r)) s = .next t ∧
        t = { s.answered tag 0x04#8 .ok [] with
              sectors := s.sectors.write k r, positions := t.positions, inFlight := t.inFlight } ∧
        (∀ c, t.position c =
          if c ∈ (s.sector k).members ∨ c ∈ r.members then
            { s.position c with present := t.presenceOf c, obstructed := t.obstructedBy c }
          else s.position c) ∧
        (∀ j c change, .presence j c change ∈ t.inFlight ↔
          (c ∈ (s.sector k).members ∨ c ∈ r.members) ∧ s.Reports t j c change)) ∧
    (∀ others : List Byte, others.length = 11 →
      ∃ t, exec (.writeSector tag (octet1 k.val ++ octet1 0 ++ others)) s = .next t ∧
        t = { s.answered tag 0x04#8 .ok [] with
              sectors := s.sectors.write k
                { enabled := false, clash := .jib, members := [], clearingTime := 0, holdLimit := 0, slice := 0 }
              entries := s.entries.write k .reset
              positions := t.positions, inFlight := t.inFlight } ∧
        (∀ c, t.position c =
          if c ∈ (s.sector k).members then
            { s.position c with present := t.presenceOf c, obstructed := t.obstructedBy c }
          else s.position c) ∧
        (∀ j c change, .presence j c change ∈ t.inFlight ↔
          j ≠ k ∧ c ∈ (s.sector k).members ∧ s.Reports t j c change)) ∧
    (¬ r.InRange → r.enabled = true → r.Fits →
      exec (.writeSector tag (sectorOctets k r)) s = .next (s.answered tag 0x04#8 .badValue [])) ∧
    (∀ (n : Nat) (others : List Byte), 15 < n → n < 256 → others.length = 12 →
      exec (.writeSector tag (octet1 n ++ others)) s = .next (s.answered tag 0x04#8 .badIndex []))

/-- R7, R30, R31, R158: in CONFIG, a part of WRITE_SEGMENTS whose first index is 0 or whose predecessors the assembly
holds is added to the assembly and answered with the number of segments held; the part that completes the list stores
it, as R7 stores each kind, when every segment is in range, and recomputes the crane's presence, with its reports. A
list with a segment out of range, a part that follows no assembly or one of another crane, count or length, and a
malformed part (a count outside 1 to 16, a first index that is not 0, 6 or 12 below it, another number of segments)
are refused with BAD_VALUE and discard the assembly, and so is a crane above 7 with BAD_INDEX. That a whole number of
segments other than the part's is malformed, and no wrong operand count, is the model's reading (log 8). -/
def Obligations.SegmentsWritten : Prop :=
  ∀ (s : State) (tag : Byte) (c : Crane) (count : Nat) (before part : List RawSegment),
    s.Ready → s.Room → s.mode = .config → (∀ g ∈ before ++ part, g.Fits) →
    let write (crane first : Nat) := exec (.writeSegments tag
      (octet1 crane ++ octet1 count ++ octet1 first ++ part.flatMap segmentOctets)) s
    let refused : State := { s.answered tag 0x03#8 .badValue [] with assembly := none }
    (∀ crane first, 7 < crane → crane < 256 →
      write crane first = .next { s.answered tag 0x03#8 .badIndex [] with assembly := none }) ∧
    (∀ first, count < 256 → first < 256 →
      (count < 1 ∨ 16 < count ∨ first ∉ [0, 6, 12] ∨ count ≤ first ∨ part.length ≠ min 6 (count - first)) →
      write c.val first = .next refused) ∧
    (count ≤ 16 → before.length ∈ [0, 6, 12] → before.length < count →
      part.length = min 6 (count - before.length) →
      (before = [] ∨ s.assembly = some { crane := c, count := count, segments := before } →
        (before.length + part.length < count →
          write c.val before.length = .next { s.answered tag 0x03#8 .ok (octet1 (before.length + part.length)) with
            assembly := some
              { crane := c, count := count, segments := before ++ part } }) ∧
        (before.length + part.length = count → (∃ g ∈ before ++ part, ¬ g.InRange) →
          write c.val before.length = .next refused) ∧
        (before.length + part.length = count → (∀ g ∈ before ++ part, g.InRange) →
          ∃ t, write c.val before.length = .next t ∧
            t = { s.answered tag 0x03#8 .ok [] with
                  zones := s.zones.write c ((before ++ part).map RawSegment.stored), assembly := none,
                  positions := s.positions.write c
                    { s.position c with present := t.presenceOf c, obstructed := t.obstructedBy c },
                  inFlight := t.inFlight } ∧
            (∀ k d change, .presence k d change ∈ t.inFlight ↔ d = c ∧ s.Reports t k c change))) ∧
      (before ≠ [] →
        (∀ a, s.assembly = some a → a.crane ≠ c ∨ a.count ≠ count ∨ a.segments.length ≠ before.length) →
        write c.val before.length = .next refused))

/-! ### Site modes (R17, R160, R163, R164) -/

/-- R17: ARM in CONFIG is refused with CHECK_FAILED and the locator of the first of the ten tests that fails, the lowest
code first and within one code the lowest crane and segment, or the lowest sector; the refusal changes nothing. When
none fails the site becomes ARMED. -/
def Obligations.ArmingTestsRefuse : Prop :=
  ∀ (s : State) (tag : Byte), s.Ready → s.Room → s.mode = .config →
    (∀ code a b, s.FailsTest code a b →
      (∀ code' a' b', s.FailsTest code' a' b' →
        code < code' ∨ (code = code' ∧ (a < a' ∨ (a = a' ∧ b ≤ b')))) →
      exec (.arm tag []) s = .next (s.answeredAt tag 0x10#8 .checkFailed
        (BitVec.ofNat 16 (256 * code + if code ∈ [4, 5, 6, 9] then 16 * a + b else a)) [])) ∧
    ((∀ code a b, ¬ s.FailsTest code a b) → ∃ t, exec (.arm tag []) s = .next t ∧ t.mode = .armed)

/-- R17, R77, R99, R106, R107, R163: ARM in CONFIG, when the consistency check passes, makes the site ARMED and sets up
every enabled entry from the tracker's view, with the claimant the booking table has and nothing queued, locked or
closed; the grant evaluation then runs on it, so that a sector that no booking names with one member present and none
obstructing is granted to it. The bookings are then checked against the tables and judged with cause MODE, and every
sector that R106 has told of it takes the report as the booked-claimant change it takes as a command. The events stand
in this order: those of the evaluations, the BOOKING_STATE events in table order, those of the reports, and ARMED; that
the sectors follow each other in ascending number is the model's choice (log 5). A failing check refuses it with
CHECK_FAILED and the locator, and in ARMED it is refused with WRONG_STATE. -/
def Obligations.ArmSetsUpTheSite : Prop :=
  ∀ (s : State) (tag : Byte), s.Ready → s.Room →
    (s.mode = .config → s.checkFailure = none →
      let armed : State := { s with mode := .armed }
      ∃ (t : State) (setUp : Sector → SectorEntry) (granted reported : Sector → List EventBody),
        exec (.arm tag []) s = .next t ∧
        let events := (List.finRange 16).flatMap granted ++ bookingChanges s.bookings t.bookings
          ++ (List.finRange 16).flatMap reported ++ [eventOf .armed]
        t = { s.answered tag 0x10#8 .ok [] with
              mode := .armed, entries := t.entries, bookings := t.bookings,
              events := (s.postAll events).events, overflow := (s.postAll events).overflow, inFlight := t.inFlight } ∧
        (t.bookings = s.bookings.map (fun b =>
          if liveBooking b.state = true ∧ ¬ ((s.crane b.crane).present = true ∧ s.isMember b.sector b.crane = true)
          then { b with state := .cancelled, cause := .table }
          else armed.judges .mode b)) ∧
        (∀ k, (s.sector k).enabled = false →
          t.entry k = s.entry k ∧ setUp k = s.entry k ∧ granted k = [] ∧ reported k = []) ∧
        (∀ k, (s.sector k).enabled = true →
          (t.entry k).queue = [] ∧ (t.entry k).locks = [] ∧ (t.entry k).closed = false ∧
          (t.entry k).presence = allCranes.filter (fun c => (s.position c).present == some k) ∧
          (t.entry k).obstruction = allCranes.filter (fun c => (s.position c).obstructed.contains k) ∧
          (t.entry k).claimant = t.tableClaimant k ∧
          (∀ c, (t.entry k).presence = [c] → (t.entry k).obstruction = [] → (∀ b ∈ s.bookings, b.sector ≠ k) →
            (t.entry k).base = .held c
              { kind := .routine, sliceLeft := (s.sector k).slice, hold := some (s.sector k).holdLimit,
                expired := false, yielding := none, overstay := false }) ∧
          GrantEvaluation k (s.sector k) none
            { base := .free, queue := [], locks := [], closed := false, presence := (t.entry k).presence,
              obstruction := (t.entry k).obstruction, claimant := s.tableClaimant k } (setUp k) (granted k) ∧
          let u : State :=
            { armed with entries := s.entries.updateAt (fun j _ => setUp j), bookings := t.bookings }
          let departed := departures s.bookings t.bookings k
          let owed : Prop := t.tableClaimant k ≠ s.tableClaimant k ∨
            ∃ x ∈ departed, (grantOf (setUp k)).map (·.kind) = some (.booked x.1)
          (owed → ∃ v, exec (.bookedClaimantChange k departed (t.tableClaimant k)) u = .next v ∧
            u.EntryTakes v k (t.entry k) (reported k)) ∧
          (¬ owed → t.entry k = setUp k ∧ reported k = []))) ∧
    (∀ locator, s.mode = .config → s.checkFailure = some locator →
      exec (.arm tag []) s = .next (s.answeredAt tag 0x10#8 .checkFailed (BitVec.ofNat 16 locator) [])) ∧
    (s.mode = .armed → exec (.arm tag []) s = .next (s.answered tag 0x10#8 .wrongState []))

/-- R78, R96, R100, R106, R107, R145, R164: DISARM in ARMED with no present crane on its way to vane or vaning makes the
site CONFIG and clears every enabled entry but its sets; the bookings are judged with cause MODE, so that with the
clock SET none is left ACTIVE, and every enabled entry whose claimant that changes has the table's new one; every
present crane is issued a permit of zero speeds, reason SITE where it is demanded, and advice HOLD. The BOOKING_STATE
events stand in table order, with DISARMED after them. With such a crane it is refused with VANE_ACTIVE, and in CONFIG
with WRONG_STATE. -/
def Obligations.DisarmClearsTheSite : Prop :=
  ∀ (s : State) (tag : Byte), s.Ready → s.Room →
    (s.mode = .armed →
      (∀ c, (s.crane c).present = true → (s.windOf c).state ≠ .vanePending ∧ (s.windOf c).state ≠ .vane) →
      ∃ t, exec (.disarm tag []) s = .next t ∧
        let events := bookingChanges s.bookings t.bookings ++ [eventOf .disarmed]
        t = { s.answered tag 0x11#8 .ok [] with
              mode := .config, entries := t.entries
              bookings := s.bookings.map (({ s with mode := .config } : State).judges .mode)
              permits := t.permits, slots := t.slots
              events := (s.postAll events).events, overflow := (s.postAll events).overflow, inFlight := t.inFlight } ∧
        (∀ k, (s.sector k).enabled = false → t.entry k = s.entry k) ∧
        (∀ k, (s.sector k).enabled = true →
          (t.entry k).base = .free ∧ (t.entry k).queue = [] ∧ (t.entry k).locks = [] ∧
          (t.entry k).closed = false ∧ (t.entry k).presence = (s.entry k).presence ∧
          (t.entry k).obstruction = (s.entry k).obstruction ∧
          (t.entry k).claimant =
            if t.tableClaimant k = s.tableClaimant k then (s.entry k).claimant else t.tableClaimant k) ∧
        (s.clockSet = true → ∀ b ∈ t.bookings, b.state ≠ .active) ∧
        (∀ c, (s.crane c).present = false → t.permit c = s.permit c ∧ t.slot c = s.slot c) ∧
        (∀ c, (s.crane c).present = true → s.IssuesZero t c)) ∧
    (∀ c, s.mode = .armed → (s.crane c).present = true →
      (s.windOf c).state = .vanePending ∨ (s.windOf c).state = .vane →
      exec (.disarm tag []) s = .next (s.answered tag 0x11#8 .vaneActive [])) ∧
    (s.mode = .config → exec (.disarm tag []) s = .next (s.answered tag 0x11#8 .wrongState []))

/-! ### Reads (R108, R122, R166) -/

/-- R18, R79, R91, R108, R109, R122, R123, R139, R157, R166: the five reads change nothing and return their record as
it stands, the octets being written out by the tables of those rules; READ_SECTOR returns 43 octets; an index out of
range is refused with BAD_INDEX, a selector, ring or offset with BAD_VALUE, an id without an entry with NO_SUCH_ID,
and an offset beyond a ring's fill is answered NO_DATA with the value 0. That selector 2 leaves the slots of the rings
out, and that id 0 is such an id, are the model's readings (log 8); that there is no further read is its choice (log
22). -/
def Obligations.ReadsReturnRecords : Prop :=
  ∀ (s : State) (tag : Byte), s.Ready → s.Room →
    (∀ c : Crane,
      exec (.readCrane tag (octet1 c.val ++ octet1 0)) s =
        .next (s.answered tag 0x40#8 .ok (positionOctets (s.position c))) ∧
      exec (.readCrane tag (octet1 c.val ++ octet1 1)) s =
        .next (s.answered tag 0x40#8 .ok (detectorOctets (s.detector c))) ∧
      exec (.readCrane tag (octet1 c.val ++ octet1 2)) s =
        .next (s.answered tag 0x40#8 .ok (windOctets (s.windOf c))) ∧
      exec (.readCrane tag (octet1 c.val ++ octet1 3)) s =
        .next (s.answered tag 0x40#8 .ok (permitOctets (s.permit c))) ∧
      (∀ n, 3 < n → n < 256 → exec (.readCrane tag (octet1 c.val ++ octet1 n)) s =
        .next (s.answered tag 0x40#8 .badValue []))) ∧
    (∀ n m, 7 < n → n < 256 → exec (.readCrane tag (octet1 n ++ octet1 m)) s =
      .next (s.answered tag 0x40#8 .badIndex [])) ∧
    (∀ k : Sector, (sectorEntryOctets (s.sector k) (s.entry k)).length = 43 ∧
      exec (.readSector tag (octet1 k.val)) s =
        .next (s.answered tag 0x41#8 .ok (sectorEntryOctets (s.sector k) (s.entry k)))) ∧
    (∀ n, 15 < n → n < 256 →
      exec (.readSector tag (octet1 n)) s = .next (s.answered tag 0x41#8 .badIndex [])) ∧
    (∀ l : Link, exec (.readStatus tag (octet1 l.val)) s =
      .next (s.answered tag 0x44#8 .ok
        (octet2 (s.counter l).crc ++ octet2 (s.counter l).length ++ octet2 (s.counter l).misdirected
          ++ octet1 (if s.mode = .armed then 1 else 0) ++ octet1 (if s.clockSet = true then 1 else 0)
          ++ octet4 s.clock.toNat ++ octet1 s.events.length ++ octet1 (if s.overflow = true then 1 else 0)
          ++ octet4 s.mask.toNat))) ∧
    (∀ n, 8 < n → n < 256 →
      exec (.readStatus tag (octet1 n)) s = .next (s.answered tag 0x44#8 .badIndex [])) ∧
    (∀ b ∈ s.bookings, (s.bookings.map (·.id)).Nodup → exec (.readBooking tag (octet2 b.id.toNat)) s =
      .next (s.answered tag 0x42#8 .ok
        (bookingEntryOctets b ((grantOf (s.entry b.sector)).map (·.kind) == some (.booked b.id))))) ∧
    (∀ id : Half, (∀ b ∈ s.bookings, b.id ≠ id) → exec (.readBooking tag (octet2 id.toNat)) s =
      .next (s.answered tag 0x42#8 .noSuchId [])) ∧
    (∀ (c : Crane) (offset : Nat), offset < 256 →
      let data (value fill : Nat) : List Byte := octet2 value ++ octet1 fill
        ++ (match (s.windOf c).source with
            | .none => octet1 0 ++ octet1 255
            | .own => octet1 1 ++ octet1 255
            | .borrowed l => octet1 2 ++ octet1 l.val)
        ++ octet2 (s.gustNumber c) ++ octet2 (s.meanNumber c)
      exec (.readWind tag (octet1 c.val ++ octet1 0 ++ octet1 offset)) s =
        .next (if 16 ≤ offset then s.answered tag 0x43#8 .badValue []
          else if offset < (s.windOf c).fine.fill then
            s.answered tag 0x43#8 .ok (data
              ((s.windOf c).fine.slots.read ((s.windOf c).fine.base - Fin.ofNat 16 offset))
              (s.windOf c).fine.fill)
          else s.answered tag 0x43#8 .noData (data 0 (s.windOf c).fine.fill)) ∧
      exec (.readWind tag (octet1 c.val ++ octet1 1 ++ octet1 offset)) s =
        .next (if 64 ≤ offset then s.answered tag 0x43#8 .badValue []
          else if offset < (s.windOf c).coarse.fill then
            s.answered tag 0x43#8 .ok (data
              ((s.windOf c).coarse.slots.read ((s.windOf c).coarse.base - Fin.ofNat 64 offset))
              (s.windOf c).coarse.fill)
          else s.answered tag 0x43#8 .noData (data 0 (s.windOf c).coarse.fill)) ∧
      (∀ ring, 1 < ring → ring < 256 →
        exec (.readWind tag (octet1 c.val ++ octet1 ring ++ octet1 offset)) s =
          .next (s.answered tag 0x43#8 .badValue []))) ∧
    (∀ n ring offset, 7 < n → n < 256 →
      exec (.readWind tag (octet1 n ++ octet1 ring ++ octet1 offset)) s =
        .next (s.answered tag 0x43#8 .badIndex []))

/-! ### Lift booking (R91 to R107) -/

/-- R93, R94, R106, R107: BOOK_ADD that passes the six checks, in either mode, appends the booking with lifts done 0,
cause ADD and the state its window and its crane give it, raises one BOOKING_STATE event and answers the state; the
arbiter is told when the new booking becomes the claimant of its sector, and of nothing else. The checks refuse it in
their order: a crane above 7 or a sector above 15 and a crane that is absent or no member first, then a field out of
range, a class code above 1 among them. -/
def Obligations.BookAddStores : Prop :=
  ∀ (s : State) (tag : Byte) (b : Booking), s.Ready → s.Room → b.Fits →
    let matched := (s.crane b.crane).present = true ∧ s.isMember b.sector b.crane = true
    let new : Booking :=
      { b with
        done := 0, cause := .add
        state := if s.clockSet = false ∨ s.clock.toNat / 60 < b.start then .waiting
          else if s.craneCondition b.crane = true then .active else .suspended }
    (matched → b.InRange → (∀ x ∈ s.bookings, x.id ≠ b.id) →
      (s.clockSet = true → s.clock.toNat / 60 < b.stop) → s.bookings.length < 64 →
      exec (.bookAdd tag (bookingOctets b)) s =
        .next { s.answered tag 0x20#8 .ok (octet1 (bookingCode new.state)) with
          bookings := s.bookings ++ [new]
          events := (s.post (bookingChange none new)).events
          overflow := (s.post (bookingChange none new)).overflow
          inFlight := if claimantOf (s.bookings ++ [new]) b.sector = some new then
              [.claimant b.sector [] (some { booking := b.id, crane := b.crane })]
            else [] }) ∧
    (¬ matched → exec (.bookAdd tag (bookingOctets b)) s = .next (s.answered tag 0x20#8 .badIndex [])) ∧
    (matched → ¬ b.InRange →
      exec (.bookAdd tag (bookingOctets b)) s = .next (s.answered tag 0x20#8 .badValue [])) ∧
    (matched → b.InRange → (∃ x ∈ s.bookings, x.id = b.id) →
      exec (.bookAdd tag (bookingOctets b)) s = .next (s.answered tag 0x20#8 .duplicateId [])) ∧
    (matched → b.InRange → (∀ x ∈ s.bookings, x.id ≠ b.id) → s.clockSet = true → b.stop ≤ s.clock.toNat / 60 →
      exec (.bookAdd tag (bookingOctets b)) s = .next (s.answered tag 0x20#8 .pastWindow [])) ∧
    (matched → b.InRange → (∀ x ∈ s.bookings, x.id ≠ b.id) →
      (s.clockSet = true → s.clock.toNat / 60 < b.stop) → 64 ≤ s.bookings.length →
      exec (.bookAdd tag (bookingOctets b)) s = .next (s.answered tag 0x20#8 .tableFull [])) ∧
    (∀ (crane sector : Nat) (id others : List Byte), crane < 256 → sector < 256 → (7 < crane ∨ 15 < sector) →
      id.length = 2 → others.length = 12 →
      exec (.bookAdd tag (id ++ octet1 crane ++ octet1 sector ++ others)) s =
        .next (s.answered tag 0x20#8 .badIndex [])) ∧
    (∀ cls, 1 < cls → cls < 256 → matched →
      exec (.bookAdd tag (octet2 b.id.toNat ++ octet1 b.crane.val ++ octet1 b.sector.val ++ octet4 b.start
          ++ octet4 b.stop ++ octet1 b.quota ++ octet1 cls ++ octet2 b.maxLoad)) s =
        .next (s.answered tag 0x20#8 .badValue []))

/-- R103, R106: BOOK_CANCEL makes a live entry CANCELLED with cause CANCEL, with one BOOKING_STATE event, and sends
the arbiter the report R106 calls for and nothing else: when the entry was its sector's claimant or owned its grant. A
terminal entry is refused with WRONG_STATE, an id without an entry with NO_SUCH_ID; that id 0 is such an id is the
model's reading (log 8). -/
def Obligations.BookingCancelled : Prop :=
  ∀ (s : State) (tag : Byte), s.Ready → s.Room →
    (∀ b ∈ s.bookings, (s.bookings.map (·.id)).Nodup → ¬ terminal b.state →
      ∃ t, exec (.bookCancel tag (octet2 b.id.toNat)) s = .next t ∧
        t = { s.answered tag 0x21#8 .ok [] with
              bookings := s.bookings.map (fun x =>
                if x.id = b.id then { x with state := .cancelled, cause := .cancel } else x)
              events := (s.post (bookingChange (some b.state)
                { b with state := .cancelled, cause := .cancel })).events
              overflow := (s.post (bookingChange (some b.state)
                { b with state := .cancelled, cause := .cancel })).overflow
              inFlight := t.inFlight } ∧
        s.InformsArbiter t) ∧
    (∀ b ∈ s.bookings, (s.bookings.map (·.id)).Nodup → terminal b.state →
      exec (.bookCancel tag (octet2 b.id.toNat)) s = .next (s.answered tag 0x21#8 .wrongState [])) ∧
    (∀ id : Half, (∀ b ∈ s.bookings, b.id ≠ id) →
      exec (.bookCancel tag (octet2 id.toNat)) s = .next (s.answered tag 0x21#8 .noSuchId []))

/-- R104: BOOK_PURGE, in either mode, removes every terminal entry, keeps the others in their order, answers the number
removed, and does nothing else: it raises no event and sends no report. -/
def Obligations.TerminalBookingsPurged : Prop :=
  ∀ (s : State) (tag : Byte), s.Ready → s.Room → s.bookings.length ≤ 64 →
    ∃ kept removed, exec (.bookPurge tag []) s =
        .next { s.answered tag 0x22#8 .ok (octet1 removed) with bookings := kept } ∧
      kept.Sublist s.bookings ∧ removed + kept.length = s.bookings.length ∧
      (∀ b, b ∈ kept ↔ b ∈ s.bookings ∧ ¬ terminal b.state) ∧
      (∀ b, ¬ terminal b.state → kept.count b = s.bookings.count b)

/-- R95, R96, R98, R106, R107: a window evaluation, at a minute boundary with cause WINDOW and at TIME_SET with cause CLOCK,
gives every live booking the state its window and its crane call for and leaves terminal ones; every change raises its
BOOKING_STATE event, in table order, at the clock the event leaves; the arbiter is sent the reports R106 calls for and
nothing else. While the clock is UNSET a minute boundary changes nothing. TIME_SET loads the clock and makes it
SET. -/
def Obligations.WindowsEvaluated : Prop :=
  ∀ (s : State) (tag : Byte) (seconds : BitVec 32), s.Ready →
    let judged (clock : BitVec 32) (cause : BookingCause) (b : Booking) : Booking :=
      if b.state = .exhausted ∨ b.state = .expired ∨ b.state = .cancelled then b
      else if clock.toNat / 60 < b.start then b.entering .waiting cause
      else if b.stop ≤ clock.toNat / 60 then b.entering .expired cause
      else if s.craneCondition b.crane = true then b.entering .active cause
      else b.entering .suspended cause
    let told (u t : State) : Prop :=
      t.events = (u.postAll (bookingChanges s.bookings t.bookings)).events ∧
      t.overflow = (u.postAll (bookingChanges s.bookings t.bookings)).overflow ∧ s.InformsArbiter t
    (s.clockSet = true →
      ∃ t, exec .minuteBoundary s = .next t ∧
        t = { s with
              bookings := s.bookings.map (judged s.clock .window)
              events := t.events, overflow := t.overflow, inFlight := t.inFlight } ∧ told s t) ∧
    (s.clockSet = false → exec .minuteBoundary s = .next s) ∧
    (s.Room →
      ∃ t, exec (.timeSet tag (octet4 seconds.toNat)) s = .next t ∧
        t = { s.answered tag 0x12#8 .ok [] with
              clock := seconds, clockSet := true
              bookings := s.bookings.map (judged seconds .clock)
              events := t.events, overflow := t.overflow, inFlight := t.inFlight } ∧
        told { s with clock := seconds, clockSet := true } t)

/-- R96, R97, R106, R107: told of a change of a crane's position or wind state, the table suspends its ACTIVE bookings
when the crane condition no longer holds and activates its SUSPENDED ones when it does, with cause CRANE; every other
booking is left. Every change raises its BOOKING_STATE event, in table order, and the arbiter is sent the reports R106
calls for and nothing else. -/
def Obligations.CraneConditionApplied : Prop :=
  ∀ (s : State) (c : Crane), s.Ready →
    (s.craneCondition c = true ↔ s.CanWork c) ∧
    ∃ t, exec (.craneConditionChange c) s = .next t ∧
      t = { s with
            bookings := s.bookings.map (fun b =>
              if b.crane = c ∧ b.state = .active ∧ s.craneCondition c = false then
                { b with state := .suspended, cause := .crane }
              else if b.crane = c ∧ b.state = .suspended ∧ s.craneCondition c = true then
                { b with state := .active, cause := .crane }
              else b)
            events := (s.postAll (bookingChanges s.bookings t.bookings)).events
            overflow := (s.postAll (bookingChanges s.bookings t.bookings)).overflow
            inFlight := t.inFlight } ∧
      s.InformsArbiter t

/-- R105: the claimant of a sector is an ACTIVE booking that names it and comes before every other such booking:
CRITICAL before PLANNED, then the earlier start, then the lower id; there is none only when no ACTIVE booking names
it. -/
def Obligations.ClaimantComesFirst : Prop :=
  ∀ (table : List Booking) (k : Sector), (table.map (·.id)).Nodup →
    (∀ b, claimantOf table k = some b →
      b ∈ table ∧ b.sector = k ∧ b.state = .active ∧
      ∀ x ∈ table, x.sector = k → x.state = .active → x ≠ b →
        (b.cls = .critical ∧ x.cls = .planned) ∨
        (b.cls = x.cls ∧ (b.start < x.start ∨ (b.start = x.start ∧ b.id.toNat < x.id.toNat)))) ∧
    (claimantOf table k = none ↔ ∀ x ∈ table, x.sector = k → x.state ≠ .active)

/-! ### Sector sharing (R54 to R78) -/

/-- R45, R54, R55, R57, R59, R68, R72, R133: the terms of a sector's entry. The holder is the HELD grant's, the owner
is also the former holder in CLEARING; the sector is CLOSED while it is closed, else LOCKED while cranes have asked
for locks, else in its base state; the lock set of a HOOK sector is every crane that has asked, that of a JIB sector
the one that asked first; a waiter is a queue entry, or a claimant that names another crane than the owner; without a
waiter the yield flag is clear; an intruded holder is one beside whom another member is present. -/
def Obligations.SectorTermsMean : Prop :=
  (∀ e : SectorEntry,
    (∀ h, holderOf e = some h ↔ ∃ g, e.base = .held h g) ∧
    (∀ o, ownerOf e = some o ↔ (∃ g, e.base = .held o g) ∨ ∃ g left, e.base = .clearing o g left) ∧
    (∀ g, grantOf e = some g ↔ (∃ h, e.base = .held h g) ∨ ∃ f left, e.base = .clearing f g left) ∧
    (∀ clash,
      (e.closed = true → stateOf clash e = .closed) ∧
      (e.closed = false → e.locks ≠ [] → stateOf clash e = .locked) ∧
      (e.closed = false → e.locks = [] →
        (e.base = .free → stateOf clash e = .free) ∧ (e.base = .contested → stateOf clash e = .contested) ∧
        (∀ h g, e.base = .held h g → stateOf clash e = .held) ∧
        (∀ f g left, e.base = .clearing f g left → stateOf clash e = .clearing))) ∧
    lockSet .hook e = e.locks ∧ (e.locks = [] → lockSet .jib e = []) ∧
    (∀ first later, e.locks = first :: later → lockSet .jib e = [first]) ∧
    (hasWaiter e = true ↔ e.queue ≠ [] ∨ ∃ cl, e.claimant = some cl ∧ ownerOf e ≠ some cl.crane) ∧
    (hasWaiter e = true → clearIdleYield e = e) ∧
    (hasWaiter e = false →
      (∀ h g, e.base = .held h g → clearIdleYield e = { e with base := .held h { g with yielding := none } }) ∧
      (∀ f g left, e.base = .clearing f g left →
        clearIdleYield e = { e with base := .clearing f { g with yielding := none } left }) ∧
      (grantOf e = none → clearIdleYield e = e)) ∧
    (∀ change : Grant → Grant,
      (∀ h g, e.base = .held h g → mapGrant change e = { e with base := .held h (change g) }) ∧
      (∀ f g left, e.base = .clearing f g left → mapGrant change e = { e with base := .clearing f (change g) left }) ∧
      (grantOf e = none → mapGrant change e = e)) ∧
    (∀ h, intruded e = some h ↔ (∃ g, e.base = .held h g) ∧ ∃ d ∈ e.presence, d ≠ h) ∧
    (∀ c, (queued e c = true ↔ ∃ q ∈ e.queue, q.crane = c) ∧
      withdraw e.queue c = e.queue.filter (fun q => q.crane != c))) ∧
  (∀ (s : State) (k : Sector),
    s.sectorState k = stateOf (s.sector k).clash (s.entry k) ∧ s.locksOf k = lockSet (s.sector k).clash (s.entry k) ∧
    s.occupants k = allCranes.filter (fun d => decide (d ∈ (s.entry k).presence ∧ d ∉ s.locksOf k)))

/-- R54, R56, R60, R61, R62, R63, R64: a presence report changes the sets of the sector it names and nothing of any
other; a crane that begins to obstruct leaves the queue. In HELD, the holder's leaving or obstructing begins the
clearing interval with the grant record kept; in CLEARING, the former holder's return gives the sector back. Another
member that enters raises INTRUSION with the sector's state. CLOSED and LOCKED keep their state. In FREE and in
CONTESTED the report is followed by the grant evaluation of the changed entry. A disabled sector takes nothing. That
INTRUSION stands before what the evaluation raises, and the order of GRANT, INTRUSION and YIELD, are the model's
choice (log 5). -/
def Obligations.PresenceReportTaken : Prop :=
  ∀ (s : State) (k : Sector) (c : Crane) (change : PresenceChange), s.Ready →
    let e := s.entry k
    let e1 : SectorEntry := applyReport c change e
    let takes (e' : SectorEntry) (bs : List EventBody) : Prop :=
      ∃ t, exec (.presenceReport k c change) s = .next t ∧ s.EntryTakes t k e' bs
    let intrusion (code : Nat) : List EventBody :=
      if change = .enter ∨ change = .unobstructEnter then [eventOf .intrusion (some c) (some k) code] else []
    ((s.sector k).enabled = false → exec (.presenceReport k c change) s = .next s) ∧
    (e1.base = e.base ∧ e1.locks = e.locks ∧ e1.closed = e.closed ∧ e1.claimant = e.claimant ∧
      (∀ d, d ∈ e1.presence ↔
        (d = c ∧ (change = .enter ∨ change = .unobstructEnter)) ∨
        (d ∈ e.presence ∧ ¬ (d = c ∧ (change = .leave ∨ change = .obstructLeave)))) ∧
      (∀ d, d ∈ e1.obstruction ↔
        (d = c ∧ (change = .obstruct ∨ change = .obstructLeave)) ∨
        (d ∈ e.obstruction ∧ ¬ (d = c ∧ (change = .unobstruct ∨ change = .unobstructEnter)))) ∧
      e1.queue = if change = .obstruct ∨ change = .obstructLeave then e.queue.filter (·.crane != c) else e.queue) ∧
    ((s.sector k).enabled = true → s.mode = .config → s.sectorState k = .free → takes e1 []) ∧
    (s.Running k → (s.sectorState k = .locked ∨ s.sectorState k = .closed) → ownerOf e = none → takes e1 []) ∧
    (s.Running k → s.sectorState k = .held → ∀ h g, e.base = .held h g →
      (c = h → change ∈ [.leave, .obstruct, .obstructLeave] →
        takes (clearIdleYield { e1 with base := .clearing h g (s.sector k).clearingTime }) []) ∧
      (c = h → change ∉ [.leave, .obstruct, .obstructLeave] → takes (clearIdleYield e1) []) ∧
      (c ≠ h → takes (clearIdleYield e1) (intrusion 1))) ∧
    (s.Running k → s.sectorState k = .clearing → ∀ f g left, e.base = .clearing f g left →
      (c = f → (change = .enter ∨ change = .unobstructEnter) →
        takes (clearIdleYield { e1 with base := .held f g, queue := withdraw e1.queue f }) []) ∧
      (c = f → ¬ (change = .enter ∨ change = .unobstructEnter) → takes (clearIdleYield e1) []) ∧
      (c ≠ f → takes (clearIdleYield e1) (intrusion 2))) ∧
    (s.Running k → s.sectorState k = .free →
      ∃ t e' bs, exec (.presenceReport k c change) s = .next t ∧ s.EntryTakes t k e' bs ∧
        GrantEvaluation k (s.sector k)
          (if change = .enter ∨ change = .unobstructEnter then some c else none) e1 e' bs) ∧
    (s.Running k → s.sectorState k = .contested →
      ∃ t e' bs, exec (.presenceReport k c change) s = .next t ∧ s.EntryTakes t k e' (intrusion 3 ++ bs) ∧
        GrantEvaluation k (s.sector k) none e1 e' bs)

/-- R57, R65, R66, R67: a knock is discarded by a disabled sector, for a crane that is no member, and in CONFIG; it has
no effect from the holder or a crane in the lock requests. The former holder's gives a CLEARING sector back when
nobody else wants it. Any other restarts the crane's keep timer, or appends the crane while the queue holds fewer than
3; the arrival of a waiter sets the overstay flag of an expired grant and the yield flag of a spent slice. In FREE the
evaluation follows, whatever became of the knock. That OVERSTAY stands before YIELD is the model's choice (log 5). -/
def Obligations.KnockTaken : Prop :=
  ∀ (s : State) (k : Sector) (c : Crane), s.Ready →
    let r := s.sector k
    let e := s.entry k
    let newcomer : QueueEntry := { crane := c, keep := s.site.keepTime, resume := false }
    let takes (e' : SectorEntry) (bs : List EventBody) : Prop :=
      ∃ t, exec (.knock k c) s = .next t ∧ s.EntryTakes t k e' bs
    let wanted : Prop := s.Running k ∧ c ∈ r.members ∧ holderOf e ≠ some c ∧ c ∉ e.locks
    let returns : Prop := s.sectorState k = .clearing ∧ ownerOf e = some c ∧ e.queue = [] ∧
      ∀ cl, e.claimant = some cl → cl.crane = c
    (¬ wanted → exec (.knock k c) s = .next s) ∧
    (wanted → returns → ∀ g left, e.base = .clearing c g left →
      takes { e with base := .held c { g with yielding := none } } []) ∧
    (wanted → s.KeepsState k → ¬ returns →
      (queued e c = true →
        takes { e with queue := e.queue.map (fun q => if q.crane = c then { q with keep := s.site.keepTime } else q) }
          []) ∧
      (queued e c = false → 3 ≤ e.queue.length → exec (.knock k c) s = .next s) ∧
      (queued e c = false → e.queue.length < 3 → (hasWaiter e = true ∨ grantOf e = none) →
        takes { e with queue := e.queue ++ [newcomer] } []) ∧
      (queued e c = false → e.queue.length < 3 → hasWaiter e = false → ∀ o g, ownerOf e = some o → grantOf e = some g →
        let spent : Bool := g.kind = .routine && r.slice != 0 && g.sliceLeft = 0 && g.yielding = none
        takes (mapGrant (fun g =>
            { g with
              overstay := g.overstay || g.expired
              yielding := if spent = true then some .slice else g.yielding })
            { e with queue := e.queue ++ [newcomer] })
          ((if g.expired = true ∧ g.overstay = false then [eventOf .overstay (some o) (some k)] else []) ++
            (if spent = true then [eventOf .yield (some o) (some k) 0] else [])))) ∧
    (wanted → s.sectorState k = .free →
      ∃ t e' bs, exec (.knock k c) s = .next t ∧ s.EntryTakes t k e' bs ∧
        GrantEvaluation k r none
          (if queued e c = true then
             { e with queue := e.queue.map (fun q => if q.crane = c then { q with keep := s.site.keepTime } else q) }
           else if e.queue.length < 3 then { e with queue := e.queue ++ [newcomer] } else e) e' bs)

/-- R59, R66, R69, R71: a booked-claimant change is recorded. In HELD and CLEARING it makes the grant yield to another
crane's booking, converts the owner's ROUTINE grant in place, or passes its BOOKED grant to another of its bookings; a
BOOKED grant whose booking is listed as having left ACTIVE first becomes ROUTINE, yielding when a crane waits, and
then meets the new claimant. In FREE the evaluation follows; in CONFIG, CONTESTED, LOCKED and CLOSED nothing does.
That a flag already set with cause BOOKING raises no second YIELD, and that YIELD stands before OVERSTAY, are the
model's choices (logs 6 and 25). -/
def Obligations.ClaimantChangeTaken : Prop :=
  ∀ (s : State) (k : Sector) (left : List (Half × BookingState)) (claimant : Option Claimant), s.Ready →
    let r := s.sector k
    let e := s.entry k
    let e1 : SectorEntry := { e with claimant := claimant }
    let takes (e' : SectorEntry) (bs : List EventBody) : Prop :=
      ∃ t, exec (.bookedClaimantChange k left claimant) s = .next t ∧ s.EntryTakes t k e' bs
    (r.enabled = false → exec (.bookedClaimantChange k left claimant) s = .next s) ∧
    (r.enabled = true → s.mode = .config → ownerOf e = none → takes e1 []) ∧
    (s.Running k → s.KeepsState k → ownerOf e = none → takes e1 []) ∧
    (s.Running k → s.sectorState k = .free →
      ∃ t e' bs, exec (.bookedClaimantChange k left claimant) s = .next t ∧ s.EntryTakes t k e' bs ∧
        GrantEvaluation k r none e1 e' bs) ∧
    (s.Running k → (s.sectorState k = .held ∨ s.sectorState k = .clearing) →
      ∀ o g, ownerOf e = some o → grantOf e = some g →
      ((∀ id st, (id, st) ∈ left → g.kind ≠ .booked id) →
        (∀ cl, claimant = some cl → cl.crane ≠ o →
          let late : Bool := g.expired && !g.overstay && !hasWaiter e
          takes (mapGrant (fun g => { g with yielding := some .booking, overstay := g.overstay || late }) e1)
            ((if g.yielding = some .booking then [] else [eventOf .yield (some o) (some k) 1]) ++
              (if late = true then [eventOf .overstay (some o) (some k)] else []))) ∧
        (∀ cl, claimant = some cl → cl.crane = o → g.kind = .routine →
          takes (mapGrant (fun g =>
              { g with
                kind := .booked cl.booking, hold := none, expired := false, overstay := false,
                yielding := none }) e1)
            [eventOf .grant (some o) (some k) cl.booking.toNat 1 4]) ∧
        (∀ cl, claimant = some cl → cl.crane = o → g.kind = .booked cl.booking → takes (clearIdleYield e1) []) ∧
        (∀ cl id, claimant = some cl → cl.crane = o → g.kind = .booked id → id ≠ cl.booking →
          takes (clearIdleYield (mapGrant (fun g => { g with kind := .booked cl.booking }) e1))
            [eventOf .grant (some o) (some k) cl.booking.toNat 1 4]) ∧
        (claimant = none → takes (clearIdleYield e1) [])) ∧
      (∀ id st, (id, st) ∈ left → g.kind = .booked id →
        let yields : List EventBody := [eventOf .yield (some o) (some k) 1]
        (claimant = none →
          takes (mapGrant (fun g =>
              { g with
                kind := .routine, sliceLeft := r.slice, hold := some r.holdLimit, expired := false,
                yielding := if e.queue = [] then none else some .booking }) e1)
            (if hasWaiter e = true ∧ g.yielding ≠ some .booking then yields else [])) ∧
        (∀ cl, claimant = some cl → cl.crane ≠ o →
          takes (mapGrant (fun g =>
              { g with
                kind := .routine, sliceLeft := r.slice, hold := some r.holdLimit, expired := false,
                yielding := some .booking }) e1)
            (if g.yielding = some .booking then [] else yields)) ∧
        (∀ cl, claimant = some cl → cl.crane = o →
          takes (mapGrant (fun g =>
              { g with
                kind := .booked cl.booking, sliceLeft := r.slice, hold := none, expired := false,
                overstay := false, yielding := none }) e1)
            ((if hasWaiter e = true ∧ g.yielding ≠ some .booking then yields else []) ++
              [eventOf .grant (some o) (some k) cl.booking.toNat 1 4]))))

/-- R72, R73, R74: a lock request of a member appends it once to the lock requests and withdraws its queue entry; the
lock that makes the sector LOCKED ends the grant with a RELEASE event, and an EVACUATE event for a holder present
outside the lock set. An unlock removes the crane; the last one of a sector not closed is followed by the grant
evaluation. SECTOR_CLOSE and SECTOR_OPEN check the sector's number and record, then the mode. Closing ends the grant
with cause CLOSED unless the sector is LOCKED already; opening a sector whose lock set is empty is followed by the
grant evaluation; closing a closed sector and opening one not closed change nothing. That RELEASE stands before
EVACUATE and the order of what an evaluation raises are the model's choice (log 5), that no CONTESTED is raised here
is too (log 24), and that a lock request in CONFIG does nothing and an unlock there only removes the crane is its
reading (log 16). -/
def Obligations.LocksAndClosures : Prop :=
  ∀ (s : State) (k : Sector), s.Ready →
    let r := s.sector k
    let e := s.entry k
    (∀ c : Crane,
      let outside := e.presence.filter (· != c)
      let base : Base := if 2 ≤ outside.length then .contested else .free
      let locked : SectorEntry :=
        { e with
          locks := if c ∈ e.locks then e.locks else e.locks ++ [c]
          queue := withdraw e.queue c }
      let unlocked : SectorEntry := { e with locks := e.locks.filter (· != c) }
      let takes (i : Instr) (e' : SectorEntry) (bs : List EventBody) : Prop :=
        ∃ t, exec i s = .next t ∧ s.EntryTakes t k e' bs
      (r.enabled = false ∨ c ∉ r.members →
        exec (.lockRequest k c) s = .next s ∧ exec (.unlock k c) s = .next s) ∧
      (r.enabled = true → s.mode = .config →
        exec (.lockRequest k c) s = .next s ∧ (c ∈ r.members → takes (.unlock k c) unlocked [])) ∧
      (s.Running k → (s.sectorState k = .held ∨ s.sectorState k = .clearing) → c ∈ r.members →
        takes (.unlock k c) (clearIdleYield e) []) ∧
      (s.Running k → c ∈ r.members →
        (e.closed = false → s.locksOf k = [] →
          (∀ h g, e.base = .held h g →
            takes (.lockRequest k c) { locked with base := base }
              (eventOf .release (some h) (some k) 2 ::
                (if h ∈ outside then [eventOf .evacuate (some h) (some k) 2] else []))) ∧
          (∀ f g left, e.base = .clearing f g left →
            takes (.lockRequest k c) { locked with base := base } [eventOf .release (some f) (some k) 2]) ∧
          (ownerOf e = none → takes (.lockRequest k c) locked [])) ∧
        (e.closed = true ∨ s.locksOf k ≠ [] → ownerOf e = none → takes (.lockRequest k c) locked []) ∧
        (e.closed = true ∨ unlocked.locks ≠ [] → ownerOf e = none → takes (.unlock k c) unlocked []) ∧
        (e.closed = false → unlocked.locks = [] → ownerOf e = none →
          ∃ t e' bs, exec (.unlock k c) s = .next t ∧ s.EntryTakes t k e' bs ∧
            GrantEvaluation k r none unlocked e' bs))) ∧
    (∀ tag : Byte, s.Room →
      let base : Base := if 2 ≤ e.presence.length then .contested else .free
      let closes (e' : SectorEntry) (bs : List EventBody) : Prop :=
        ∃ t, exec (.sectorClose tag (octet1 k.val)) s = .next t ∧
          (s.answered tag 0x30#8 .ok []).EntryTakes t k e' bs
      (∀ n : Byte, 15 < n.toNat →
        exec (.sectorClose tag [n]) s = .next (s.answered tag 0x30#8 .badIndex []) ∧
        exec (.sectorOpen tag [n]) s = .next (s.answered tag 0x31#8 .badIndex [])) ∧
      (r.enabled = false →
        exec (.sectorClose tag (octet1 k.val)) s = .next (s.answered tag 0x30#8 .badIndex []) ∧
        exec (.sectorOpen tag (octet1 k.val)) s = .next (s.answered tag 0x31#8 .badIndex [])) ∧
      (r.enabled = true → s.mode = .config →
        exec (.sectorClose tag (octet1 k.val)) s = .next (s.answered tag 0x30#8 .notArmed []) ∧
        exec (.sectorOpen tag (octet1 k.val)) s = .next (s.answered tag 0x31#8 .notArmed [])) ∧
      (s.Running k → e.closed = true →
        exec (.sectorClose tag (octet1 k.val)) s = .next (s.answered tag 0x30#8 .ok []) ∧
        (s.locksOf k ≠ [] → ownerOf e = none →
          ∃ t, exec (.sectorOpen tag (octet1 k.val)) s = .next t ∧
            (s.answered tag 0x31#8 .ok []).EntryTakes t k { e with closed := false } []) ∧
        (s.locksOf k = [] → ownerOf e = none →
          ∃ t e' bs, exec (.sectorOpen tag (octet1 k.val)) s = .next t ∧
            (s.answered tag 0x31#8 .ok []).EntryTakes t k e' bs ∧
            GrantEvaluation k r none { e with closed := false } e' bs)) ∧
      (s.Running k → e.closed = false →
        exec (.sectorOpen tag (octet1 k.val)) s = .next (s.answered tag 0x31#8 .ok []) ∧
        (s.locksOf k = [] →
          (∀ h g, e.base = .held h g →
            closes { e with closed := true, base := base }
              (eventOf .release (some h) (some k) 1 ::
                (if h ∈ e.presence then [eventOf .evacuate (some h) (some k) 1] else []))) ∧
          (∀ f g left, e.base = .clearing f g left →
            closes { e with closed := true, base := base } [eventOf .release (some f) (some k) 1]) ∧
          (ownerOf e = none → closes { e with closed := true } [])) ∧
        (s.locksOf k ≠ [] → ownerOf e = none → closes { e with closed := true } [])))

/-- R67, R75, R101, R102, R106: a lift is attributed by the sector the crane is present in. A BOOKED holder's is
passed to the booking, a ROUTINE holder's takes one off the slice left, which sets the yield flag when it brings it to
0 while a crane waits; any other lift changes nothing in the arbiter. A lift passed to an ACTIVE booking raises its
lifts done by one, staying at 65535, and does nothing else while its quota is 0 or not reached; the lift that reaches
the quota makes it EXHAUSTED with cause QUOTA, with one BOOKING_STATE event, and the arbiter is sent the report R106
calls for and nothing else. A lift passed to a booking that is not ACTIVE, or is not in the table, is not counted.
That a flag already set raises no second YIELD is the model's choice where its cause is SLICE (log 6). -/
def Obligations.LiftsAttributedAndCounted : Prop :=
  ∀ s : State, s.Ready →
    (∀ c : Crane,
      ((s.position c).present = none → liftAnswer s c = .craneOnly ∧ exec (.liftAttribution c) s = .next s) ∧
      (∀ k, (s.position c).present = some k →
        ((s.sector k).enabled = false ∨ holderOf (s.entry k) ≠ some c →
          liftAnswer s c = .craneOnly ∧ exec (.liftAttribution c) s = .next s) ∧
        ((s.sector k).enabled = true → ∀ g, (s.entry k).base = .held c g →
          (∀ id, g.kind = .booked id →
            liftAnswer s c = .booked k id ∧ exec (.liftAttribution c) s = .next (s.send [.liftCount id])) ∧
          (g.kind = .routine → liftAnswer s c = .routine k) ∧
          (g.kind = .routine → s.mode = .armed → s.sectorState k = .held →
            let lifted : Grant := { g with sliceLeft := g.sliceLeft - 1 }
            let counted : Prop := (s.sector k).slice ≠ 0 ∧ g.sliceLeft ≠ 0
            (¬ counted → ∃ t, exec (.liftAttribution c) s = .next t ∧
              s.EntryTakes t k (clearIdleYield (s.entry k)) []) ∧
            (counted → (hasWaiter (s.entry k) = false ∨ g.sliceLeft ≠ 1) →
              ∃ t, exec (.liftAttribution c) s = .next t ∧
                s.EntryTakes t k (clearIdleYield { s.entry k with base := .held c lifted }) []) ∧
            (counted → hasWaiter (s.entry k) = true → g.sliceLeft = 1 →
              ∃ t, exec (.liftAttribution c) s = .next t ∧
                s.EntryTakes t k
                  { s.entry k with
                    base := .held c { lifted with yielding := if g.yielding = none then some .slice else g.yielding } }
                  (if g.yielding = none then [eventOf .yield (some c) (some k) 0] else [])))))) ∧
    (∀ id : Half, (s.bookings.map (·.id)).Nodup →
      (∀ b ∈ s.bookings, b.id = id → b.state = .active →
        let done := min (b.done + 1) 65535
        let spent : Booking := { b with done := done, state := .exhausted, cause := .quota }
        (b.quota = 0 ∨ done ≠ b.quota →
          exec (.bookedLiftCount id) s =
            .next { s with
              bookings := s.bookings.map (fun x => if x.id = id then { x with done := done } else x) }) ∧
        (b.quota ≠ 0 → done = b.quota →
          ∃ t, exec (.bookedLiftCount id) s = .next t ∧
            t = { s with
                  bookings := s.bookings.map (fun x => if x.id = id then spent else x)
                  events := (s.post (bookingChange (some .active) spent)).events
                  overflow := (s.post (bookingChange (some .active) spent)).overflow
                  inFlight := t.inFlight } ∧
            s.InformsArbiter t)) ∧
      ((∀ b ∈ s.bookings, b.id = id → b.state ≠ .active) → exec (.bookedLiftCount id) s = .next s))

/-- R58, R64, R66, R70: the expiry of a keep timer takes its entry out of the queue. That of the clearing timer ends the
grant with RELEASE, cause CLEARED, and the sector is evaluated; when it passes to another crane, a preempted former
holder goes to the head of the queue with its resume mark set. That of the hold timer sets the overstay flag while a
crane waits, and the expired mark otherwise. That RELEASE stands before what the evaluation raises, and that on a
stopped timer nothing happens, are the model's choices (logs 5 and 2). -/
def Obligations.SectorTimersExpire : Prop :=
  ∀ (s : State) (k : Sector) (c : Crane), s.Ready →
    let r := s.sector k
    let e := s.entry k
    let takes (i : Instr) (e' : SectorEntry) (bs : List EventBody) : Prop :=
      ∃ t, exec i s = .next t ∧ s.EntryTakes t k e' bs
    (queued e c = false → exec (.keepTimerExpiry k c) s = .next s) ∧
    (s.Running k → queued e c = true → s.KeepsState k →
      takes (.keepTimerExpiry k c) (clearIdleYield { e with queue := withdraw e.queue c }) []) ∧
    (s.Running k → queued e c = true → s.sectorState k = .free →
      ∃ t e' bs, exec (.keepTimerExpiry k c) s = .next t ∧ s.EntryTakes t k e' bs ∧
        GrantEvaluation k r none { e with queue := withdraw e.queue c } e' bs) ∧
    ((∀ f g left, e.base ≠ .clearing f g left) → exec (.clearingExpiry k) s = .next s) ∧
    (s.Running k → s.sectorState k = .clearing → ∀ f g left, e.base = .clearing f g left →
      ∃ t e1 e2 bs, exec (.clearingExpiry k) s = .next t ∧
        s.EntryTakes t k e2 (eventOf .release (some f) (some k) 0 :: bs) ∧
        GrantEvaluation k r none { e with base := .free } e1 bs ∧
        (∀ h cl, g.kind = .routine → g.yielding = some .booking → e.claimant = some cl → cl.crane ≠ f →
          holderOf e1 = some h → h ≠ f →
          e2 = { e1 with
            queue := { crane := f, keep := s.site.keepTime, resume := true } :: withdraw e1.queue f }) ∧
        (g.kind ≠ .routine ∨ g.yielding ≠ some .booking ∨ (∀ cl, e.claimant = some cl → cl.crane = f) ∨
          holderOf e1 = none ∨ holderOf e1 = some f → e2 = e1)) ∧
    ((∀ g, grantOf e = some g → g.hold = none) → exec (.holdTimerExpiry k) s = .next s) ∧
    (s.Running k → (s.sectorState k = .held ∨ s.sectorState k = .clearing) →
      ∀ o g, ownerOf e = some o → grantOf e = some g → g.hold ≠ none →
      (hasWaiter e = true →
        takes (.holdTimerExpiry k) (mapGrant (fun g => { g with hold := none, overstay := true }) e)
          [eventOf .overstay (some o) (some k)]) ∧
      (hasWaiter e = false →
        takes (.holdTimerExpiry k)
          (mapGrant (fun g => { g with hold := none, expired := true, yielding := none }) e) []))

/-- R60: while a member of a sector obstructs it, no command newly grants the sector: a crane that holds it afterwards
held it before, or was its former holder in CLEARING. -/
def Obligations.NoNewGrantWhileObstructed : Prop :=
  ∀ (i : Instr) (s t : State), s.Ready → exec i s = .next t →
    ∀ k h, (t.entry k).obstruction ≠ [] → holderOf (t.entry k) = some h → ownerOf (s.entry k) = some h

/-- R76: after an event of a sector's entry the permit path is told of each crane whose grant ended, that became an
exit crane or an intruded holder, or that holds a grant which came to overstay, to yield or to be owned by a booking;
it is told of no crane that had no grant before the event, has none after it and did not become an exit crane. The wind
monitor is told when the lock set changed, and when a member's presence changed while locks are requested, and not
otherwise; but for the count of a BOOKED lift no other notice is sent. That a former holder in CLEARING is told of no
flag is the model's reading (log 7). -/
def Obligations.SectorChangesNotified : Prop :=
  ∀ (i : Instr) (k : Sector) (s : State), s.Ready → (s.sector k).enabled = true →
    (∃ c change, i = .presenceReport k c change) ∨ (∃ c, i = .knock k c) ∨
      (∃ left claimant, i = .bookedClaimantChange k left claimant) ∨ (∃ c, i = .lockRequest k c) ∨
      (∃ c, i = .unlock k c) ∨ (∃ tag, i = .sectorClose tag (octet1 k.val)) ∨
      (∃ tag, i = .sectorOpen tag (octet1 k.val)) ∨ (∃ c, i = .keepTimerExpiry k c) ∨
      i = .clearingExpiry k ∨ i = .holdTimerExpiry k ∨
      (∃ c, i = .liftAttribution c ∧ (s.position c).present = some k) →
    let exits (u : State) (c : Crane) : Prop :=
      c ∈ (u.entry k).presence ∧ holderOf (u.entry k) ≠ some c ∧ c ∉ u.locksOf k
    ∃ t, exec i s = .next t ∧
      (∀ o, ownerOf (s.entry k) = some o → ownerOf (t.entry k) ≠ some o → .limit o ∈ t.inFlight) ∧
      (∀ c, exits t c → ¬ exits s c → .limit c ∈ t.inFlight) ∧
      (∀ h, intruded (t.entry k) = some h → intruded (s.entry k) ≠ some h → .limit h ∈ t.inFlight) ∧
      (∀ h g, (t.entry k).base = .held h g →
        let former := grantOf (s.entry k)
        (g.overstay = true → (∀ g', former = some g' → g'.overstay = false) → .limit h ∈ t.inFlight) ∧
        (g.yielding ≠ none → (∀ g', former = some g' → g'.yielding = none) → .limit h ∈ t.inFlight) ∧
        (∀ id, g.kind = .booked id → (∀ g', former = some g' → g'.kind ≠ .booked id) → .limit h ∈ t.inFlight)) ∧
      (∀ c, .limit c ∈ t.inFlight →
        ownerOf (s.entry k) = some c ∨ holderOf (t.entry k) = some c ∨ (exits t c ∧ ¬ exits s c)) ∧
      (.handshake k ∈ t.inFlight ↔ t.locksOf k ≠ s.locksOf k ∨
        ((t.entry k).presence ≠ (s.entry k).presence ∧ (t.entry k).locks ≠ [])) ∧
      (∀ n ∈ t.inFlight, n = .handshake k ∨ (∃ c, n = .limit c) ∨
        (∃ c id, i = .liftAttribution c ∧ n = .liftCount id))

/-! ### Positions, loads and wind (R18 to R33, R79 to R90, R109 to R138) -/

/-- R6, R10, R13, R25, R28, R29, R30, R50, R87, R109, R138, R171: the terms of a crane. It is a member of the enabled
sectors that list it; a profile is valid when its fields lie in their ranges and stand in their relations; it is
parked when TRACKED, inside its parking radius, above its parking height and unloaded; it is present in the sector of
its current SHARED segment, in a HOOK sector only within the segment's band; it obstructs the sectors of which it is a
member while it has no position; the figures it uses are its source's, 0 for none; its beacon condition is FAULT
without a position or a source and otherwise its wind state's; the booked sector it overloads is the lowest-numbered;
a line is driven by the highest-numbered present crane whose record names it. A change of its standing in a sector calls
for the report of R30's table, and none where neither its presence nor its obstruction there has changed. -/
def Obligations.CraneTermsMean : Prop :=
  (∀ p : WindProfile, profileValid p = true ↔ p.InRange) ∧
  (∀ (s : State) (c : Crane),
    let p := s.position c
    let w := s.windOf c
    let r := if p.trolleyOk = true then min p.radius (s.crane c).jib else (s.crane c).jib
    let h := if p.hoistOk = true then p.height else 0
    let located : Prop := p.state = .tracked ∨ p.state = .degraded
    let overloads (load : Nat) (k : Sector) (id : Half) (m : Nat) : Prop :=
      ∃ g b, (s.entry k).base = .held c g ∧ g.kind = .booked id ∧ s.bookings.find? (fun b => b.id == id) = some b ∧
        b.maxLoad = m ∧ 0 < m ∧ m < load
    s.profileOf c = s.profile (s.crane c).profile ∧
    (∀ k, s.isMember k c = true ↔ (s.sector k).enabled = true ∧ c ∈ (s.sector k).members) ∧
    s.sectorsOf c = (List.finRange 16).filter (fun k => s.isMember k c) ∧
    (s.parked c = true ↔ p.state = .tracked ∧ r ≤ (s.crane c).parkRadius ∧ (s.crane c).parkHeight ≤ h ∧
      (s.detector c).state = .unloaded) ∧
    (∀ k, s.presenceOf c = some k ↔ ∃ i g, s.StandsIn c i g ∧ g.kind = .shared ∧ g.sector = k ∧
      s.isMember k c = true ∧ ((s.sector k).clash = .jib ∨ (g.rLo ≤ r ∧ r ≤ g.rHi))) ∧
    (located → s.obstructedBy c = []) ∧ (¬ located → s.obstructedBy c = s.sectorsOf c) ∧
    (w.source = .none → s.gustNumber c = 0 ∧ s.meanNumber c = 0) ∧
    (w.source = .own → s.gustNumber c = w.ownGust.getD 0 ∧ s.meanNumber c = w.ownMean.getD 0) ∧
    (∀ l, w.source = .borrowed l →
      s.gustNumber c = (s.windOf l).ownGust.getD 0 ∧ s.meanNumber c = (s.windOf l).ownMean.getD 0) ∧
    (¬ located ∨ w.source = .none → s.beaconCondition c = .fault) ∧
    (located → w.source ≠ .none → s.beaconCondition c =
      match w.state with
      | .vane => .vane | .vanePending => .vanePending | .stop => .stop | .alert => .alert | .calm => .off) ∧
    (∀ load k id m, s.overloadedSector c load = some (k, id, m) ↔
      overloads load k id m ∧ ∀ j, j < k → ∀ id m, ¬ overloads load j id m)) ∧
  (∀ (s : State) (n : BeaconLine) (d : Crane), s.lineDriver n = some d ↔
    (s.crane d).present = true ∧ (s.crane d).beaconLine = some n ∧
    ∀ e, d < e → (s.crane e).present = true → (s.crane e).beaconLine ≠ some n) ∧
  (∀ before now : Bool,
    presenceChange false true before before = some .enter ∧
    presenceChange true false before before = some .leave ∧
    presenceChange true now false true = some .obstructLeave ∧
    presenceChange false now false true = some .obstruct ∧
    presenceChange before true true false = some .unobstructEnter ∧
    presenceChange before false true false = some .unobstruct ∧
    presenceChange now now before before = none)

/-- R19 to R32: an accepted MOTION frame of a present crane replaces the position record field by field, with the
angle corrected, each value of an axis reported ok clamped and marked, and presence recomputed from the record it
leaves; the sectors whose presence changed are told before the detector is given its sample, then the wind monitor is
told, then the booking table of a change of position state, then the permit path and the beacon driver of what
concerns them: R32 lists them so, and that they are told in that order is the model's reading (log 3). That the RANGE
events stand before the position event is the model's choice
(log 5). -/
def Obligations.MotionFrameTaken : Prop :=
  ∀ (s : State) (c : Crane) (f : MotionFrame), s.Ready → (s.crane c).present = true →
    (∀ q, (s.position c).seqRef = some q → 1 ≤ (f.seq - q).toNat ∧ (f.seq - q).toNat ≤ 127) →
    let p := s.position c
    let jib := (s.crane c).jib
    let slew : Bool := f.slewOk && decide (f.rawAngle.toNat < 8192)
    let state : PositionState :=
      if slew = false then .lost else if f.trolleyOk = true ∧ f.hoistOk = true then .tracked else .degraded
    let range (ok mark : Bool) (axis top value : Nat) : List EventBody :=
      if ok = true ∧ top < value ∧ mark = false then [eventOf .range (some c) none axis value] else []
    let raised := range f.trolleyOk p.radiusMark 0 jib f.radius.toNat
      ++ range f.hoistOk p.heightMark 1 3000 f.height.toNat ++ range f.loadOk p.loadMark 2 8000 f.load.toNat
      ++ (if state = .lost then (if p.state = .lost then [] else [eventOf .positionLost (some c) none 0])
          else if p.state = .tracked ∨ p.state = .degraded then []
          else [eventOf .positionRegained (some c) none (if state = .tracked then 1 else 2)])
    ∃ t, exec (.motion c f) s = .next t ∧
      let q := t.position c
      t = { s.hunting (linkOf c) with
            positions := s.positions.write c q
            events := (s.postAll raised).events, overflow := (s.postAll raised).overflow
            inFlight := t.inFlight } ∧
      q = { state := state
            seqRef := if slew = true then some f.seq else none
            stale := if slew = true then some s.site.positionStale else none
            slewOk := slew, trolleyOk := f.trolleyOk, hoistOk := f.hoistOk, loadOk := f.loadOk
            angle := if slew = true then (((f.rawAngle.toNat : Int) - (s.crane c).slewOffset) % 8192).toNat
              else p.angle
            radius := if f.trolleyOk = true then min f.radius.toNat jib else p.radius
            height := if f.hoistOk = true then min f.height.toNat 3000 else p.height
            load := if f.loadOk = true then min f.load.toNat 8000 else p.load
            radiusMark := if f.trolleyOk = true then decide (jib < f.radius.toNat) else p.radiusMark
            heightMark := if f.hoistOk = true then decide (3000 < f.height.toNat) else p.heightMark
            loadMark := if f.loadOk = true then decide (8000 < f.load.toNat) else p.loadMark
            present := t.presenceOf c, obstructed := t.obstructedBy c } ∧
      (∃ reports others,
        t.inFlight = reports ++ (if f.loadOk = true then [.loadSample c q.load] else []) ++ [.motionTaken c]
          ++ (if q.state ≠ p.state then [.craneCondition c] else []) ++ others ∧
        (∀ n ∈ reports, ∃ k change, n = .presence k c change) ∧
        (∀ n ∈ others, n = .limit c ∨ ∃ cond, n = .beacon c cond)) ∧
      (∀ k d change, .presence k d change ∈ t.inFlight ↔
        d = c ∧ presenceChange (p.present == some k) (q.present == some k) (p.obstructed.contains k)
          (q.obstructed.contains k) = some change) ∧
      (∀ d x, .loadSample d x ∈ t.inFlight ↔ d = c ∧ f.loadOk = true ∧ x = q.load) ∧
      .motionTaken c ∈ t.inFlight ∧
      (.craneCondition c ∈ t.inFlight ↔ q.state ≠ p.state) ∧
      (.limit c ∈ t.inFlight ↔ (q.state = .lost ∧ p.state ≠ .lost) ∨ (p.trolleyOk = true ∧ f.trolleyOk = false) ∨
        (p.hoistOk = true ∧ f.hoistOk = false)) ∧
      (∀ d cond, .beacon d cond ∈ t.inFlight ↔
        d = c ∧ cond = t.beaconCondition c ∧ s.beaconCondition c ≠ cond)

/-- R24, R26, R30, R32, R117 to R120, R138: when the position stale timer expires the crane goes LOST, keeps its held values, opens its
reference and obstructs every sector of which it is a member; when the wind stale timer expires the fine ring and
the accumulator are emptied, the block means kept, the own figures become none, and every present crane's source is
selected again. The booking table and the permit path are told of the entry to LOST, each crane whose source
changes is evaluated, the beacon driver is told of each crane whose beacon condition changes, and nothing else is told.
On a stopped timer nothing happens (log 2). -/
def Obligations.StaleTimersExpire : Prop :=
  ∀ (s : State) (c : Crane), s.Ready →
    let p := s.position c
    let w := s.windOf c
    let lost := if p.state = .lost then [] else [eventOf .positionLost (some c) none 1]
    (p.stale = none → exec (.positionStaleExpiry c) s = .next s) ∧
    (p.stale ≠ none →
      ∃ t, exec (.positionStaleExpiry c) s = .next t ∧
        t = { s with
              positions := s.positions.write c
                { p with state := .lost, stale := none, seqRef := none, present := none, obstructed := s.sectorsOf c }
              events := (s.postAll lost).events, overflow := (s.postAll lost).overflow, inFlight := t.inFlight } ∧
        (∀ k d change, .presence k d change ∈ t.inFlight ↔
          d = c ∧ presenceChange (p.present == some k) false (p.obstructed.contains k) (s.isMember k c)
            = some change) ∧
        .craneCondition c ∈ t.inFlight ∧ .limit c ∈ t.inFlight ∧ s.TellsBeacons t ∧
        (∀ m ∈ t.inFlight, m = .craneCondition c ∨ m = .limit c ∨ (∃ k change, m = .presence k c change) ∨
          ∃ d cond, m = .beacon d cond)) ∧
    (w.ownStale = none → exec (.windStaleExpiry c) s = .next s) ∧
    (w.ownStale ≠ none →
      ∃ t, exec (.windStaleExpiry c) s = .next t ∧
        t = { s with
              winds := t.winds
              events := (s.postAll (sourceChanges s t)).events
              overflow := (s.postAll (sourceChanges s t)).overflow
              inFlight := t.inFlight } ∧
        t.windOf c =
          { w with
            ownStale := none, seqRef := none, fine := { w.fine with fill := 0 }, accSum := 0, accCount := 0,
            fresh := false, ownGust := none, ownMean := none, source := (t.windOf c).source } ∧
        (∀ d, d ≠ c → t.windOf d = { s.windOf d with source := (t.windOf d).source }) ∧
        (∀ d, (s.crane d).present = false → (t.windOf d).source = (s.windOf d).source) ∧
        t.SourcesSelected ∧
        (∀ d, .evaluation d ∈ t.inFlight ↔ (s.crane d).present = true ∧ profileValid (s.profileOf d) = true ∧
          (t.windOf d).source ≠ (s.windOf d).source) ∧
        s.TellsBeacons t ∧ (∀ m ∈ t.inFlight, (∃ d, m = .evaluation d) ∨ ∃ d cond, m = .beacon d cond))

/-- R80 to R88: each load sample moves the detector by its state, the pick and set-down thresholds and the debounce;
under no-pick a pick is not confirmed; the peak is raised; a sample over the booked max load sets the overload flag and
is reported once in a cycle. A confirmed set-down completes the lift: the arbiter attributes it as LIFT_ATTRIBUTION
does, LIFT is raised, and the record starts a new cycle. -/
def Obligations.LoadSampleMovesDetector : Prop :=
  ∀ (s : State) (c : Crane) (x : Nat), s.Ready →
    let r := s.crane c
    let d := s.detector c
    let peak := max d.peak x
    let moves (d' : Detector) : Prop :=
      let exceeds : Bool := (d'.state == .picking || d'.state == .loaded) && (s.overloadedSector c x).isSome
      ∃ t, exec (.loadSample c x) s = .next t ∧
        t = { s with
              detectors := s.detectors.write c { d' with overload := exceeds, reported := d'.reported || exceeds }
              events := t.events, overflow := t.overflow
              inFlight :=
                (if d.state = .unloaded ∧ d'.state = .picking ∧ s.noPick c = true then [.limit c] else [])
                  ++ (if exceeds = true ∧ d.overload = false then [.limit c] else []) } ∧
        (exceeds = false ∨ d'.reported = true → t.events = s.events ∧ t.overflow = s.overflow) ∧
        (∀ k id m, exceeds = true → d'.reported = false → s.overloadedSector c x = some (k, id, m) →
          let e := eventOf .bookedOverload (some c) (some k) id.toNat x m
          t.events = (s.post e).events ∧ t.overflow = (s.post e).overflow)
    let lift : EventBody :=
      match liftAnswer s c with
      | .booked k id => eventOf .lift (some c) (some k) id.toNat peak 0
      | .routine k => eventOf .lift (some c) (some k) 0 peak 1
      | .craneOnly => eventOf .lift (some c) none 0 peak 2
    let lifts : Prop :=
      ∃ t u, exec (.loadSample c x) s = .next t ∧ exec (.liftAttribution c) s = .next u ∧
        t = { u with
              detectors := s.detectors.write c
                { state := .unloaded, run := 0, peak := 0, lifts := d.lifts + 1, overload := false,
                  reported := false, lastLift := some { peak := peak, attribution := liftAnswer s c } }
              events := (u.post lift).events, overflow := (u.post lift).overflow }
    (d.state = .unloaded →
      (x < r.pick → moves { d with run := 0, peak := 0 }) ∧
      (r.pick ≤ x → r.debounce = 0 → s.noPick c = false →
        moves { d with state := .loaded, run := 0, peak := x, reported := false }) ∧
      (r.pick ≤ x → (r.debounce ≠ 0 ∨ s.noPick c = true) →
        moves { d with state := .picking, run := 1, peak := x, reported := false })) ∧
    (d.state = .picking →
      (x < r.pick →
        moves { d with state := .unloaded, run := 0, peak := 0, overload := false, reported := false }) ∧
      (r.pick ≤ x → r.debounce ≤ d.run → s.noPick c = false →
        moves { d with state := .loaded, run := 0, peak := peak }) ∧
      (r.pick ≤ x → (d.run < r.debounce ∨ s.noPick c = true) →
        moves { d with run := min (d.run + 1) (r.debounce + 1), peak := peak })) ∧
    (d.state = .loaded →
      (r.setDown < x → moves { d with peak := peak }) ∧
      (x ≤ r.setDown → r.debounce = 0 → lifts) ∧
      (x ≤ r.setDown → r.debounce ≠ 0 → moves { d with state := .setting, run := 1, peak := peak })) ∧
    (d.state = .setting →
      (r.setDown < x → moves { d with state := .loaded, run := 0, peak := peak }) ∧
      (x ≤ r.setDown → r.debounce ≤ d.run → lifts) ∧
      (x ≤ r.setDown → d.run < r.debounce → moves { d with run := d.run + 1, peak := peak }))

/-- R110 to R120, R138: an accepted WIND frame of a present crane takes its sequence; with the anemometer ok its speed is
clamped to 600 and marked; under a valid profile it is written to the fine ring and to the accumulator, whose block is
closed at the block length, the own gust and mean are recomputed, the source is fresh, and every source is selected
again; the cranes that use the sample or whose source changed are evaluated, the beacon driver is told of those whose beacon
condition changed, and nothing else is told. -/
def Obligations.WindSampleWritten : Prop :=
  ∀ (s : State) (c : Crane) (f : WindFrame), s.Ready → (s.crane c).present = true →
    (∀ q, (s.windOf c).seqRef = some q → 1 ≤ (f.seq - q).toNat ∧ (f.seq - q).toNat ≤ 127) →
    let w := s.windOf c
    let p := s.profileOf c
    let x := min f.speed.toNat 600
    let marked : WindRecord := { w with seqRef := some f.seq, excursion := decide (600 < f.speed.toNat) }
    let range : List EventBody :=
      if 600 < f.speed.toNat ∧ w.excursion = false then [eventOf .range (some c) none 3 f.speed.toNat] else []
    (f.anemometerOk = false →
      exec (.wind c f) s =
        .next { s.hunting (linkOf c) with winds := s.winds.write c { w with seqRef := some f.seq } }) ∧
    (f.anemometerOk = true → profileValid p = false →
      exec (.wind c f) s =
        .next { s.hunting (linkOf c) with
          winds := s.winds.write c marked
          events := (s.postAll range).events, overflow := (s.postAll range).overflow }) ∧
    (f.anemometerOk = true → profileValid p = true →
      ∃ t, exec (.wind c f) s = .next t ∧
        let v := t.windOf c
        let closes : Prop := p.blockLength ≤ w.accCount + 1
        let newest {n : Nat} [NeZero n] (ring : Ring n) (count : Nat) : Nat :=
          ((List.range count).map (fun i => ring.slots.read (ring.base - Fin.ofNat n i))).sum / count
        t = { s.hunting (linkOf c) with
              winds := t.winds
              events := (s.postAll (range ++ sourceChanges s t)).events
              overflow := (s.postAll (range ++ sourceChanges s t)).overflow
              inFlight := t.inFlight } ∧
        v = { marked with
              fine := v.fine, accSum := v.accSum, accCount := v.accCount, coarse := v.coarse
              ownStale := some s.site.windStale, fresh := true, ownGust := v.ownGust, ownMean := v.ownMean
              source := .own } ∧
        v.fine = { slots := w.fine.slots.write (w.fine.base + 1) x, base := w.fine.base + 1,
                   fill := min (w.fine.fill + 1) 16 } ∧
        (closes → v.accSum = 0 ∧ v.accCount = 0 ∧
          v.coarse = { slots := w.coarse.slots.write (w.coarse.base + 1) ((w.accSum + x) / p.blockLength),
                       base := w.coarse.base + 1, fill := min (w.coarse.fill + 1) 64 }) ∧
        (¬ closes → v.accSum = w.accSum + x ∧ v.accCount = w.accCount + 1 ∧ v.coarse = w.coarse) ∧
        v.ownGust = some (newest v.fine (min v.fine.fill p.gustWindow)) ∧
        v.ownMean = (if v.coarse.fill = 0 then v.ownGust
          else some (newest v.coarse (min v.coarse.fill p.meanBlocks))) ∧
        (∀ d, d ≠ c → t.windOf d = { s.windOf d with source := (t.windOf d).source }) ∧
        (∀ d, (s.crane d).present = false → (t.windOf d).source = (s.windOf d).source) ∧
        t.SourcesSelected ∧
        (∀ d, .evaluation d ∈ t.inFlight ↔ (s.crane d).present = true ∧ profileValid (s.profileOf d) = true ∧
          (d = c ∨ (t.windOf d).source = .borrowed c ∨ (t.windOf d).source ≠ (s.windOf d).source)) ∧
        s.TellsBeacons t ∧ (∀ m ∈ t.inFlight, (∃ d, m = .evaluation d) ∨ ∃ d cond, m = .beacon d cond))

/-- R124 to R130: an evaluation of a present crane whose profile is valid. CALM and ALERT count towards STOP first, then
towards each other, and lose to a source of none at once; STOP starts its recovery timer while both figures are low and
stops it otherwise; VANE_PENDING and VANE do nothing. On entry to STOP an AUTO profile starts the vane delay; a delay
of 0 makes the attempt within the event. A crane whose profile is invalid is not evaluated (R14); that an evaluation of
such a crane, or of an absent one, does nothing when it is given as a command is the model's reading (log 19). -/
def Obligations.EvaluationApplied : Prop :=
  ∀ (s : State) (c : Crane), s.Ready →
    let p := s.profileOf c
    let w := s.windOf c
    let gust := s.gustNumber c
    let mean := s.meanNumber c
    let stopCount := if p.stopGust ≤ gust ∨ p.stopMean ≤ mean then min (w.stopCount + 1) (p.debounce + 1) else 0
    let alertCount := if p.alertOn ≤ gust then min (w.alertCount + 1) (p.debounce + 1) else 0
    let calmCount := if gust ≤ p.alertOff ∧ mean ≤ p.alertOff then min (w.calmCount + 1) (p.debounce + 1) else 0
    let changes (w' : WindRecord) (cause : Nat) : Prop :=
      ∃ t, exec (.evaluation c) s = .next t ∧
        t = { s with
              winds := s.winds.write c w'
              events := (s.post (s.windStateEvent c w'.state cause)).events
              overflow := (s.post (s.windStateEvent c w'.state cause)).overflow
              inFlight := t.inFlight } ∧ s.TellsWindState t c
    let stops (cause : Nat) : Prop :=
      let stopped : WindRecord := { w with state := .stop, stopCount := 0, alertCount := 0, calmCount := 0 }
      (p.vaneMode = .manual → changes { stopped with vaneDelay := none } cause) ∧
      (p.vaneMode = .auto → p.vaneDelay ≠ 0 → changes { stopped with vaneDelay := some p.vaneDelay } cause) ∧
      (p.vaneMode = .auto → p.vaneDelay = 0 → (s.mode = .config ∨ s.parked c = false) →
        changes { stopped with vaneDelay := none, vaneWait := true } cause) ∧
      (p.vaneMode = .auto → p.vaneDelay = 0 → s.mode = .armed → s.parked c = true →
        let e := s.windStateEvent c .stop cause
        let u : State :=
          { s with
            winds := s.winds.write c { stopped with vaneDelay := none }
            events := (s.post e).events, overflow := (s.post e).overflow }
        ∃ t, exec (.evaluation c) s = .next t ∧ u.HeadsForVane t c 3)
    (((s.crane c).present = false ∨ profileValid p = false) → exec (.evaluation c) s = .next s) ∧
    ((s.crane c).present = true → profileValid p = true →
      (w.state = .vanePending ∨ w.state = .vane → exec (.evaluation c) s = .next s) ∧
      (w.state = .calm ∨ w.state = .alert → w.source = .none → stops 2) ∧
      (w.state = .calm ∨ w.state = .alert → w.source ≠ .none → stopCount = p.debounce + 1 → stops 0) ∧
      (w.state = .calm → w.source ≠ .none → stopCount ≠ p.debounce + 1 → alertCount = p.debounce + 1 →
        changes { w with state := .alert, stopCount := stopCount, alertCount := 0, calmCount := 0 } 0) ∧
      (w.state = .calm → w.source ≠ .none → stopCount ≠ p.debounce + 1 → alertCount ≠ p.debounce + 1 →
        exec (.evaluation c) s =
          .next (s.setWind c { w with stopCount := stopCount, alertCount := alertCount, calmCount := 0 })) ∧
      (w.state = .alert → w.source ≠ .none → stopCount ≠ p.debounce + 1 → calmCount = p.debounce + 1 →
        changes { w with state := .calm, stopCount := stopCount, alertCount := 0, calmCount := 0 } 0) ∧
      (w.state = .alert → w.source ≠ .none → stopCount ≠ p.debounce + 1 → calmCount ≠ p.debounce + 1 →
        exec (.evaluation c) s =
          .next (s.setWind c { w with stopCount := stopCount, alertCount := 0, calmCount := calmCount })) ∧
      (w.state = .stop → w.source ≠ .none → gust ≤ p.stopOff → mean ≤ p.stopOff →
        exec (.evaluation c) s =
          .next (s.setWind c { w with recovery := some (w.recovery.getD p.recovery) })) ∧
      (w.state = .stop → (w.source = .none ∨ p.stopOff < gust ∨ p.stopOff < mean) →
        exec (.evaluation c) s = .next (s.setWind c { w with recovery := none })))

/-- R127, R130, R134, R137: the recovery timer's expiry takes a crane from STOP to ALERT, unless the timer stands
because the crane is absent, its profile is invalid or its source is NONE; the vane delay's makes the automatic
attempt, which heads for vane when the crane is parked in the ARMED site and is otherwise made again at each MOTION
frame; the vane timeout's raises VANE_BLOCKED for the first sector that keeps the crane from vaning, naming the
lowest-numbered member present outside its lock set when the crane is in that set. On a stopped
timer nothing happens (log 2), and a vane timeout that finds no such sector raises nothing (log 15): both are the
model's choice. That the recovery timer stands under an invalid profile, that all three stand while the crane is
absent, and that the vane delay and the vane timeout do not stand under an invalid profile, is its reading (log
23). -/
def Obligations.WindTimersExpire : Prop :=
  ∀ (s : State) (c : Crane), s.Ready →
    let w := s.windOf c
    let may : Prop := s.mode = .armed ∧ s.parked c = true
    (w.recovery = none ∨ w.state ≠ .stop ∨ ¬ s.RecoveryRuns c → exec (.recoveryExpiry c) s = .next s) ∧
    (w.recovery ≠ none → w.state = .stop → s.RecoveryRuns c →
      ∃ t, exec (.recoveryExpiry c) s = .next t ∧
        t = { s with
              winds := s.winds.write c
                { w with
                  state := .alert, stopCount := 0, alertCount := 0, calmCount := 0, recovery := none,
                  vaneDelay := none, vaneWait := false }
              events := (s.post (s.windStateEvent c .alert 1)).events
              overflow := (s.post (s.windStateEvent c .alert 1)).overflow
              inFlight := t.inFlight } ∧ s.TellsWindState t c) ∧
    (w.vaneDelay = none ∨ (s.crane c).present = false → exec (.vaneDelayExpiry c) s = .next s) ∧
    (w.vaneDelay ≠ none → (s.crane c).present = true →
      (w.state ≠ .stop → exec (.vaneDelayExpiry c) s = .next (s.setWind c { w with vaneDelay := none })) ∧
      (w.state = .stop → ¬ may →
        exec (.vaneDelayExpiry c) s = .next (s.setWind c { w with vaneDelay := none, vaneWait := true })) ∧
      (w.state = .stop → may → ∃ t, exec (.vaneDelayExpiry c) s = .next t ∧ s.HeadsForVane t c 3)) ∧
    (w.vaneWait = false ∨ w.state ≠ .stop ∨ ¬ may → exec (.motionFrameNotice c) s = .next s) ∧
    (w.vaneWait = true → w.state = .stop → may →
      ∃ t, exec (.motionFrameNotice c) s = .next t ∧ s.HeadsForVane t c 3) ∧
    (w.vaneTimeout = none ∨ w.state ≠ .vanePending ∨ (s.crane c).present = false →
      exec (.vaneTimeoutExpiry c) s = .next s) ∧
    (w.vaneTimeout ≠ none → w.state = .vanePending → (s.crane c).present = true →
      let expired := s.setWind c { w with vaneTimeout := none }
      (∀ k, s.BlocksVane c k → (∀ j, j < k → ¬ s.BlocksVane c j) →
        (c ∉ s.locksOf k →
          exec (.vaneTimeoutExpiry c) s = .next (expired.post (eventOf .vaneBlocked (some c) (some k) 0 65535))) ∧
        (∀ d, c ∈ s.locksOf k → d ∈ (s.entry k).presence → d ∉ s.locksOf k →
          (∀ e, e ∈ (s.entry k).presence → e ∉ s.locksOf k → d ≤ e) →
          exec (.vaneTimeoutExpiry c) s = .next (expired.post (eventOf .vaneBlocked (some c) (some k) 1 d.val)))) ∧
      ((∀ k, ¬ s.BlocksVane c k) → exec (.vaneTimeoutExpiry c) s = .next expired))

/-- R131 to R133, R136: a handshake report gives VANE to each member in VANE_PENDING that no sector keeps from it. VANE
and RESUME check the crane, the mode and the wind state in that order, then that the crane is parked, or that the wind
is low; VANE heads for vane, RESUME takes the crane to ALERT and sends the unlocks. That the VANE_RELEASED records of
several cranes freed by one report stand in ascending crane number is the model's choice (log 5). -/
def Obligations.VaneAndResume : Prop :=
  ∀ (s : State), s.Ready →
    (∀ k,
      let freed (d : Crane) : Bool :=
        s.isMember k d && (s.windOf d).state == .vanePending && decide (∀ j, ¬ s.BlocksVane d j)
      let raised := (allCranes.filter freed).map (fun d =>
        eventOf .vaneReleased (some d) none (s.sectorsOf d).length)
      ∃ t, exec (.handshakeReport k) s = .next t ∧
        t = { s with
              winds := t.winds, events := (s.postAll raised).events, overflow := (s.postAll raised).overflow
              inFlight := t.inFlight } ∧
        ∀ d, (freed d = true →
            t.windOf d = { s.windOf d with state := .vane, vaneTimeout := none } ∧ s.TellsWindState t d) ∧
          (freed d = false → t.windOf d = s.windOf d)) ∧
    (∀ (tag n : Byte), s.Room → 7 < n.toNat →
      exec (.vane tag [n]) s = .next (s.answered tag 0x32#8 .badIndex []) ∧
      exec (.resume tag [n]) s = .next (s.answered tag 0x33#8 .badIndex [])) ∧
    (∀ (tag : Byte) (c : Crane), s.Room →
      let w := s.windOf c
      let low : Prop := w.source ≠ .none ∧ s.gustNumber c ≤ (s.profileOf c).stopOff ∧
        s.meanNumber c ≤ (s.profileOf c).stopOff
      let vane := exec (.vane tag (octet1 c.val)) s
      let resume := exec (.resume tag (octet1 c.val)) s
      ((s.crane c).present = false →
        vane = .next (s.answered tag 0x32#8 .badIndex []) ∧ resume = .next (s.answered tag 0x33#8 .badIndex [])) ∧
      ((s.crane c).present = true → s.mode = .config →
        vane = .next (s.answered tag 0x32#8 .notArmed []) ∧ resume = .next (s.answered tag 0x33#8 .notArmed [])) ∧
      ((s.crane c).present = true → s.mode = .armed →
        (w.state ≠ .stop → vane = .next (s.answered tag 0x32#8 .wrongState [])) ∧
        (w.state = .stop → s.parked c = false → vane = .next (s.answered tag 0x32#8 .notParked [])) ∧
        (w.state = .stop → s.parked c = true →
          ∃ t, vane = .next t ∧ (s.answered tag 0x32#8 .ok []).HeadsForVane t c 4) ∧
        (w.state ≠ .vanePending → w.state ≠ .vane → resume = .next (s.answered tag 0x33#8 .wrongState [])) ∧
        (w.state = .vanePending ∨ w.state = .vane → ¬ low → resume = .next (s.answered tag 0x33#8 .windHigh [])) ∧
        (w.state = .vanePending ∨ w.state = .vane → low →
          let e := eventOf .resumed (some c) none (if w.state = .vanePending then 3 else 4)
          ∃ t, resume = .next t ∧
            t = { s.answered tag 0x33#8 .ok [] with
                  winds := s.winds.write c
                    { w with state := .alert, stopCount := 0, alertCount := 0, calmCount := 0, vaneTimeout := none }
                  events := (s.post e).events, overflow := (s.post e).overflow, inFlight := t.inFlight } ∧
            s.TellsWindState t c ∧ ∀ k, s.isMember k c = true → .unlock k c ∈ t.inFlight)))

/-! ### Limits and permits (R34 to R53, R139 to R149) -/

/-- R35, R46, R47, R51, R52: the permitted speed of an axis has the direction of the demand, exceeds neither it nor
any contribution in that direction, and is the demand itself exactly when the reason is NONE; otherwise the reason
names the first contribution, in the order SITE, POSN, WIND, EXIT, SECT, BOOK, ZONE, that sets it. In CONFIG, under
SITE HOLD, without a position, and in VANE_PENDING and VANE nothing is permitted. -/
def Obligations.SpeedsStayWithinLimits : Prop :=
  ∀ (s : State) (c : Crane), (s.permit c).demand.WithinThousand →
    let x := s.compute c
    let demand := (s.permit c).demand
    (∀ a : Axis,
      (0 ≤ demand.on a → 0 ≤ x.speeds.on a ∧ x.speeds.on a ≤ demand.on a) ∧
      (demand.on a ≤ 0 → demand.on a ≤ x.speeds.on a ∧ x.speeds.on a ≤ 0) ∧
      (∀ reason l, (reason, l) ∈ s.contributions c →
        (x.speeds.on a).natAbs ≤ l.get a (decide (0 ≤ demand.on a))) ∧
      (x.speeds.on a = demand.on a ↔ x.reasons.on a = .none) ∧
      (x.reasons.on a ≠ .none → ∃ before l after,
        s.contributions c = before ++ (x.reasons.on a, l) :: after ∧
        (x.speeds.on a).natAbs = l.get a (decide (0 ≤ demand.on a)) ∧
        ∀ y ∈ before, l.get a (decide (0 ≤ demand.on a)) < y.2.get a (decide (0 ≤ demand.on a)))) ∧
    (s.contributions c).map (·.1) = [.site, .posn, .wind, .exit, .sect, .book, .zone] ∧
    (s.mode = .config ∨ s.hold = true ∨ s.located c = false ∨ (s.windOf c).state = .vanePending ∨
      (s.windOf c).state = .vane → x.speeds = ⟨0, 0, 0⟩)

/-- R36 to R41, R53: the ZONE contribution of a crane with a position: 1000 in the exit case; otherwise, in each slew
direction, the ramp of the distance to the first barrier round the zone table, and of the trolley and hoist distances
within the current segment. A computation knocks once at each sector whose SHARED segment is the barrier of a slew or
trolley axis that is demanded and held back by ZONE, and at no other. -/
def Obligations.ZoneHoldsBack : Prop :=
  ∀ (s : State) (c : Crane),
    let z := s.zone c
    let p := s.position c
    let r := if p.trolleyOk = true then min p.radius (s.crane c).jib else (s.crane c).jib
    let h := if p.hoistOk = true then p.height else 0
    let l := s.zoneLimits c
    let x := s.compute c
    let demand := (s.permit c).demand
    ((p.state = .none ∨ p.state = .lost ∨ z = []) → l = ⟨1000, 1000, 1000, 1000, 1000, 1000⟩) ∧
    (∀ i g, s.StandsIn c i g →
      (s.ExitsFrom c g → l = ⟨1000, 1000, 1000, 1000, 1000, 1000⟩) ∧
      (¬ s.ExitsFrom c g →
        let barring : Prop :=
          (g.kind = .barred ∧ (g.floor = 0 ∨ h < g.floor)) ∨
          (g.kind = .shared ∧ s.isMember g.sector c = true ∧ (s.sector g.sector).clash = .hook ∧
            holderOf (s.entry g.sector) ≠ some c ∧ c ∉ s.locksOf g.sector)
        let above : Prop := g.kind = .barred ∧ g.floor ≠ 0 ∧ g.rLo ≤ r ∧ r ≤ g.rHi ∧ g.floor ≤ h
        (∀ j b, s.FirstBarrier c i true j b →
          (s.crane c).slew.Ramps ((b.start + 8192 - p.angle) % 8192) l.slewPos) ∧
        ((∀ j b, ¬ s.FirstBarrier c i true j b) → l.slewPos = 1000) ∧
        (∀ j b after, s.FirstBarrier c i false j b → z[(j + 1) % z.length]? = some after →
          (s.crane c).slew.Ramps ((p.angle + 1 + 8192 - after.start) % 8192) l.slewNeg) ∧
        ((∀ j b, ¬ s.FirstBarrier c i false j b) → l.slewNeg = 1000) ∧
        (barring → r < g.rLo → (s.crane c).trolley.Ramps (g.rLo - r) l.trolleyPos) ∧
        (¬ barring ∨ g.rLo ≤ r → l.trolleyPos = 1000) ∧
        (barring → g.rHi < r → (s.crane c).trolley.Ramps (r - g.rHi) l.trolleyNeg) ∧
        (¬ barring ∨ r ≤ g.rHi → l.trolleyNeg = 1000) ∧
        l.hoistPos = 1000 ∧
        (above → (s.crane c).hoist.Ramps (h - g.floor) l.hoistNeg) ∧
        (¬ above → l.hoistNeg = 1000))) ∧
    x.knocks.Nodup ∧
    (∀ k, k ∈ x.knocks ↔ ∃ i g, s.StandsIn c i g ∧
      ((demand.slew ≠ 0 ∧ x.reasons.slew = .zone ∧
          ∃ j b, s.FirstBarrier c i (decide (0 ≤ demand.slew)) j b ∧ b.kind = .shared ∧ b.sector = k) ∨
        (demand.trolley ≠ 0 ∧ x.reasons.trolley = .zone ∧ g.kind = .shared ∧ g.sector = k ∧
          holderOf (s.entry k) ≠ some c)))

/-- R37, R42 to R45, R49: the EXIT contribution of a crane with a position. An exit crane creeps out of its run by the
nearer usable end, by the positive one where they are equally near, and by neither where both are barred or the run is
the whole circle; its trolley and hoist have what their table gives; under no-pick it may not hoist while PICKING. The
holder of a sector in which another member is present creeps on every axis. That an intruded holder without a position
has 1000 is the model's reading (log 20). -/
def Obligations.ExitLeadsOut : Prop :=
  ∀ (s : State) (c : Crane),
    let z := s.zone c
    let p := s.position c
    let crane := s.crane c
    let l := s.exitContribution c
    let intrudedHolder : Prop := ∃ k, holderOf (s.entry k) = some c ∧ ∃ d ∈ (s.entry k).presence, d ≠ c
    ∀ cap : PerAxis Nat,
      (intrudedHolder → cap = ⟨crane.slew.creep, crane.trolley.creep, crane.hoist.creep⟩) →
      (¬ intrudedHolder → cap = ⟨1000, 1000, 1000⟩) →
      (p.state = .none ∨ p.state = .lost → l = ⟨1000, 1000, 1000, 1000, 1000, 1000⟩) ∧
      (p.state = .tracked ∨ p.state = .degraded → (∀ i g, s.StandsIn c i g → ¬ s.ExitsFrom c g) →
        l = ⟨min 1000 cap.slew, min 1000 cap.slew, min 1000 cap.trolley, min 1000 cap.trolley, min 1000 cap.hoist,
          min 1000 cap.hoist⟩) ∧
      (∀ i g, s.StandsIn c i g → s.ExitsFrom c g →
        let inRun (b : Segment) : Prop := if g.kind = .shared then b.kind = .shared ∧ b.sector = g.sector
          else b.kind = .barred ∧ s.Bars c b
        let picking : Prop := (s.detector c).state = .picking
        let jib : Prop := g.kind = .shared ∧ (s.sector g.sector).clash = .jib
        let floored : Prop := g.kind = .barred ∧ g.floor ≠ 0
        l.trolleyPos = min (if jib then crane.trolley.creep else 0) cap.trolley ∧
        l.trolleyNeg = min crane.trolley.creep cap.trolley ∧
        l.hoistPos = (if picking then 0 else min (if floored then crane.hoist.creep else 0) cap.hoist) ∧
        l.hoistNeg = min (if floored then 0 else crane.hoist.creep) cap.hoist ∧
        ((∀ b ∈ z, inRun b) → l.slewPos = 0 ∧ l.slewNeg = 0) ∧
        (∀ fwd bwd, fwd + 1 < z.length → bwd + 1 < z.length →
          (∀ m b, m ≤ fwd → z[(i + m) % z.length]? = some b → inRun b) →
          (∀ m b, m ≤ bwd → z[(i + z.length - m) % z.length]? = some b → inRun b) →
          ∀ beyond, z[(i + fwd + 1) % z.length]? = some beyond → ¬ inRun beyond →
          ∀ before, z[(i + z.length - bwd - 1) % z.length]? = some before → ¬ inRun before →
          ∀ first, z[(i + z.length - bwd) % z.length]? = some first →
          let dp := (beyond.start + 8192 - p.angle) % 8192
          let dn := (p.angle + 8192 - first.start) % 8192 + 1
          (¬ s.Bars c beyond → (s.Bars c before ∨ dp ≤ dn) →
            l.slewPos = min crane.slew.creep cap.slew ∧ l.slewNeg = 0) ∧
          (¬ s.Bars c before → (s.Bars c beyond ∨ dn < dp) →
            l.slewPos = 0 ∧ l.slewNeg = min crane.slew.creep cap.slew) ∧
          (s.Bars c beyond → s.Bars c before → l.slewPos = 0 ∧ l.slewNeg = 0)))

/-- R34, R46 to R51: the SITE, POSN, WIND, SECT and BOOK contributions, no-pick, and the limits, which in every
direction are the lowest of the seven contributions. -/
def Obligations.LimitsAreTheLowest : Prop :=
  ∀ (s : State) (c : Crane),
    let crane := s.crane c
    let p := s.position c
    let profile := s.profileOf c
    let both (slew trolley hoist : Nat) : Limits := ⟨slew, slew, trolley, trolley, hoist, hoist⟩
    let picking : Prop := (s.detector c).state = .picking
    let flagged : Prop := ∃ k g, p.present = some k ∧ (s.entry k).base = .held c g ∧
      (g.yielding ≠ none ∨ g.overstay = true)
    let overstays : Prop := ∃ k g, (s.entry k).base = .held c g ∧ g.overstay = true
    let overloaded : Prop := ((s.detector c).state = .picking ∨ (s.detector c).state = .loaded) ∧
      ∃ k g id b, (s.entry k).base = .held c g ∧ g.kind = .booked id ∧
        s.bookings.find? (fun b => b.id == id) = some b ∧ 0 < b.maxLoad ∧ b.maxLoad < p.load
    (s.contributions c =
      [(.site, s.siteLimits), (.posn, s.posnLimits c), (.wind, s.windLimits c), (.exit, s.exitContribution c),
       (.sect, s.sectLimits c), (.book, s.bookLimits c), (.zone, s.zoneLimits c)]) ∧
    (∀ (a : Axis) (positive : Bool),
      (∀ reason l, (reason, l) ∈ s.contributions c → (s.compute c).limits.get a positive ≤ l.get a positive) ∧
      ∃ reason l, (reason, l) ∈ s.contributions c ∧ (s.compute c).limits.get a positive = l.get a positive) ∧
    ((s.compute c).noPick = true ↔ s.UnderNoPick c) ∧ (s.noPick c = true ↔ s.UnderNoPick c) ∧
    s.siteLimits = (if s.mode = .config ∨ s.hold = true then both 0 0 0 else both 1000 1000 1000) ∧
    ((p.state = .none ∨ p.state = .lost) → s.posnLimits c = both 0 0 0) ∧
    ((p.state = .tracked ∨ p.state = .degraded) →
      s.posnLimits c = both 1000 (if p.trolleyOk = true then 1000 else 0) (if p.hoistOk = true then 1000 else 0)) ∧
    ((s.windOf c).state = .calm → s.windLimits c = both 1000 1000 1000) ∧
    ((s.windOf c).state = .alert →
      s.windLimits c = both profile.alertCaps.slew profile.alertCaps.trolley profile.alertCaps.hoist) ∧
    ((s.windOf c).state = .stop →
      s.windLimits c =
        { both profile.stopCaps.slew profile.stopCaps.trolley profile.stopCaps.hoist with
          hoistPos := if picking then 0 else profile.stopCaps.hoist }) ∧
    ((s.windOf c).state = .vanePending ∨ (s.windOf c).state = .vane → s.windLimits c = both 0 0 0) ∧
    (∀ pace, (overstays → pace = both crane.slew.creep crane.trolley.creep crane.hoist.creep) →
      (¬ overstays → pace = both 1000 1000 1000) →
      (flagged → picking → s.sectLimits c = { pace with hoistPos := 0 }) ∧
      (¬ flagged ∨ ¬ picking → s.sectLimits c = pace)) ∧
    (overloaded → s.bookLimits c = { both 1000 1000 1000 with hoistPos := 0 }) ∧
    (¬ overloaded → s.bookLimits c = both 1000 1000 1000)

/-- R147: the advice of a permit and its sector are the first of the table's whose condition holds, with the
lowest-numbered sector where several meet it. -/
def Obligations.AdviceIsTheFirst : Prop :=
  ∀ (s : State) (c : Crane),
    let w := s.windOf c
    let lowest (test : Sector → Prop) (k : Option Sector) : Prop := ∃ j, k = some j ∧ test j ∧ ∀ i, i < j → ¬ test i
    let holding (test : Grant → Prop) (k : Sector) : Prop := ∃ g, (s.entry k).base = .held c g ∧ test g
    let holds (advice : Advice) (k : Option Sector) : Prop :=
      match advice with
      | .hold => (s.mode = .config ∨ s.hold = true) ∧ k = none
      | .position => (s.position c).state ≠ .tracked ∧ k = none
      | .vane =>
        (w.state = .vanePending ∧ (lowest (s.BlocksVane c) k ∨ ((∀ j, ¬ s.BlocksVane c j) ∧ k = none))) ∨
        (w.state = .vane ∧ k = none)
      | .parkForVane => w.state = .stop ∧ w.vaneWait = true ∧ k = none
      | .windStop => w.state = .stop ∧ k = none
      | .evacuate => ∃ i g, s.StandsIn c i g ∧ s.ExitsFrom c g ∧ k = if g.kind = .shared then some g.sector else none
      | .yield => lowest (holding (fun g => g.yielding ≠ none)) k
      | .overstay => lowest (holding (fun g => g.overstay = true)) k
      | .waitSector => lowest (fun j => ∃ q ∈ (s.entry j).queue, q.crane = c) k
      | .booked => lowest (holding (fun g => g.kind ≠ .routine)) k
      | .windAlert => w.state = .alert ∧ k = none
      | .none => k = none
    holds (s.advice c).1 (s.advice c).2 ∧
    ∀ advice k, holds advice k → adviceCode (s.advice c).1 < adviceCode advice ∨ s.advice c = (advice, k)

/-- R140 to R144: an accepted DEMAND frame becomes the demand of record, each axis clamped, and a permit is issued; the
refresh timer's expiry issues one; the demand timeout's makes the demand zero and stale and issues none; a limit notice
issues one only when a new limit falls below the speed last permitted in its direction, and for an absent crane does
nothing. That its knocks are sent even so is the model's reading (log 11), and that the expiry of a stopped timer does
nothing is its choice (log 2). -/
def Obligations.PermitsIssued : Prop :=
  ∀ (s : State) (c : Crane), s.Ready →
    let r := s.permit c
    let clamp (d : Half) : Int := max (-1000) (min 1000 d.toInt)
    let last := r.last
    let limits := (s.compute c).limits
    let urgent : Prop := ∃ a : Axis, last.on a ≠ 0 ∧
      ((limits.get a (decide (0 < last.on a)) : Nat) : Int) < (last.on a).natAbs
    (∀ f : DemandFrame, (s.crane c).present = true →
      (∀ q, r.seqRef = some q → 1 ≤ (f.seq - q).toNat ∧ (f.seq - q).toNat ≤ 127) →
      ∃ t, exec (.demand c f) s = .next t ∧
        ({ s.hunting (linkOf c) with
            permits := s.permits.write c
              { r with
                seqRef := some f.seq, echoed := f.seq,
                demand := ⟨clamp f.slew, clamp f.trolley, clamp f.hoist⟩, demandStale := false,
                timeout := some s.site.demandTimeout } } : State).Issues t c) ∧
    (r.refresh = none → exec (.refreshExpiry c) s = .next s) ∧
    (r.refresh ≠ none → ∃ t, exec (.refreshExpiry c) s = .next t ∧ s.Issues t c) ∧
    (r.timeout = none → exec (.demandTimeoutExpiry c) s = .next s) ∧
    (r.timeout ≠ none →
      exec (.demandTimeoutExpiry c) s =
        .next (s.setPermit c
          { r with demand := ⟨0, 0, 0⟩, demandStale := true, seqRef := none, timeout := none })) ∧
    ((s.crane c).present = false → exec (.limitNotice c) s = .next s) ∧
    ((s.crane c).present = true → urgent → ∃ t, exec (.limitNotice c) s = .next t ∧ s.Issues t c) ∧
    ((s.crane c).present = true → ¬ urgent →
      exec (.limitNotice c) s = .next (s.send ((s.compute c).knocks.map (fun k => .knock k c))))

/-! ### Timebase, pins and beacons (R145, R165, R170 to R172) -/

/-- R127, R137, R145, R165, R170, R171, R172: a tick reloads the divider, takes one tick off every running timer counted in
ticks, and at the 100th one second off every running timer counted in seconds, with the clock's advance; each timer
that has come to 0 expires; two equal samples of HOLD_N that differ from the filtered state change it. The clock's
advance that begins a site minute sends the boundary. SITE HOLD asserted issues every present crane a permit of zero
speeds, reason SITE where it is demanded; each change raises SITE_HOLD. A tick touches nothing else of a sector's
entry. That the clock's advance and the changes of the hold are also commands of their own is the model's choice (log
2), and so is which of a crane's timers stand while it is absent or its profile is invalid (log 23). A phase restarted in the
tick that was to end the former one keeps its full count over that tick (R171). That a restart is in that tick when it
is taken at the former phase's last count, and is not what the tick before has brought, is its reading; so the end of
what a tick brings is marked, and nothing else is in flight after a tick (log 26). -/
def Obligations.TimebaseAdvances : Prop :=
  ∀ s : State, s.Ready →
    let down (t : Timer) : Timer := t.map (· - 1)
    let hold (asserted : Nat) := eventOf .siteHold none none asserted
    (∀ low : Bool,
      let second : Prop := 100 ≤ s.ticks + 1
      ∃ t, exec (.tick low) s = .next t ∧
        t = { s with
              positions := t.positions, winds := t.winds, permits := t.permits, entries := t.entries,
              generators := t.generators, cycles := 0, divisor := s.site.tickDivisor,
              ticks := t.ticks, holdLow := low, inFlight := t.inFlight } ∧
        (∀ c, t.position c = { s.position c with stale := down (s.position c).stale }) ∧
        (∀ c, t.permit c =
          { s.permit c with timeout := down (s.permit c).timeout, refresh := down (s.permit c).refresh }) ∧
        (∀ n, t.generator n =
          { s.generator n with
            left := if (s.generator n).cutShort = true then (s.generator n).left else down (s.generator n).left
            cutShort := false }) ∧
        (∀ k,
          let down (g : Grant) : Grant := if second then { g with hold := down g.hold } else g
          t.entry k = { s.entry k with
            base := match (s.entry k).base with
              | .free => .free
              | .contested => .contested
              | .held h g => .held h (down g)
              | .clearing f g left => .clearing f (down g) (left - 1)
            queue := if second then (s.entry k).queue.map (fun q => { q with keep := q.keep - 1 })
              else (s.entry k).queue }) ∧
        (¬ second → t.ticks = s.ticks + 1 ∧
          (∀ c, t.windOf c = { s.windOf c with ownStale := down (s.windOf c).ownStale })) ∧
        (second → t.ticks = 0 ∧
          (∀ c,
            let w := s.windOf c
            t.windOf c =
              { w with
                ownStale := down w.ownStale, recovery := (t.windOf c).recovery,
                vaneDelay := if (s.crane c).present = true then down w.vaneDelay else w.vaneDelay,
                vaneTimeout := if (s.crane c).present = true then down w.vaneTimeout else w.vaneTimeout } ∧
            (s.RecoveryRuns c → (t.windOf c).recovery = down w.recovery) ∧
            (¬ s.RecoveryRuns c → (t.windOf c).recovery = w.recovery))) ∧
        (∀ e, .expiry e ∈ t.inFlight ↔
          match e with
          | .positionStale c => (t.position c).stale = some 0
          | .windStale c => (t.windOf c).ownStale = some 0
          | .demandTimeout c => (t.permit c).timeout = some 0
          | .refresh c => (t.permit c).refresh = some 0
          | .phaseEnd n => (t.generator n).left = some 0
          | .clearing k => ∃ f g, (t.entry k).base = .clearing f g 0
          | .keep k c => second ∧ ∃ q ∈ (t.entry k).queue, q.crane = c ∧ q.keep = 0
          | .hold k => second ∧ ∃ g, grantOf (t.entry k) = some g ∧ g.hold = some 0
          | .recovery c => second ∧ s.RecoveryRuns c ∧ (t.windOf c).recovery = some 0
          | .vaneDelay c => second ∧ (s.crane c).present = true ∧ (t.windOf c).vaneDelay = some 0
          | .vaneTimeout c => second ∧ (s.crane c).present = true ∧ (t.windOf c).vaneTimeout = some 0) ∧
        (.clockAdvance ∈ t.inFlight ↔ second) ∧
        (.holdAsserted ∈ t.inFlight ↔ low = true ∧ s.holdLow = true ∧ s.hold = false) ∧
        (.holdReleased ∈ t.inFlight ↔ low = false ∧ s.holdLow = false ∧ s.hold = true) ∧
        (∃ work, t.inFlight = work ++ [.tickDone] ∧ ∀ n ∈ work,
          (∃ e, n = .expiry e) ∨ n = .clockAdvance ∨ n = .holdAsserted ∨ n = .holdReleased)) ∧
    exec .siteClockAdvance s = .next { s with
      clock := s.clock + 1
      inFlight := if (s.clock + 1).toNat / 60 = s.clock.toNat / 60 then [] else [.minuteBoundary] } ∧
    (s.hold = true → exec .siteHoldAsserted s = .next s) ∧
    (s.hold = false →
      ∃ t, exec .siteHoldAsserted s = .next t ∧
        t = { s with
              hold := true, events := (s.post (hold 1)).events, overflow := (s.post (hold 1)).overflow
              permits := t.permits, slots := t.slots, inFlight := t.inFlight } ∧
        (∀ c, (s.crane c).present = false → t.permit c = s.permit c ∧ t.slot c = s.slot c) ∧
        (∀ c, (s.crane c).present = true → s.IssuesZero t c)) ∧
    (s.hold = false → exec .siteHoldReleased s = .next s) ∧
    (s.hold = true → exec .siteHoldReleased s = .next (({ s with hold := false } : State).post (hold 0)))

/-- R15, R171: in CONFIG, WRITE_PATTERN replaces the pattern of one condition, and every driven line that shows the
condition restarts with it; a condition code above 5 is refused with BAD_INDEX, a scale that is no power of two up to
128 with BAD_VALUE. A change of a crane's beacon condition restarts the line it drives, unless the line shows the
condition already; at the end of its phase a flashing line passes to the other phase, with that phase's count; a line
is high in phase ON outside reset. A tick that ends a phase and a restart of the line leave the start of phase ON,
whichever is taken first; a restart that a tick itself has brought does not come with the next one. That the two are
together when the restart finds the phase at its last count is the model's reading (log 26). That the end of a phase does nothing on a line that counts no ticks is its choice (log 2). -/
def Obligations.BeaconLinesRun : Prop :=
  ∀ s : State, s.Ready →
    (∀ (c : Crane) (cond : BeaconCondition),
      let p := patternOf s.patterns cond
      ∃ t, exec (.beaconConditionChange c cond) s = .next t ∧ t = { s with generators := t.generators } ∧
        ∀ n, t.generator n =
          if (s.generator n).driver = some c ∧ (s.generator n).condition ≠ cond then
            (s.generator n).restartedBy c cond p
          else s.generator n) ∧
    (∀ (c : Crane) (cond : BeaconCondition) (n : BeaconLine) (low : Bool),
      let g := s.generator n
      let p := patternOf s.patterns cond
      g.driver = some c → g.condition ≠ cond → g.left = some 1 → g.cutShort = false →
      ∃ restarted, exec (.beaconConditionChange c cond) s = .next restarted ∧
        (∃ t, exec (.tick low) restarted = .next t ∧
          t.generator n =
            { driver := some c, condition := cond
              phase := if p.on = 0 then .off else .on
              left := if p.on = 0 ∨ p.off = 0 then none else some (p.on * p.scale), cutShort := false }) ∧
        exec (.beaconPhaseEnd n) restarted = .next restarted ∧
        ∃ ended, exec (.beaconPhaseEnd n) s = .next ended ∧ ∃ t, exec (.beaconConditionChange c cond) ended = .next t ∧
          (t.generator n).driver = some c ∧ (t.generator n).condition = cond ∧
          (t.generator n).phase = (restarted.generator n).phase ∧ (t.generator n).left = (restarted.generator n).left) ∧
    (∀ (c : Crane) (cond : BeaconCondition) (n : BeaconLine) (work : List Notice),
      let g := s.generator n
      g.driver = some c → g.condition ≠ cond →
      (takeNotice (.beacon c cond) { s with inFlight := work ++ [.tickDone] }).generator n =
        { g.restartedBy c cond (patternOf s.patterns cond) with cutShort := g.cutShort }) ∧
    (∀ n,
      let g := s.generator n
      let p := patternOf s.patterns g.condition
      (g.left = none ∨ g.cutShort = true → exec (.beaconPhaseEnd n) s = .next s) ∧
      (g.left ≠ none → g.cutShort = false → g.phase = .on →
        exec (.beaconPhaseEnd n) s =
          .next (s.setGenerator n { g with phase := .off, left := some (p.off * p.scale) })) ∧
      (g.left ≠ none → g.cutShort = false → g.phase = .off →
        exec (.beaconPhaseEnd n) s =
          .next (s.setGenerator n { g with phase := .on, left := some (p.on * p.scale) })) ∧
      (s.lineHigh n = true ↔ g.phase = .on)) ∧
    (∀ (tag : Byte) (cond : BeaconCondition) (p : BeaconPattern), s.Room → s.mode = .config →
      (p.InRange →
        ∃ t, exec (.writePattern tag (patternOctets (conditionCode cond) p)) s = .next t ∧
          t = { s.answered tag 0x06#8 .ok [] with patterns := t.patterns, generators := t.generators } ∧
          patternOf t.patterns cond = p ∧
          (∀ other, other ≠ cond → patternOf t.patterns other = patternOf s.patterns other) ∧
          (∀ n, t.generator n =
            match (s.generator n).driver with
            | some c =>
              if (s.generator n).condition = cond then (s.generator n).restartedBy c cond p else s.generator n
            | none => s.generator n)) ∧
      (¬ p.InRange → p.on < 256 → p.off < 256 → p.scale < 256 →
        exec (.writePattern tag (patternOctets (conditionCode cond) p)) s =
          .next (s.answered tag 0x06#8 .badValue [])) ∧
      (∀ code, 5 < code → code < 256 →
        exec (.writePattern tag (patternOctets code p)) s = .next (s.answered tag 0x06#8 .badIndex [])))
end

