-- ==== Sys2Proof/Laws/Codec.lean ====
section
/-! SUPPORT. Numbers written into octets and read back (R151, R157, R158), and octets on a line (R150). -/

namespace Sys2Proof.Machine

@[simp] theorem octet1_length (n : Nat) : (octet1 n).length = 1 := rfl
@[simp] theorem octet2_length (n : Nat) : (octet2 n).length = 2 := rfl
@[simp] theorem octet4_length (n : Nat) : (octet4 n).length = 4 := rfl
@[simp] theorem signed2_length (i : Int) : (signed2 i).length = 2 := rfl
@[simp] theorem flagOctet_length (b : Bool) : (flagOctet b).length = 1 := rfl
@[simp] theorem figureOctets_length (x : Option Nat) : (figureOctets x).length = 2 := rfl
@[simp] theorem axisOctets_length (x : PerAxis Int) : (axisOctets x).length = 6 := rfl

/-- One octet read back. -/
theorem numberOf_octet1 {n : Nat} (h : n < 256) : numberOf (octet1 n) = n := by
  simp [numberOf, octet1]; omega

/-- Two octets read back. -/
theorem numberOf_octet2 {n : Nat} (h : n < 65536) : numberOf (octet2 n) = n := by
  simp [numberOf, octet2]; omega

/-- Four octets read back. -/
theorem numberOf_octet4 {n : Nat} (h : n < 4294967296) : numberOf (octet4 n) = n := by
  simp [numberOf, octet4, octet2]; omega

/-- A signed number read back. -/
theorem signedOf_signed2 {i : Int} (h : -32768 ≤ i ∧ i ≤ 32767) : signedOf (numberOf (signed2 i)) = i := by
  rw [signed2, numberOf_octet2 (BitVec.isLt _), signedOf, BitVec.ofNat_toNat, BitVec.setWidth_eq, BitVec.toInt_ofInt]
  rw [Int.bmod_def]; omega

/-- The first field of the octets, and the fields of the rest. -/
theorem cutFields_append (ws : List Nat) (xs ys : List Byte) :
    cutFields (xs.length :: ws) (xs ++ ys) = (cutFields ws ys).map (numberOf xs :: ·) := by
  simp [cutFields]

/-- A list of as many octets as a field is wide is that field. -/
theorem cutFields_one (xs : List Byte) : cutFields [xs.length] xs = some [numberOf xs] := by
  simp [cutFields]

theorem cutFields_octet1 (ws : List Nat) (n : Nat) (ys : List Byte) :
    cutFields (1 :: ws) (octet1 n ++ ys) = (cutFields ws ys).map (numberOf (octet1 n) :: ·) := cutFields_append ws _ ys
theorem cutFields_octet2 (ws : List Nat) (n : Nat) (ys : List Byte) :
    cutFields (2 :: ws) (octet2 n ++ ys) = (cutFields ws ys).map (numberOf (octet2 n) :: ·) := cutFields_append ws _ ys
theorem cutFields_octet4 (ws : List Nat) (n : Nat) (ys : List Byte) :
    cutFields (4 :: ws) (octet4 n ++ ys) = (cutFields ws ys).map (numberOf (octet4 n) :: ·) := cutFields_append ws _ ys
theorem cutFields_signed2 (ws : List Nat) (i : Int) (ys : List Byte) :
    cutFields (2 :: ws) (signed2 i ++ ys) = (cutFields ws ys).map (numberOf (signed2 i) :: ·) := cutFields_append ws _ ys
theorem cutFields_last1 (n : Nat) : cutFields [1] (octet1 n) = some [numberOf (octet1 n)] := cutFields_one _
theorem cutFields_last2 (n : Nat) : cutFields [2] (octet2 n) = some [numberOf (octet2 n)] := cutFields_one _
theorem cutFields_last4 (n : Nat) : cutFields [4] (octet4 n) = some [numberOf (octet4 n)] := cutFields_one _

/-- Octets cut into fields are as many as the widths call for. -/
theorem cutFields_length {ws : List Nat} {bs : List Byte} {fs : List Nat} (h : cutFields ws bs = some fs) :
    bs.length = ws.sum := by
  induction ws generalizing bs fs with
  | nil => cases bs <;> simp_all [cutFields]
  | cons w ws ih =>
    simp only [cutFields] at h
    split at h
    · cases h
    · next hw =>
      obtain ⟨gs, hg, _⟩ := Option.map_eq_some_iff.1 h
      have := ih hg
      simp at this ⊢; omega

/-- Octets more or fewer than the widths call for are not cut. -/
theorem cutFields_wrong {ws : List Nat} {bs : List Byte} (h : bs.length ≠ ws.sum) : cutFields ws bs = none := by
  cases hc : cutFields ws bs with
  | none => rfl
  | some fs => exact absurd (cutFields_length hc) h

/-- As many octets as the widths call for are cut. -/
theorem cutFields_right {ws : List Nat} {bs : List Byte} (h : bs.length = ws.sum) :
    ∃ fs, cutFields ws bs = some fs ∧ fs.length = ws.length := by
  induction ws generalizing bs with
  | nil => exact ⟨[], by cases bs <;> simp_all [cutFields], rfl⟩
  | cons w ws ih =>
    simp only [List.sum_cons] at h
    obtain ⟨gs, hg, hl⟩ := ih (bs := bs.drop w) (by simp; omega)
    have hw : ¬ bs.length < w := by omega
    exact ⟨numberOf (bs.take w) :: gs, by simp [cutFields, hg, hw], by simp [hl]⟩

/-! ### Octets on a line (R150) -/

@[simp] theorem octetLevels_length (b : Byte) : (octetLevels b).length = 10 := by simp [octetLevels]

@[simp] theorem octetsHeard_idle (levels : List Bool) : octetsHeard (true :: levels) = octetsHeard levels := rfl

/-- Eight data bits, the least significant first, are the octet's. -/
theorem octetOfBits_bits (b : Byte) : octetOfBits ((List.range 8).map b.getLsbD) = b := by
  revert b; decide +kernel

/-- One octet is heard whatever the level of its stop bit. -/
theorem octetsHeard_octet (b : Byte) (stop : Bool) (rest : List Bool) :
    octetsHeard (false :: (List.range 8).map b.getLsbD ++ stop :: rest) = b :: octetsHeard rest :=
  congrArg (· :: octetsHeard rest) (octetOfBits_bits b)

end Sys2Proof.Machine
end

