-- ==== Sys2Proof/Laws/State.lean ====
section
/-! SUPPORT. The small lemmas of the state: reading a bank after a write, and what every update of one record, every
notice sent and every event posted leaves as it was. -/

namespace Sys2Proof

namespace Bank

variable {n : Nat} {α : Type}

@[simp] theorem read_write_self (b : Bank n α) (i : Fin n) (x : α) : (b.write i x).read i = x := by
  simp [read, write]

@[simp] theorem read_write_ne (b : Bank n α) {i j : Fin n} (x : α) (h : j ≠ i) : (b.write i x).read j = b.read j := by
  have : i.val ≠ j.val := fun e => h (Fin.ext e.symm)
  simp [read, write, Vector.getElem_set, this]

theorem read_write (b : Bank n α) (i j : Fin n) (x : α) :
    (b.write i x).read j = if j = i then x else b.read j := by
  split
  · next h => simp [h]
  · next h => simp [h]

@[simp] theorem read_fill (i : Fin n) (x : α) : (fill n x).read i = x := by
  simp [read, fill]

@[simp] theorem read_update (b : Bank n α) (f : α → α) (i : Fin n) : (b.update f).read i = f (b.read i) := by
  simp [read, update]

@[simp] theorem read_updateAt (b : Bank n α) (f : Fin n → α → α) (i : Fin n) :
    (b.updateAt f).read i = f i (b.read i) := by
  simp [read, updateAt]

theorem ext_read {a b : Bank n α} (h : ∀ i, a.read i = b.read i) : a = b := by
  apply Vector.ext
  intro i hi
  exact h ⟨i, hi⟩

@[simp] theorem write_read (b : Bank n α) (i : Fin n) : b.write i (b.read i) = b := by
  apply ext_read
  intro j
  rw [read_write]
  split
  · next h => rw [h]
  · rfl

end Bank

namespace Machine

variable (s : State)

/-! ### `setCrane` -/

@[simp] theorem State.setCrane_cranes (i : Crane) (x : CraneRecord) : (s.setCrane i x).cranes = s.cranes.write i x := rfl
@[simp] theorem State.setCrane_zones (i : Crane) (x : CraneRecord) : (s.setCrane i x).zones = s.zones := rfl
@[simp] theorem State.setCrane_sectors (i : Crane) (x : CraneRecord) : (s.setCrane i x).sectors = s.sectors := rfl
@[simp] theorem State.setCrane_profiles (i : Crane) (x : CraneRecord) : (s.setCrane i x).profiles = s.profiles := rfl
@[simp] theorem State.setCrane_patterns (i : Crane) (x : CraneRecord) : (s.setCrane i x).patterns = s.patterns := rfl
@[simp] theorem State.setCrane_site (i : Crane) (x : CraneRecord) : (s.setCrane i x).site = s.site := rfl
@[simp] theorem State.setCrane_positions (i : Crane) (x : CraneRecord) : (s.setCrane i x).positions = s.positions := rfl
@[simp] theorem State.setCrane_entries (i : Crane) (x : CraneRecord) : (s.setCrane i x).entries = s.entries := rfl
@[simp] theorem State.setCrane_detectors (i : Crane) (x : CraneRecord) : (s.setCrane i x).detectors = s.detectors := rfl
@[simp] theorem State.setCrane_bookings (i : Crane) (x : CraneRecord) : (s.setCrane i x).bookings = s.bookings := rfl
@[simp] theorem State.setCrane_winds (i : Crane) (x : CraneRecord) : (s.setCrane i x).winds = s.winds := rfl
@[simp] theorem State.setCrane_permits (i : Crane) (x : CraneRecord) : (s.setCrane i x).permits = s.permits := rfl
@[simp] theorem State.setCrane_slots (i : Crane) (x : CraneRecord) : (s.setCrane i x).slots = s.slots := rfl
@[simp] theorem State.setCrane_receivers (i : Crane) (x : CraneRecord) : (s.setCrane i x).receivers = s.receivers := rfl
@[simp] theorem State.setCrane_counters (i : Crane) (x : CraneRecord) : (s.setCrane i x).counters = s.counters := rfl
@[simp] theorem State.setCrane_mode (i : Crane) (x : CraneRecord) : (s.setCrane i x).mode = s.mode := rfl
@[simp] theorem State.setCrane_clock (i : Crane) (x : CraneRecord) : (s.setCrane i x).clock = s.clock := rfl
@[simp] theorem State.setCrane_clockSet (i : Crane) (x : CraneRecord) : (s.setCrane i x).clockSet = s.clockSet := rfl
@[simp] theorem State.setCrane_replies (i : Crane) (x : CraneRecord) : (s.setCrane i x).replies = s.replies := rfl
@[simp] theorem State.setCrane_events (i : Crane) (x : CraneRecord) : (s.setCrane i x).events = s.events := rfl
@[simp] theorem State.setCrane_overflow (i : Crane) (x : CraneRecord) : (s.setCrane i x).overflow = s.overflow := rfl
@[simp] theorem State.setCrane_mask (i : Crane) (x : CraneRecord) : (s.setCrane i x).mask = s.mask := rfl
@[simp] theorem State.setCrane_assembly (i : Crane) (x : CraneRecord) : (s.setCrane i x).assembly = s.assembly := rfl
@[simp] theorem State.setCrane_transmitter (i : Crane) (x : CraneRecord) : (s.setCrane i x).transmitter = s.transmitter := rfl
@[simp] theorem State.setCrane_generators (i : Crane) (x : CraneRecord) : (s.setCrane i x).generators = s.generators := rfl
@[simp] theorem State.setCrane_cycles (i : Crane) (x : CraneRecord) : (s.setCrane i x).cycles = s.cycles := rfl
@[simp] theorem State.setCrane_divisor (i : Crane) (x : CraneRecord) : (s.setCrane i x).divisor = s.divisor := rfl
@[simp] theorem State.setCrane_ticks (i : Crane) (x : CraneRecord) : (s.setCrane i x).ticks = s.ticks := rfl
@[simp] theorem State.setCrane_holdLow (i : Crane) (x : CraneRecord) : (s.setCrane i x).holdLow = s.holdLow := rfl
@[simp] theorem State.setCrane_hold (i : Crane) (x : CraneRecord) : (s.setCrane i x).hold = s.hold := rfl
@[simp] theorem State.setCrane_inReset (i : Crane) (x : CraneRecord) : (s.setCrane i x).inReset = s.inReset := rfl
@[simp] theorem State.setCrane_shortPulses (i : Crane) (x : CraneRecord) : (s.setCrane i x).shortPulses = s.shortPulses := rfl
@[simp] theorem State.setCrane_inFlight (i : Crane) (x : CraneRecord) : (s.setCrane i x).inFlight = s.inFlight := rfl
@[simp] theorem State.setCrane_pending (i : Crane) (x : CraneRecord) : (s.setCrane i x).pending = s.pending := rfl
@[simp] theorem State.setCrane_crane_self (i : Crane) (x : CraneRecord) : (s.setCrane i x).crane i = x := Bank.read_write_self _ _ _
@[simp] theorem State.setCrane_crane_ne {i j : Crane} (x : CraneRecord) (h : j ≠ i) : (s.setCrane i x).crane j = s.crane j :=
  Bank.read_write_ne _ _ h
theorem State.setCrane_crane (i j : Crane) (x : CraneRecord) : (s.setCrane i x).crane j = if j = i then x else s.crane j :=
  Bank.read_write _ _ _ _
@[simp] theorem State.setCrane_zone (i : Crane) (x : CraneRecord) (j : Crane) : (s.setCrane i x).zone j = s.zone j := rfl
@[simp] theorem State.setCrane_sector (i : Crane) (x : CraneRecord) (j : Sector) : (s.setCrane i x).sector j = s.sector j := rfl
@[simp] theorem State.setCrane_profile (i : Crane) (x : CraneRecord) (j : ProfileNo) : (s.setCrane i x).profile j = s.profile j := rfl
@[simp] theorem State.setCrane_position (i : Crane) (x : CraneRecord) (j : Crane) : (s.setCrane i x).position j = s.position j := rfl
@[simp] theorem State.setCrane_entry (i : Crane) (x : CraneRecord) (j : Sector) : (s.setCrane i x).entry j = s.entry j := rfl
@[simp] theorem State.setCrane_detector (i : Crane) (x : CraneRecord) (j : Crane) : (s.setCrane i x).detector j = s.detector j := rfl
@[simp] theorem State.setCrane_windOf (i : Crane) (x : CraneRecord) (j : Crane) : (s.setCrane i x).windOf j = s.windOf j := rfl
@[simp] theorem State.setCrane_permit (i : Crane) (x : CraneRecord) (j : Crane) : (s.setCrane i x).permit j = s.permit j := rfl
@[simp] theorem State.setCrane_slot (i : Crane) (x : CraneRecord) (j : Crane) : (s.setCrane i x).slot j = s.slot j := rfl
@[simp] theorem State.setCrane_receiver (i : Crane) (x : CraneRecord) (j : Link) : (s.setCrane i x).receiver j = s.receiver j := rfl
@[simp] theorem State.setCrane_counter (i : Crane) (x : CraneRecord) (j : Link) : (s.setCrane i x).counter j = s.counter j := rfl
@[simp] theorem State.setCrane_generator (i : Crane) (x : CraneRecord) (j : BeaconLine) : (s.setCrane i x).generator j = s.generator j := rfl

/-! ### `setZone` -/

@[simp] theorem State.setZone_cranes (i : Crane) (x : List Segment) : (s.setZone i x).cranes = s.cranes := rfl
@[simp] theorem State.setZone_zones (i : Crane) (x : List Segment) : (s.setZone i x).zones = s.zones.write i x := rfl
@[simp] theorem State.setZone_sectors (i : Crane) (x : List Segment) : (s.setZone i x).sectors = s.sectors := rfl
@[simp] theorem State.setZone_profiles (i : Crane) (x : List Segment) : (s.setZone i x).profiles = s.profiles := rfl
@[simp] theorem State.setZone_patterns (i : Crane) (x : List Segment) : (s.setZone i x).patterns = s.patterns := rfl
@[simp] theorem State.setZone_site (i : Crane) (x : List Segment) : (s.setZone i x).site = s.site := rfl
@[simp] theorem State.setZone_positions (i : Crane) (x : List Segment) : (s.setZone i x).positions = s.positions := rfl
@[simp] theorem State.setZone_entries (i : Crane) (x : List Segment) : (s.setZone i x).entries = s.entries := rfl
@[simp] theorem State.setZone_detectors (i : Crane) (x : List Segment) : (s.setZone i x).detectors = s.detectors := rfl
@[simp] theorem State.setZone_bookings (i : Crane) (x : List Segment) : (s.setZone i x).bookings = s.bookings := rfl
@[simp] theorem State.setZone_winds (i : Crane) (x : List Segment) : (s.setZone i x).winds = s.winds := rfl
@[simp] theorem State.setZone_permits (i : Crane) (x : List Segment) : (s.setZone i x).permits = s.permits := rfl
@[simp] theorem State.setZone_slots (i : Crane) (x : List Segment) : (s.setZone i x).slots = s.slots := rfl
@[simp] theorem State.setZone_receivers (i : Crane) (x : List Segment) : (s.setZone i x).receivers = s.receivers := rfl
@[simp] theorem State.setZone_counters (i : Crane) (x : List Segment) : (s.setZone i x).counters = s.counters := rfl
@[simp] theorem State.setZone_mode (i : Crane) (x : List Segment) : (s.setZone i x).mode = s.mode := rfl
@[simp] theorem State.setZone_clock (i : Crane) (x : List Segment) : (s.setZone i x).clock = s.clock := rfl
@[simp] theorem State.setZone_clockSet (i : Crane) (x : List Segment) : (s.setZone i x).clockSet = s.clockSet := rfl
@[simp] theorem State.setZone_replies (i : Crane) (x : List Segment) : (s.setZone i x).replies = s.replies := rfl
@[simp] theorem State.setZone_events (i : Crane) (x : List Segment) : (s.setZone i x).events = s.events := rfl
@[simp] theorem State.setZone_overflow (i : Crane) (x : List Segment) : (s.setZone i x).overflow = s.overflow := rfl
@[simp] theorem State.setZone_mask (i : Crane) (x : List Segment) : (s.setZone i x).mask = s.mask := rfl
@[simp] theorem State.setZone_assembly (i : Crane) (x : List Segment) : (s.setZone i x).assembly = s.assembly := rfl
@[simp] theorem State.setZone_transmitter (i : Crane) (x : List Segment) : (s.setZone i x).transmitter = s.transmitter := rfl
@[simp] theorem State.setZone_generators (i : Crane) (x : List Segment) : (s.setZone i x).generators = s.generators := rfl
@[simp] theorem State.setZone_cycles (i : Crane) (x : List Segment) : (s.setZone i x).cycles = s.cycles := rfl
@[simp] theorem State.setZone_divisor (i : Crane) (x : List Segment) : (s.setZone i x).divisor = s.divisor := rfl
@[simp] theorem State.setZone_ticks (i : Crane) (x : List Segment) : (s.setZone i x).ticks = s.ticks := rfl
@[simp] theorem State.setZone_holdLow (i : Crane) (x : List Segment) : (s.setZone i x).holdLow = s.holdLow := rfl
@[simp] theorem State.setZone_hold (i : Crane) (x : List Segment) : (s.setZone i x).hold = s.hold := rfl
@[simp] theorem State.setZone_inReset (i : Crane) (x : List Segment) : (s.setZone i x).inReset = s.inReset := rfl
@[simp] theorem State.setZone_shortPulses (i : Crane) (x : List Segment) : (s.setZone i x).shortPulses = s.shortPulses := rfl
@[simp] theorem State.setZone_inFlight (i : Crane) (x : List Segment) : (s.setZone i x).inFlight = s.inFlight := rfl
@[simp] theorem State.setZone_pending (i : Crane) (x : List Segment) : (s.setZone i x).pending = s.pending := rfl
@[simp] theorem State.setZone_crane (i : Crane) (x : List Segment) (j : Crane) : (s.setZone i x).crane j = s.crane j := rfl
@[simp] theorem State.setZone_zone_self (i : Crane) (x : List Segment) : (s.setZone i x).zone i = x := Bank.read_write_self _ _ _
@[simp] theorem State.setZone_zone_ne {i j : Crane} (x : List Segment) (h : j ≠ i) : (s.setZone i x).zone j = s.zone j :=
  Bank.read_write_ne _ _ h
theorem State.setZone_zone (i j : Crane) (x : List Segment) : (s.setZone i x).zone j = if j = i then x else s.zone j :=
  Bank.read_write _ _ _ _
@[simp] theorem State.setZone_sector (i : Crane) (x : List Segment) (j : Sector) : (s.setZone i x).sector j = s.sector j := rfl
@[simp] theorem State.setZone_profile (i : Crane) (x : List Segment) (j : ProfileNo) : (s.setZone i x).profile j = s.profile j := rfl
@[simp] theorem State.setZone_position (i : Crane) (x : List Segment) (j : Crane) : (s.setZone i x).position j = s.position j := rfl
@[simp] theorem State.setZone_entry (i : Crane) (x : List Segment) (j : Sector) : (s.setZone i x).entry j = s.entry j := rfl
@[simp] theorem State.setZone_detector (i : Crane) (x : List Segment) (j : Crane) : (s.setZone i x).detector j = s.detector j := rfl
@[simp] theorem State.setZone_windOf (i : Crane) (x : List Segment) (j : Crane) : (s.setZone i x).windOf j = s.windOf j := rfl
@[simp] theorem State.setZone_permit (i : Crane) (x : List Segment) (j : Crane) : (s.setZone i x).permit j = s.permit j := rfl
@[simp] theorem State.setZone_slot (i : Crane) (x : List Segment) (j : Crane) : (s.setZone i x).slot j = s.slot j := rfl
@[simp] theorem State.setZone_receiver (i : Crane) (x : List Segment) (j : Link) : (s.setZone i x).receiver j = s.receiver j := rfl
@[simp] theorem State.setZone_counter (i : Crane) (x : List Segment) (j : Link) : (s.setZone i x).counter j = s.counter j := rfl
@[simp] theorem State.setZone_generator (i : Crane) (x : List Segment) (j : BeaconLine) : (s.setZone i x).generator j = s.generator j := rfl

/-! ### `setSector` -/

@[simp] theorem State.setSector_cranes (i : Sector) (x : SectorRecord) : (s.setSector i x).cranes = s.cranes := rfl
@[simp] theorem State.setSector_zones (i : Sector) (x : SectorRecord) : (s.setSector i x).zones = s.zones := rfl
@[simp] theorem State.setSector_sectors (i : Sector) (x : SectorRecord) : (s.setSector i x).sectors = s.sectors.write i x := rfl
@[simp] theorem State.setSector_profiles (i : Sector) (x : SectorRecord) : (s.setSector i x).profiles = s.profiles := rfl
@[simp] theorem State.setSector_patterns (i : Sector) (x : SectorRecord) : (s.setSector i x).patterns = s.patterns := rfl
@[simp] theorem State.setSector_site (i : Sector) (x : SectorRecord) : (s.setSector i x).site = s.site := rfl
@[simp] theorem State.setSector_positions (i : Sector) (x : SectorRecord) : (s.setSector i x).positions = s.positions := rfl
@[simp] theorem State.setSector_entries (i : Sector) (x : SectorRecord) : (s.setSector i x).entries = s.entries := rfl
@[simp] theorem State.setSector_detectors (i : Sector) (x : SectorRecord) : (s.setSector i x).detectors = s.detectors := rfl
@[simp] theorem State.setSector_bookings (i : Sector) (x : SectorRecord) : (s.setSector i x).bookings = s.bookings := rfl
@[simp] theorem State.setSector_winds (i : Sector) (x : SectorRecord) : (s.setSector i x).winds = s.winds := rfl
@[simp] theorem State.setSector_permits (i : Sector) (x : SectorRecord) : (s.setSector i x).permits = s.permits := rfl
@[simp] theorem State.setSector_slots (i : Sector) (x : SectorRecord) : (s.setSector i x).slots = s.slots := rfl
@[simp] theorem State.setSector_receivers (i : Sector) (x : SectorRecord) : (s.setSector i x).receivers = s.receivers := rfl
@[simp] theorem State.setSector_counters (i : Sector) (x : SectorRecord) : (s.setSector i x).counters = s.counters := rfl
@[simp] theorem State.setSector_mode (i : Sector) (x : SectorRecord) : (s.setSector i x).mode = s.mode := rfl
@[simp] theorem State.setSector_clock (i : Sector) (x : SectorRecord) : (s.setSector i x).clock = s.clock := rfl
@[simp] theorem State.setSector_clockSet (i : Sector) (x : SectorRecord) : (s.setSector i x).clockSet = s.clockSet := rfl
@[simp] theorem State.setSector_replies (i : Sector) (x : SectorRecord) : (s.setSector i x).replies = s.replies := rfl
@[simp] theorem State.setSector_events (i : Sector) (x : SectorRecord) : (s.setSector i x).events = s.events := rfl
@[simp] theorem State.setSector_overflow (i : Sector) (x : SectorRecord) : (s.setSector i x).overflow = s.overflow := rfl
@[simp] theorem State.setSector_mask (i : Sector) (x : SectorRecord) : (s.setSector i x).mask = s.mask := rfl
@[simp] theorem State.setSector_assembly (i : Sector) (x : SectorRecord) : (s.setSector i x).assembly = s.assembly := rfl
@[simp] theorem State.setSector_transmitter (i : Sector) (x : SectorRecord) : (s.setSector i x).transmitter = s.transmitter := rfl
@[simp] theorem State.setSector_generators (i : Sector) (x : SectorRecord) : (s.setSector i x).generators = s.generators := rfl
@[simp] theorem State.setSector_cycles (i : Sector) (x : SectorRecord) : (s.setSector i x).cycles = s.cycles := rfl
@[simp] theorem State.setSector_divisor (i : Sector) (x : SectorRecord) : (s.setSector i x).divisor = s.divisor := rfl
@[simp] theorem State.setSector_ticks (i : Sector) (x : SectorRecord) : (s.setSector i x).ticks = s.ticks := rfl
@[simp] theorem State.setSector_holdLow (i : Sector) (x : SectorRecord) : (s.setSector i x).holdLow = s.holdLow := rfl
@[simp] theorem State.setSector_hold (i : Sector) (x : SectorRecord) : (s.setSector i x).hold = s.hold := rfl
@[simp] theorem State.setSector_inReset (i : Sector) (x : SectorRecord) : (s.setSector i x).inReset = s.inReset := rfl
@[simp] theorem State.setSector_shortPulses (i : Sector) (x : SectorRecord) : (s.setSector i x).shortPulses = s.shortPulses := rfl
@[simp] theorem State.setSector_inFlight (i : Sector) (x : SectorRecord) : (s.setSector i x).inFlight = s.inFlight := rfl
@[simp] theorem State.setSector_pending (i : Sector) (x : SectorRecord) : (s.setSector i x).pending = s.pending := rfl
@[simp] theorem State.setSector_crane (i : Sector) (x : SectorRecord) (j : Crane) : (s.setSector i x).crane j = s.crane j := rfl
@[simp] theorem State.setSector_zone (i : Sector) (x : SectorRecord) (j : Crane) : (s.setSector i x).zone j = s.zone j := rfl
@[simp] theorem State.setSector_sector_self (i : Sector) (x : SectorRecord) : (s.setSector i x).sector i = x := Bank.read_write_self _ _ _
@[simp] theorem State.setSector_sector_ne {i j : Sector} (x : SectorRecord) (h : j ≠ i) : (s.setSector i x).sector j = s.sector j :=
  Bank.read_write_ne _ _ h
theorem State.setSector_sector (i j : Sector) (x : SectorRecord) : (s.setSector i x).sector j = if j = i then x else s.sector j :=
  Bank.read_write _ _ _ _
@[simp] theorem State.setSector_profile (i : Sector) (x : SectorRecord) (j : ProfileNo) : (s.setSector i x).profile j = s.profile j := rfl
@[simp] theorem State.setSector_position (i : Sector) (x : SectorRecord) (j : Crane) : (s.setSector i x).position j = s.position j := rfl
@[simp] theorem State.setSector_entry (i : Sector) (x : SectorRecord) (j : Sector) : (s.setSector i x).entry j = s.entry j := rfl
@[simp] theorem State.setSector_detector (i : Sector) (x : SectorRecord) (j : Crane) : (s.setSector i x).detector j = s.detector j := rfl
@[simp] theorem State.setSector_windOf (i : Sector) (x : SectorRecord) (j : Crane) : (s.setSector i x).windOf j = s.windOf j := rfl
@[simp] theorem State.setSector_permit (i : Sector) (x : SectorRecord) (j : Crane) : (s.setSector i x).permit j = s.permit j := rfl
@[simp] theorem State.setSector_slot (i : Sector) (x : SectorRecord) (j : Crane) : (s.setSector i x).slot j = s.slot j := rfl
@[simp] theorem State.setSector_receiver (i : Sector) (x : SectorRecord) (j : Link) : (s.setSector i x).receiver j = s.receiver j := rfl
@[simp] theorem State.setSector_counter (i : Sector) (x : SectorRecord) (j : Link) : (s.setSector i x).counter j = s.counter j := rfl
@[simp] theorem State.setSector_generator (i : Sector) (x : SectorRecord) (j : BeaconLine) : (s.setSector i x).generator j = s.generator j := rfl

/-! ### `setProfile` -/

@[simp] theorem State.setProfile_cranes (i : ProfileNo) (x : WindProfile) : (s.setProfile i x).cranes = s.cranes := rfl
@[simp] theorem State.setProfile_zones (i : ProfileNo) (x : WindProfile) : (s.setProfile i x).zones = s.zones := rfl
@[simp] theorem State.setProfile_sectors (i : ProfileNo) (x : WindProfile) : (s.setProfile i x).sectors = s.sectors := rfl
@[simp] theorem State.setProfile_profiles (i : ProfileNo) (x : WindProfile) : (s.setProfile i x).profiles = s.profiles.write i x := rfl
@[simp] theorem State.setProfile_patterns (i : ProfileNo) (x : WindProfile) : (s.setProfile i x).patterns = s.patterns := rfl
@[simp] theorem State.setProfile_site (i : ProfileNo) (x : WindProfile) : (s.setProfile i x).site = s.site := rfl
@[simp] theorem State.setProfile_positions (i : ProfileNo) (x : WindProfile) : (s.setProfile i x).positions = s.positions := rfl
@[simp] theorem State.setProfile_entries (i : ProfileNo) (x : WindProfile) : (s.setProfile i x).entries = s.entries := rfl
@[simp] theorem State.setProfile_detectors (i : ProfileNo) (x : WindProfile) : (s.setProfile i x).detectors = s.detectors := rfl
@[simp] theorem State.setProfile_bookings (i : ProfileNo) (x : WindProfile) : (s.setProfile i x).bookings = s.bookings := rfl
@[simp] theorem State.setProfile_winds (i : ProfileNo) (x : WindProfile) : (s.setProfile i x).winds = s.winds := rfl
@[simp] theorem State.setProfile_permits (i : ProfileNo) (x : WindProfile) : (s.setProfile i x).permits = s.permits := rfl
@[simp] theorem State.setProfile_slots (i : ProfileNo) (x : WindProfile) : (s.setProfile i x).slots = s.slots := rfl
@[simp] theorem State.setProfile_receivers (i : ProfileNo) (x : WindProfile) : (s.setProfile i x).receivers = s.receivers := rfl
@[simp] theorem State.setProfile_counters (i : ProfileNo) (x : WindProfile) : (s.setProfile i x).counters = s.counters := rfl
@[simp] theorem State.setProfile_mode (i : ProfileNo) (x : WindProfile) : (s.setProfile i x).mode = s.mode := rfl
@[simp] theorem State.setProfile_clock (i : ProfileNo) (x : WindProfile) : (s.setProfile i x).clock = s.clock := rfl
@[simp] theorem State.setProfile_clockSet (i : ProfileNo) (x : WindProfile) : (s.setProfile i x).clockSet = s.clockSet := rfl
@[simp] theorem State.setProfile_replies (i : ProfileNo) (x : WindProfile) : (s.setProfile i x).replies = s.replies := rfl
@[simp] theorem State.setProfile_events (i : ProfileNo) (x : WindProfile) : (s.setProfile i x).events = s.events := rfl
@[simp] theorem State.setProfile_overflow (i : ProfileNo) (x : WindProfile) : (s.setProfile i x).overflow = s.overflow := rfl
@[simp] theorem State.setProfile_mask (i : ProfileNo) (x : WindProfile) : (s.setProfile i x).mask = s.mask := rfl
@[simp] theorem State.setProfile_assembly (i : ProfileNo) (x : WindProfile) : (s.setProfile i x).assembly = s.assembly := rfl
@[simp] theorem State.setProfile_transmitter (i : ProfileNo) (x : WindProfile) : (s.setProfile i x).transmitter = s.transmitter := rfl
@[simp] theorem State.setProfile_generators (i : ProfileNo) (x : WindProfile) : (s.setProfile i x).generators = s.generators := rfl
@[simp] theorem State.setProfile_cycles (i : ProfileNo) (x : WindProfile) : (s.setProfile i x).cycles = s.cycles := rfl
@[simp] theorem State.setProfile_divisor (i : ProfileNo) (x : WindProfile) : (s.setProfile i x).divisor = s.divisor := rfl
@[simp] theorem State.setProfile_ticks (i : ProfileNo) (x : WindProfile) : (s.setProfile i x).ticks = s.ticks := rfl
@[simp] theorem State.setProfile_holdLow (i : ProfileNo) (x : WindProfile) : (s.setProfile i x).holdLow = s.holdLow := rfl
@[simp] theorem State.setProfile_hold (i : ProfileNo) (x : WindProfile) : (s.setProfile i x).hold = s.hold := rfl
@[simp] theorem State.setProfile_inReset (i : ProfileNo) (x : WindProfile) : (s.setProfile i x).inReset = s.inReset := rfl
@[simp] theorem State.setProfile_shortPulses (i : ProfileNo) (x : WindProfile) : (s.setProfile i x).shortPulses = s.shortPulses := rfl
@[simp] theorem State.setProfile_inFlight (i : ProfileNo) (x : WindProfile) : (s.setProfile i x).inFlight = s.inFlight := rfl
@[simp] theorem State.setProfile_pending (i : ProfileNo) (x : WindProfile) : (s.setProfile i x).pending = s.pending := rfl
@[simp] theorem State.setProfile_crane (i : ProfileNo) (x : WindProfile) (j : Crane) : (s.setProfile i x).crane j = s.crane j := rfl
@[simp] theorem State.setProfile_zone (i : ProfileNo) (x : WindProfile) (j : Crane) : (s.setProfile i x).zone j = s.zone j := rfl
@[simp] theorem State.setProfile_sector (i : ProfileNo) (x : WindProfile) (j : Sector) : (s.setProfile i x).sector j = s.sector j := rfl
@[simp] theorem State.setProfile_profile_self (i : ProfileNo) (x : WindProfile) : (s.setProfile i x).profile i = x := Bank.read_write_self _ _ _
@[simp] theorem State.setProfile_profile_ne {i j : ProfileNo} (x : WindProfile) (h : j ≠ i) : (s.setProfile i x).profile j = s.profile j :=
  Bank.read_write_ne _ _ h
theorem State.setProfile_profile (i j : ProfileNo) (x : WindProfile) : (s.setProfile i x).profile j = if j = i then x else s.profile j :=
  Bank.read_write _ _ _ _
@[simp] theorem State.setProfile_position (i : ProfileNo) (x : WindProfile) (j : Crane) : (s.setProfile i x).position j = s.position j := rfl
@[simp] theorem State.setProfile_entry (i : ProfileNo) (x : WindProfile) (j : Sector) : (s.setProfile i x).entry j = s.entry j := rfl
@[simp] theorem State.setProfile_detector (i : ProfileNo) (x : WindProfile) (j : Crane) : (s.setProfile i x).detector j = s.detector j := rfl
@[simp] theorem State.setProfile_windOf (i : ProfileNo) (x : WindProfile) (j : Crane) : (s.setProfile i x).windOf j = s.windOf j := rfl
@[simp] theorem State.setProfile_permit (i : ProfileNo) (x : WindProfile) (j : Crane) : (s.setProfile i x).permit j = s.permit j := rfl
@[simp] theorem State.setProfile_slot (i : ProfileNo) (x : WindProfile) (j : Crane) : (s.setProfile i x).slot j = s.slot j := rfl
@[simp] theorem State.setProfile_receiver (i : ProfileNo) (x : WindProfile) (j : Link) : (s.setProfile i x).receiver j = s.receiver j := rfl
@[simp] theorem State.setProfile_counter (i : ProfileNo) (x : WindProfile) (j : Link) : (s.setProfile i x).counter j = s.counter j := rfl
@[simp] theorem State.setProfile_generator (i : ProfileNo) (x : WindProfile) (j : BeaconLine) : (s.setProfile i x).generator j = s.generator j := rfl

/-! ### `setPosition` -/

@[simp] theorem State.setPosition_cranes (i : Crane) (x : PositionRecord) : (s.setPosition i x).cranes = s.cranes := rfl
@[simp] theorem State.setPosition_zones (i : Crane) (x : PositionRecord) : (s.setPosition i x).zones = s.zones := rfl
@[simp] theorem State.setPosition_sectors (i : Crane) (x : PositionRecord) : (s.setPosition i x).sectors = s.sectors := rfl
@[simp] theorem State.setPosition_profiles (i : Crane) (x : PositionRecord) : (s.setPosition i x).profiles = s.profiles := rfl
@[simp] theorem State.setPosition_patterns (i : Crane) (x : PositionRecord) : (s.setPosition i x).patterns = s.patterns := rfl
@[simp] theorem State.setPosition_site (i : Crane) (x : PositionRecord) : (s.setPosition i x).site = s.site := rfl
@[simp] theorem State.setPosition_positions (i : Crane) (x : PositionRecord) : (s.setPosition i x).positions = s.positions.write i x := rfl
@[simp] theorem State.setPosition_entries (i : Crane) (x : PositionRecord) : (s.setPosition i x).entries = s.entries := rfl
@[simp] theorem State.setPosition_detectors (i : Crane) (x : PositionRecord) : (s.setPosition i x).detectors = s.detectors := rfl
@[simp] theorem State.setPosition_bookings (i : Crane) (x : PositionRecord) : (s.setPosition i x).bookings = s.bookings := rfl
@[simp] theorem State.setPosition_winds (i : Crane) (x : PositionRecord) : (s.setPosition i x).winds = s.winds := rfl
@[simp] theorem State.setPosition_permits (i : Crane) (x : PositionRecord) : (s.setPosition i x).permits = s.permits := rfl
@[simp] theorem State.setPosition_slots (i : Crane) (x : PositionRecord) : (s.setPosition i x).slots = s.slots := rfl
@[simp] theorem State.setPosition_receivers (i : Crane) (x : PositionRecord) : (s.setPosition i x).receivers = s.receivers := rfl
@[simp] theorem State.setPosition_counters (i : Crane) (x : PositionRecord) : (s.setPosition i x).counters = s.counters := rfl
@[simp] theorem State.setPosition_mode (i : Crane) (x : PositionRecord) : (s.setPosition i x).mode = s.mode := rfl
@[simp] theorem State.setPosition_clock (i : Crane) (x : PositionRecord) : (s.setPosition i x).clock = s.clock := rfl
@[simp] theorem State.setPosition_clockSet (i : Crane) (x : PositionRecord) : (s.setPosition i x).clockSet = s.clockSet := rfl
@[simp] theorem State.setPosition_replies (i : Crane) (x : PositionRecord) : (s.setPosition i x).replies = s.replies := rfl
@[simp] theorem State.setPosition_events (i : Crane) (x : PositionRecord) : (s.setPosition i x).events = s.events := rfl
@[simp] theorem State.setPosition_overflow (i : Crane) (x : PositionRecord) : (s.setPosition i x).overflow = s.overflow := rfl
@[simp] theorem State.setPosition_mask (i : Crane) (x : PositionRecord) : (s.setPosition i x).mask = s.mask := rfl
@[simp] theorem State.setPosition_assembly (i : Crane) (x : PositionRecord) : (s.setPosition i x).assembly = s.assembly := rfl
@[simp] theorem State.setPosition_transmitter (i : Crane) (x : PositionRecord) : (s.setPosition i x).transmitter = s.transmitter := rfl
@[simp] theorem State.setPosition_generators (i : Crane) (x : PositionRecord) : (s.setPosition i x).generators = s.generators := rfl
@[simp] theorem State.setPosition_cycles (i : Crane) (x : PositionRecord) : (s.setPosition i x).cycles = s.cycles := rfl
@[simp] theorem State.setPosition_divisor (i : Crane) (x : PositionRecord) : (s.setPosition i x).divisor = s.divisor := rfl
@[simp] theorem State.setPosition_ticks (i : Crane) (x : PositionRecord) : (s.setPosition i x).ticks = s.ticks := rfl
@[simp] theorem State.setPosition_holdLow (i : Crane) (x : PositionRecord) : (s.setPosition i x).holdLow = s.holdLow := rfl
@[simp] theorem State.setPosition_hold (i : Crane) (x : PositionRecord) : (s.setPosition i x).hold = s.hold := rfl
@[simp] theorem State.setPosition_inReset (i : Crane) (x : PositionRecord) : (s.setPosition i x).inReset = s.inReset := rfl
@[simp] theorem State.setPosition_shortPulses (i : Crane) (x : PositionRecord) : (s.setPosition i x).shortPulses = s.shortPulses := rfl
@[simp] theorem State.setPosition_inFlight (i : Crane) (x : PositionRecord) : (s.setPosition i x).inFlight = s.inFlight := rfl
@[simp] theorem State.setPosition_pending (i : Crane) (x : PositionRecord) : (s.setPosition i x).pending = s.pending := rfl
@[simp] theorem State.setPosition_crane (i : Crane) (x : PositionRecord) (j : Crane) : (s.setPosition i x).crane j = s.crane j := rfl
@[simp] theorem State.setPosition_zone (i : Crane) (x : PositionRecord) (j : Crane) : (s.setPosition i x).zone j = s.zone j := rfl
@[simp] theorem State.setPosition_sector (i : Crane) (x : PositionRecord) (j : Sector) : (s.setPosition i x).sector j = s.sector j := rfl
@[simp] theorem State.setPosition_profile (i : Crane) (x : PositionRecord) (j : ProfileNo) : (s.setPosition i x).profile j = s.profile j := rfl
@[simp] theorem State.setPosition_position_self (i : Crane) (x : PositionRecord) : (s.setPosition i x).position i = x := Bank.read_write_self _ _ _
@[simp] theorem State.setPosition_position_ne {i j : Crane} (x : PositionRecord) (h : j ≠ i) : (s.setPosition i x).position j = s.position j :=
  Bank.read_write_ne _ _ h
theorem State.setPosition_position (i j : Crane) (x : PositionRecord) : (s.setPosition i x).position j = if j = i then x else s.position j :=
  Bank.read_write _ _ _ _
@[simp] theorem State.setPosition_entry (i : Crane) (x : PositionRecord) (j : Sector) : (s.setPosition i x).entry j = s.entry j := rfl
@[simp] theorem State.setPosition_detector (i : Crane) (x : PositionRecord) (j : Crane) : (s.setPosition i x).detector j = s.detector j := rfl
@[simp] theorem State.setPosition_windOf (i : Crane) (x : PositionRecord) (j : Crane) : (s.setPosition i x).windOf j = s.windOf j := rfl
@[simp] theorem State.setPosition_permit (i : Crane) (x : PositionRecord) (j : Crane) : (s.setPosition i x).permit j = s.permit j := rfl
@[simp] theorem State.setPosition_slot (i : Crane) (x : PositionRecord) (j : Crane) : (s.setPosition i x).slot j = s.slot j := rfl
@[simp] theorem State.setPosition_receiver (i : Crane) (x : PositionRecord) (j : Link) : (s.setPosition i x).receiver j = s.receiver j := rfl
@[simp] theorem State.setPosition_counter (i : Crane) (x : PositionRecord) (j : Link) : (s.setPosition i x).counter j = s.counter j := rfl
@[simp] theorem State.setPosition_generator (i : Crane) (x : PositionRecord) (j : BeaconLine) : (s.setPosition i x).generator j = s.generator j := rfl

/-! ### `setEntry` -/

@[simp] theorem State.setEntry_cranes (i : Sector) (x : SectorEntry) : (s.setEntry i x).cranes = s.cranes := rfl
@[simp] theorem State.setEntry_zones (i : Sector) (x : SectorEntry) : (s.setEntry i x).zones = s.zones := rfl
@[simp] theorem State.setEntry_sectors (i : Sector) (x : SectorEntry) : (s.setEntry i x).sectors = s.sectors := rfl
@[simp] theorem State.setEntry_profiles (i : Sector) (x : SectorEntry) : (s.setEntry i x).profiles = s.profiles := rfl
@[simp] theorem State.setEntry_patterns (i : Sector) (x : SectorEntry) : (s.setEntry i x).patterns = s.patterns := rfl
@[simp] theorem State.setEntry_site (i : Sector) (x : SectorEntry) : (s.setEntry i x).site = s.site := rfl
@[simp] theorem State.setEntry_positions (i : Sector) (x : SectorEntry) : (s.setEntry i x).positions = s.positions := rfl
@[simp] theorem State.setEntry_entries (i : Sector) (x : SectorEntry) : (s.setEntry i x).entries = s.entries.write i x := rfl
@[simp] theorem State.setEntry_detectors (i : Sector) (x : SectorEntry) : (s.setEntry i x).detectors = s.detectors := rfl
@[simp] theorem State.setEntry_bookings (i : Sector) (x : SectorEntry) : (s.setEntry i x).bookings = s.bookings := rfl
@[simp] theorem State.setEntry_winds (i : Sector) (x : SectorEntry) : (s.setEntry i x).winds = s.winds := rfl
@[simp] theorem State.setEntry_permits (i : Sector) (x : SectorEntry) : (s.setEntry i x).permits = s.permits := rfl
@[simp] theorem State.setEntry_slots (i : Sector) (x : SectorEntry) : (s.setEntry i x).slots = s.slots := rfl
@[simp] theorem State.setEntry_receivers (i : Sector) (x : SectorEntry) : (s.setEntry i x).receivers = s.receivers := rfl
@[simp] theorem State.setEntry_counters (i : Sector) (x : SectorEntry) : (s.setEntry i x).counters = s.counters := rfl
@[simp] theorem State.setEntry_mode (i : Sector) (x : SectorEntry) : (s.setEntry i x).mode = s.mode := rfl
@[simp] theorem State.setEntry_clock (i : Sector) (x : SectorEntry) : (s.setEntry i x).clock = s.clock := rfl
@[simp] theorem State.setEntry_clockSet (i : Sector) (x : SectorEntry) : (s.setEntry i x).clockSet = s.clockSet := rfl
@[simp] theorem State.setEntry_replies (i : Sector) (x : SectorEntry) : (s.setEntry i x).replies = s.replies := rfl
@[simp] theorem State.setEntry_events (i : Sector) (x : SectorEntry) : (s.setEntry i x).events = s.events := rfl
@[simp] theorem State.setEntry_overflow (i : Sector) (x : SectorEntry) : (s.setEntry i x).overflow = s.overflow := rfl
@[simp] theorem State.setEntry_mask (i : Sector) (x : SectorEntry) : (s.setEntry i x).mask = s.mask := rfl
@[simp] theorem State.setEntry_assembly (i : Sector) (x : SectorEntry) : (s.setEntry i x).assembly = s.assembly := rfl
@[simp] theorem State.setEntry_transmitter (i : Sector) (x : SectorEntry) : (s.setEntry i x).transmitter = s.transmitter := rfl
@[simp] theorem State.setEntry_generators (i : Sector) (x : SectorEntry) : (s.setEntry i x).generators = s.generators := rfl
@[simp] theorem State.setEntry_cycles (i : Sector) (x : SectorEntry) : (s.setEntry i x).cycles = s.cycles := rfl
@[simp] theorem State.setEntry_divisor (i : Sector) (x : SectorEntry) : (s.setEntry i x).divisor = s.divisor := rfl
@[simp] theorem State.setEntry_ticks (i : Sector) (x : SectorEntry) : (s.setEntry i x).ticks = s.ticks := rfl
@[simp] theorem State.setEntry_holdLow (i : Sector) (x : SectorEntry) : (s.setEntry i x).holdLow = s.holdLow := rfl
@[simp] theorem State.setEntry_hold (i : Sector) (x : SectorEntry) : (s.setEntry i x).hold = s.hold := rfl
@[simp] theorem State.setEntry_inReset (i : Sector) (x : SectorEntry) : (s.setEntry i x).inReset = s.inReset := rfl
@[simp] theorem State.setEntry_shortPulses (i : Sector) (x : SectorEntry) : (s.setEntry i x).shortPulses = s.shortPulses := rfl
@[simp] theorem State.setEntry_inFlight (i : Sector) (x : SectorEntry) : (s.setEntry i x).inFlight = s.inFlight := rfl
@[simp] theorem State.setEntry_pending (i : Sector) (x : SectorEntry) : (s.setEntry i x).pending = s.pending := rfl
@[simp] theorem State.setEntry_crane (i : Sector) (x : SectorEntry) (j : Crane) : (s.setEntry i x).crane j = s.crane j := rfl
@[simp] theorem State.setEntry_zone (i : Sector) (x : SectorEntry) (j : Crane) : (s.setEntry i x).zone j = s.zone j := rfl
@[simp] theorem State.setEntry_sector (i : Sector) (x : SectorEntry) (j : Sector) : (s.setEntry i x).sector j = s.sector j := rfl
@[simp] theorem State.setEntry_profile (i : Sector) (x : SectorEntry) (j : ProfileNo) : (s.setEntry i x).profile j = s.profile j := rfl
@[simp] theorem State.setEntry_position (i : Sector) (x : SectorEntry) (j : Crane) : (s.setEntry i x).position j = s.position j := rfl
@[simp] theorem State.setEntry_entry_self (i : Sector) (x : SectorEntry) : (s.setEntry i x).entry i = x := Bank.read_write_self _ _ _
@[simp] theorem State.setEntry_entry_ne {i j : Sector} (x : SectorEntry) (h : j ≠ i) : (s.setEntry i x).entry j = s.entry j :=
  Bank.read_write_ne _ _ h
theorem State.setEntry_entry (i j : Sector) (x : SectorEntry) : (s.setEntry i x).entry j = if j = i then x else s.entry j :=
  Bank.read_write _ _ _ _
@[simp] theorem State.setEntry_detector (i : Sector) (x : SectorEntry) (j : Crane) : (s.setEntry i x).detector j = s.detector j := rfl
@[simp] theorem State.setEntry_windOf (i : Sector) (x : SectorEntry) (j : Crane) : (s.setEntry i x).windOf j = s.windOf j := rfl
@[simp] theorem State.setEntry_permit (i : Sector) (x : SectorEntry) (j : Crane) : (s.setEntry i x).permit j = s.permit j := rfl
@[simp] theorem State.setEntry_slot (i : Sector) (x : SectorEntry) (j : Crane) : (s.setEntry i x).slot j = s.slot j := rfl
@[simp] theorem State.setEntry_receiver (i : Sector) (x : SectorEntry) (j : Link) : (s.setEntry i x).receiver j = s.receiver j := rfl
@[simp] theorem State.setEntry_counter (i : Sector) (x : SectorEntry) (j : Link) : (s.setEntry i x).counter j = s.counter j := rfl
@[simp] theorem State.setEntry_generator (i : Sector) (x : SectorEntry) (j : BeaconLine) : (s.setEntry i x).generator j = s.generator j := rfl

/-! ### `setDetector` -/

@[simp] theorem State.setDetector_cranes (i : Crane) (x : Detector) : (s.setDetector i x).cranes = s.cranes := rfl
@[simp] theorem State.setDetector_zones (i : Crane) (x : Detector) : (s.setDetector i x).zones = s.zones := rfl
@[simp] theorem State.setDetector_sectors (i : Crane) (x : Detector) : (s.setDetector i x).sectors = s.sectors := rfl
@[simp] theorem State.setDetector_profiles (i : Crane) (x : Detector) : (s.setDetector i x).profiles = s.profiles := rfl
@[simp] theorem State.setDetector_patterns (i : Crane) (x : Detector) : (s.setDetector i x).patterns = s.patterns := rfl
@[simp] theorem State.setDetector_site (i : Crane) (x : Detector) : (s.setDetector i x).site = s.site := rfl
@[simp] theorem State.setDetector_positions (i : Crane) (x : Detector) : (s.setDetector i x).positions = s.positions := rfl
@[simp] theorem State.setDetector_entries (i : Crane) (x : Detector) : (s.setDetector i x).entries = s.entries := rfl
@[simp] theorem State.setDetector_detectors (i : Crane) (x : Detector) : (s.setDetector i x).detectors = s.detectors.write i x := rfl
@[simp] theorem State.setDetector_bookings (i : Crane) (x : Detector) : (s.setDetector i x).bookings = s.bookings := rfl
@[simp] theorem State.setDetector_winds (i : Crane) (x : Detector) : (s.setDetector i x).winds = s.winds := rfl
@[simp] theorem State.setDetector_permits (i : Crane) (x : Detector) : (s.setDetector i x).permits = s.permits := rfl
@[simp] theorem State.setDetector_slots (i : Crane) (x : Detector) : (s.setDetector i x).slots = s.slots := rfl
@[simp] theorem State.setDetector_receivers (i : Crane) (x : Detector) : (s.setDetector i x).receivers = s.receivers := rfl
@[simp] theorem State.setDetector_counters (i : Crane) (x : Detector) : (s.setDetector i x).counters = s.counters := rfl
@[simp] theorem State.setDetector_mode (i : Crane) (x : Detector) : (s.setDetector i x).mode = s.mode := rfl
@[simp] theorem State.setDetector_clock (i : Crane) (x : Detector) : (s.setDetector i x).clock = s.clock := rfl
@[simp] theorem State.setDetector_clockSet (i : Crane) (x : Detector) : (s.setDetector i x).clockSet = s.clockSet := rfl
@[simp] theorem State.setDetector_replies (i : Crane) (x : Detector) : (s.setDetector i x).replies = s.replies := rfl
@[simp] theorem State.setDetector_events (i : Crane) (x : Detector) : (s.setDetector i x).events = s.events := rfl
@[simp] theorem State.setDetector_overflow (i : Crane) (x : Detector) : (s.setDetector i x).overflow = s.overflow := rfl
@[simp] theorem State.setDetector_mask (i : Crane) (x : Detector) : (s.setDetector i x).mask = s.mask := rfl
@[simp] theorem State.setDetector_assembly (i : Crane) (x : Detector) : (s.setDetector i x).assembly = s.assembly := rfl
@[simp] theorem State.setDetector_transmitter (i : Crane) (x : Detector) : (s.setDetector i x).transmitter = s.transmitter := rfl
@[simp] theorem State.setDetector_generators (i : Crane) (x : Detector) : (s.setDetector i x).generators = s.generators := rfl
@[simp] theorem State.setDetector_cycles (i : Crane) (x : Detector) : (s.setDetector i x).cycles = s.cycles := rfl
@[simp] theorem State.setDetector_divisor (i : Crane) (x : Detector) : (s.setDetector i x).divisor = s.divisor := rfl
@[simp] theorem State.setDetector_ticks (i : Crane) (x : Detector) : (s.setDetector i x).ticks = s.ticks := rfl
@[simp] theorem State.setDetector_holdLow (i : Crane) (x : Detector) : (s.setDetector i x).holdLow = s.holdLow := rfl
@[simp] theorem State.setDetector_hold (i : Crane) (x : Detector) : (s.setDetector i x).hold = s.hold := rfl
@[simp] theorem State.setDetector_inReset (i : Crane) (x : Detector) : (s.setDetector i x).inReset = s.inReset := rfl
@[simp] theorem State.setDetector_shortPulses (i : Crane) (x : Detector) : (s.setDetector i x).shortPulses = s.shortPulses := rfl
@[simp] theorem State.setDetector_inFlight (i : Crane) (x : Detector) : (s.setDetector i x).inFlight = s.inFlight := rfl
@[simp] theorem State.setDetector_pending (i : Crane) (x : Detector) : (s.setDetector i x).pending = s.pending := rfl
@[simp] theorem State.setDetector_crane (i : Crane) (x : Detector) (j : Crane) : (s.setDetector i x).crane j = s.crane j := rfl
@[simp] theorem State.setDetector_zone (i : Crane) (x : Detector) (j : Crane) : (s.setDetector i x).zone j = s.zone j := rfl
@[simp] theorem State.setDetector_sector (i : Crane) (x : Detector) (j : Sector) : (s.setDetector i x).sector j = s.sector j := rfl
@[simp] theorem State.setDetector_profile (i : Crane) (x : Detector) (j : ProfileNo) : (s.setDetector i x).profile j = s.profile j := rfl
@[simp] theorem State.setDetector_position (i : Crane) (x : Detector) (j : Crane) : (s.setDetector i x).position j = s.position j := rfl
@[simp] theorem State.setDetector_entry (i : Crane) (x : Detector) (j : Sector) : (s.setDetector i x).entry j = s.entry j := rfl
@[simp] theorem State.setDetector_detector_self (i : Crane) (x : Detector) : (s.setDetector i x).detector i = x := Bank.read_write_self _ _ _
@[simp] theorem State.setDetector_detector_ne {i j : Crane} (x : Detector) (h : j ≠ i) : (s.setDetector i x).detector j = s.detector j :=
  Bank.read_write_ne _ _ h
theorem State.setDetector_detector (i j : Crane) (x : Detector) : (s.setDetector i x).detector j = if j = i then x else s.detector j :=
  Bank.read_write _ _ _ _
@[simp] theorem State.setDetector_windOf (i : Crane) (x : Detector) (j : Crane) : (s.setDetector i x).windOf j = s.windOf j := rfl
@[simp] theorem State.setDetector_permit (i : Crane) (x : Detector) (j : Crane) : (s.setDetector i x).permit j = s.permit j := rfl
@[simp] theorem State.setDetector_slot (i : Crane) (x : Detector) (j : Crane) : (s.setDetector i x).slot j = s.slot j := rfl
@[simp] theorem State.setDetector_receiver (i : Crane) (x : Detector) (j : Link) : (s.setDetector i x).receiver j = s.receiver j := rfl
@[simp] theorem State.setDetector_counter (i : Crane) (x : Detector) (j : Link) : (s.setDetector i x).counter j = s.counter j := rfl
@[simp] theorem State.setDetector_generator (i : Crane) (x : Detector) (j : BeaconLine) : (s.setDetector i x).generator j = s.generator j := rfl

/-! ### `setWind` -/

@[simp] theorem State.setWind_cranes (i : Crane) (x : WindRecord) : (s.setWind i x).cranes = s.cranes := rfl
@[simp] theorem State.setWind_zones (i : Crane) (x : WindRecord) : (s.setWind i x).zones = s.zones := rfl
@[simp] theorem State.setWind_sectors (i : Crane) (x : WindRecord) : (s.setWind i x).sectors = s.sectors := rfl
@[simp] theorem State.setWind_profiles (i : Crane) (x : WindRecord) : (s.setWind i x).profiles = s.profiles := rfl
@[simp] theorem State.setWind_patterns (i : Crane) (x : WindRecord) : (s.setWind i x).patterns = s.patterns := rfl
@[simp] theorem State.setWind_site (i : Crane) (x : WindRecord) : (s.setWind i x).site = s.site := rfl
@[simp] theorem State.setWind_positions (i : Crane) (x : WindRecord) : (s.setWind i x).positions = s.positions := rfl
@[simp] theorem State.setWind_entries (i : Crane) (x : WindRecord) : (s.setWind i x).entries = s.entries := rfl
@[simp] theorem State.setWind_detectors (i : Crane) (x : WindRecord) : (s.setWind i x).detectors = s.detectors := rfl
@[simp] theorem State.setWind_bookings (i : Crane) (x : WindRecord) : (s.setWind i x).bookings = s.bookings := rfl
@[simp] theorem State.setWind_winds (i : Crane) (x : WindRecord) : (s.setWind i x).winds = s.winds.write i x := rfl
@[simp] theorem State.setWind_permits (i : Crane) (x : WindRecord) : (s.setWind i x).permits = s.permits := rfl
@[simp] theorem State.setWind_slots (i : Crane) (x : WindRecord) : (s.setWind i x).slots = s.slots := rfl
@[simp] theorem State.setWind_receivers (i : Crane) (x : WindRecord) : (s.setWind i x).receivers = s.receivers := rfl
@[simp] theorem State.setWind_counters (i : Crane) (x : WindRecord) : (s.setWind i x).counters = s.counters := rfl
@[simp] theorem State.setWind_mode (i : Crane) (x : WindRecord) : (s.setWind i x).mode = s.mode := rfl
@[simp] theorem State.setWind_clock (i : Crane) (x : WindRecord) : (s.setWind i x).clock = s.clock := rfl
@[simp] theorem State.setWind_clockSet (i : Crane) (x : WindRecord) : (s.setWind i x).clockSet = s.clockSet := rfl
@[simp] theorem State.setWind_replies (i : Crane) (x : WindRecord) : (s.setWind i x).replies = s.replies := rfl
@[simp] theorem State.setWind_events (i : Crane) (x : WindRecord) : (s.setWind i x).events = s.events := rfl
@[simp] theorem State.setWind_overflow (i : Crane) (x : WindRecord) : (s.setWind i x).overflow = s.overflow := rfl
@[simp] theorem State.setWind_mask (i : Crane) (x : WindRecord) : (s.setWind i x).mask = s.mask := rfl
@[simp] theorem State.setWind_assembly (i : Crane) (x : WindRecord) : (s.setWind i x).assembly = s.assembly := rfl
@[simp] theorem State.setWind_transmitter (i : Crane) (x : WindRecord) : (s.setWind i x).transmitter = s.transmitter := rfl
@[simp] theorem State.setWind_generators (i : Crane) (x : WindRecord) : (s.setWind i x).generators = s.generators := rfl
@[simp] theorem State.setWind_cycles (i : Crane) (x : WindRecord) : (s.setWind i x).cycles = s.cycles := rfl
@[simp] theorem State.setWind_divisor (i : Crane) (x : WindRecord) : (s.setWind i x).divisor = s.divisor := rfl
@[simp] theorem State.setWind_ticks (i : Crane) (x : WindRecord) : (s.setWind i x).ticks = s.ticks := rfl
@[simp] theorem State.setWind_holdLow (i : Crane) (x : WindRecord) : (s.setWind i x).holdLow = s.holdLow := rfl
@[simp] theorem State.setWind_hold (i : Crane) (x : WindRecord) : (s.setWind i x).hold = s.hold := rfl
@[simp] theorem State.setWind_inReset (i : Crane) (x : WindRecord) : (s.setWind i x).inReset = s.inReset := rfl
@[simp] theorem State.setWind_shortPulses (i : Crane) (x : WindRecord) : (s.setWind i x).shortPulses = s.shortPulses := rfl
@[simp] theorem State.setWind_inFlight (i : Crane) (x : WindRecord) : (s.setWind i x).inFlight = s.inFlight := rfl
@[simp] theorem State.setWind_pending (i : Crane) (x : WindRecord) : (s.setWind i x).pending = s.pending := rfl
@[simp] theorem State.setWind_crane (i : Crane) (x : WindRecord) (j : Crane) : (s.setWind i x).crane j = s.crane j := rfl
@[simp] theorem State.setWind_zone (i : Crane) (x : WindRecord) (j : Crane) : (s.setWind i x).zone j = s.zone j := rfl
@[simp] theorem State.setWind_sector (i : Crane) (x : WindRecord) (j : Sector) : (s.setWind i x).sector j = s.sector j := rfl
@[simp] theorem State.setWind_profile (i : Crane) (x : WindRecord) (j : ProfileNo) : (s.setWind i x).profile j = s.profile j := rfl
@[simp] theorem State.setWind_position (i : Crane) (x : WindRecord) (j : Crane) : (s.setWind i x).position j = s.position j := rfl
@[simp] theorem State.setWind_entry (i : Crane) (x : WindRecord) (j : Sector) : (s.setWind i x).entry j = s.entry j := rfl
@[simp] theorem State.setWind_detector (i : Crane) (x : WindRecord) (j : Crane) : (s.setWind i x).detector j = s.detector j := rfl
@[simp] theorem State.setWind_windOf_self (i : Crane) (x : WindRecord) : (s.setWind i x).windOf i = x := Bank.read_write_self _ _ _
@[simp] theorem State.setWind_windOf_ne {i j : Crane} (x : WindRecord) (h : j ≠ i) : (s.setWind i x).windOf j = s.windOf j :=
  Bank.read_write_ne _ _ h
theorem State.setWind_windOf (i j : Crane) (x : WindRecord) : (s.setWind i x).windOf j = if j = i then x else s.windOf j :=
  Bank.read_write _ _ _ _
@[simp] theorem State.setWind_permit (i : Crane) (x : WindRecord) (j : Crane) : (s.setWind i x).permit j = s.permit j := rfl
@[simp] theorem State.setWind_slot (i : Crane) (x : WindRecord) (j : Crane) : (s.setWind i x).slot j = s.slot j := rfl
@[simp] theorem State.setWind_receiver (i : Crane) (x : WindRecord) (j : Link) : (s.setWind i x).receiver j = s.receiver j := rfl
@[simp] theorem State.setWind_counter (i : Crane) (x : WindRecord) (j : Link) : (s.setWind i x).counter j = s.counter j := rfl
@[simp] theorem State.setWind_generator (i : Crane) (x : WindRecord) (j : BeaconLine) : (s.setWind i x).generator j = s.generator j := rfl

/-! ### `setPermit` -/

@[simp] theorem State.setPermit_cranes (i : Crane) (x : PermitRecord) : (s.setPermit i x).cranes = s.cranes := rfl
@[simp] theorem State.setPermit_zones (i : Crane) (x : PermitRecord) : (s.setPermit i x).zones = s.zones := rfl
@[simp] theorem State.setPermit_sectors (i : Crane) (x : PermitRecord) : (s.setPermit i x).sectors = s.sectors := rfl
@[simp] theorem State.setPermit_profiles (i : Crane) (x : PermitRecord) : (s.setPermit i x).profiles = s.profiles := rfl
@[simp] theorem State.setPermit_patterns (i : Crane) (x : PermitRecord) : (s.setPermit i x).patterns = s.patterns := rfl
@[simp] theorem State.setPermit_site (i : Crane) (x : PermitRecord) : (s.setPermit i x).site = s.site := rfl
@[simp] theorem State.setPermit_positions (i : Crane) (x : PermitRecord) : (s.setPermit i x).positions = s.positions := rfl
@[simp] theorem State.setPermit_entries (i : Crane) (x : PermitRecord) : (s.setPermit i x).entries = s.entries := rfl
@[simp] theorem State.setPermit_detectors (i : Crane) (x : PermitRecord) : (s.setPermit i x).detectors = s.detectors := rfl
@[simp] theorem State.setPermit_bookings (i : Crane) (x : PermitRecord) : (s.setPermit i x).bookings = s.bookings := rfl
@[simp] theorem State.setPermit_winds (i : Crane) (x : PermitRecord) : (s.setPermit i x).winds = s.winds := rfl
@[simp] theorem State.setPermit_permits (i : Crane) (x : PermitRecord) : (s.setPermit i x).permits = s.permits.write i x := rfl
@[simp] theorem State.setPermit_slots (i : Crane) (x : PermitRecord) : (s.setPermit i x).slots = s.slots := rfl
@[simp] theorem State.setPermit_receivers (i : Crane) (x : PermitRecord) : (s.setPermit i x).receivers = s.receivers := rfl
@[simp] theorem State.setPermit_counters (i : Crane) (x : PermitRecord) : (s.setPermit i x).counters = s.counters := rfl
@[simp] theorem State.setPermit_mode (i : Crane) (x : PermitRecord) : (s.setPermit i x).mode = s.mode := rfl
@[simp] theorem State.setPermit_clock (i : Crane) (x : PermitRecord) : (s.setPermit i x).clock = s.clock := rfl
@[simp] theorem State.setPermit_clockSet (i : Crane) (x : PermitRecord) : (s.setPermit i x).clockSet = s.clockSet := rfl
@[simp] theorem State.setPermit_replies (i : Crane) (x : PermitRecord) : (s.setPermit i x).replies = s.replies := rfl
@[simp] theorem State.setPermit_events (i : Crane) (x : PermitRecord) : (s.setPermit i x).events = s.events := rfl
@[simp] theorem State.setPermit_overflow (i : Crane) (x : PermitRecord) : (s.setPermit i x).overflow = s.overflow := rfl
@[simp] theorem State.setPermit_mask (i : Crane) (x : PermitRecord) : (s.setPermit i x).mask = s.mask := rfl
@[simp] theorem State.setPermit_assembly (i : Crane) (x : PermitRecord) : (s.setPermit i x).assembly = s.assembly := rfl
@[simp] theorem State.setPermit_transmitter (i : Crane) (x : PermitRecord) : (s.setPermit i x).transmitter = s.transmitter := rfl
@[simp] theorem State.setPermit_generators (i : Crane) (x : PermitRecord) : (s.setPermit i x).generators = s.generators := rfl
@[simp] theorem State.setPermit_cycles (i : Crane) (x : PermitRecord) : (s.setPermit i x).cycles = s.cycles := rfl
@[simp] theorem State.setPermit_divisor (i : Crane) (x : PermitRecord) : (s.setPermit i x).divisor = s.divisor := rfl
@[simp] theorem State.setPermit_ticks (i : Crane) (x : PermitRecord) : (s.setPermit i x).ticks = s.ticks := rfl
@[simp] theorem State.setPermit_holdLow (i : Crane) (x : PermitRecord) : (s.setPermit i x).holdLow = s.holdLow := rfl
@[simp] theorem State.setPermit_hold (i : Crane) (x : PermitRecord) : (s.setPermit i x).hold = s.hold := rfl
@[simp] theorem State.setPermit_inReset (i : Crane) (x : PermitRecord) : (s.setPermit i x).inReset = s.inReset := rfl
@[simp] theorem State.setPermit_shortPulses (i : Crane) (x : PermitRecord) : (s.setPermit i x).shortPulses = s.shortPulses := rfl
@[simp] theorem State.setPermit_inFlight (i : Crane) (x : PermitRecord) : (s.setPermit i x).inFlight = s.inFlight := rfl
@[simp] theorem State.setPermit_pending (i : Crane) (x : PermitRecord) : (s.setPermit i x).pending = s.pending := rfl
@[simp] theorem State.setPermit_crane (i : Crane) (x : PermitRecord) (j : Crane) : (s.setPermit i x).crane j = s.crane j := rfl
@[simp] theorem State.setPermit_zone (i : Crane) (x : PermitRecord) (j : Crane) : (s.setPermit i x).zone j = s.zone j := rfl
@[simp] theorem State.setPermit_sector (i : Crane) (x : PermitRecord) (j : Sector) : (s.setPermit i x).sector j = s.sector j := rfl
@[simp] theorem State.setPermit_profile (i : Crane) (x : PermitRecord) (j : ProfileNo) : (s.setPermit i x).profile j = s.profile j := rfl
@[simp] theorem State.setPermit_position (i : Crane) (x : PermitRecord) (j : Crane) : (s.setPermit i x).position j = s.position j := rfl
@[simp] theorem State.setPermit_entry (i : Crane) (x : PermitRecord) (j : Sector) : (s.setPermit i x).entry j = s.entry j := rfl
@[simp] theorem State.setPermit_detector (i : Crane) (x : PermitRecord) (j : Crane) : (s.setPermit i x).detector j = s.detector j := rfl
@[simp] theorem State.setPermit_windOf (i : Crane) (x : PermitRecord) (j : Crane) : (s.setPermit i x).windOf j = s.windOf j := rfl
@[simp] theorem State.setPermit_permit_self (i : Crane) (x : PermitRecord) : (s.setPermit i x).permit i = x := Bank.read_write_self _ _ _
@[simp] theorem State.setPermit_permit_ne {i j : Crane} (x : PermitRecord) (h : j ≠ i) : (s.setPermit i x).permit j = s.permit j :=
  Bank.read_write_ne _ _ h
theorem State.setPermit_permit (i j : Crane) (x : PermitRecord) : (s.setPermit i x).permit j = if j = i then x else s.permit j :=
  Bank.read_write _ _ _ _
@[simp] theorem State.setPermit_slot (i : Crane) (x : PermitRecord) (j : Crane) : (s.setPermit i x).slot j = s.slot j := rfl
@[simp] theorem State.setPermit_receiver (i : Crane) (x : PermitRecord) (j : Link) : (s.setPermit i x).receiver j = s.receiver j := rfl
@[simp] theorem State.setPermit_counter (i : Crane) (x : PermitRecord) (j : Link) : (s.setPermit i x).counter j = s.counter j := rfl
@[simp] theorem State.setPermit_generator (i : Crane) (x : PermitRecord) (j : BeaconLine) : (s.setPermit i x).generator j = s.generator j := rfl

/-! ### `setSlot` -/

@[simp] theorem State.setSlot_cranes (i : Crane) (x : LinkSlots) : (s.setSlot i x).cranes = s.cranes := rfl
@[simp] theorem State.setSlot_zones (i : Crane) (x : LinkSlots) : (s.setSlot i x).zones = s.zones := rfl
@[simp] theorem State.setSlot_sectors (i : Crane) (x : LinkSlots) : (s.setSlot i x).sectors = s.sectors := rfl
@[simp] theorem State.setSlot_profiles (i : Crane) (x : LinkSlots) : (s.setSlot i x).profiles = s.profiles := rfl
@[simp] theorem State.setSlot_patterns (i : Crane) (x : LinkSlots) : (s.setSlot i x).patterns = s.patterns := rfl
@[simp] theorem State.setSlot_site (i : Crane) (x : LinkSlots) : (s.setSlot i x).site = s.site := rfl
@[simp] theorem State.setSlot_positions (i : Crane) (x : LinkSlots) : (s.setSlot i x).positions = s.positions := rfl
@[simp] theorem State.setSlot_entries (i : Crane) (x : LinkSlots) : (s.setSlot i x).entries = s.entries := rfl
@[simp] theorem State.setSlot_detectors (i : Crane) (x : LinkSlots) : (s.setSlot i x).detectors = s.detectors := rfl
@[simp] theorem State.setSlot_bookings (i : Crane) (x : LinkSlots) : (s.setSlot i x).bookings = s.bookings := rfl
@[simp] theorem State.setSlot_winds (i : Crane) (x : LinkSlots) : (s.setSlot i x).winds = s.winds := rfl
@[simp] theorem State.setSlot_permits (i : Crane) (x : LinkSlots) : (s.setSlot i x).permits = s.permits := rfl
@[simp] theorem State.setSlot_slots (i : Crane) (x : LinkSlots) : (s.setSlot i x).slots = s.slots.write i x := rfl
@[simp] theorem State.setSlot_receivers (i : Crane) (x : LinkSlots) : (s.setSlot i x).receivers = s.receivers := rfl
@[simp] theorem State.setSlot_counters (i : Crane) (x : LinkSlots) : (s.setSlot i x).counters = s.counters := rfl
@[simp] theorem State.setSlot_mode (i : Crane) (x : LinkSlots) : (s.setSlot i x).mode = s.mode := rfl
@[simp] theorem State.setSlot_clock (i : Crane) (x : LinkSlots) : (s.setSlot i x).clock = s.clock := rfl
@[simp] theorem State.setSlot_clockSet (i : Crane) (x : LinkSlots) : (s.setSlot i x).clockSet = s.clockSet := rfl
@[simp] theorem State.setSlot_replies (i : Crane) (x : LinkSlots) : (s.setSlot i x).replies = s.replies := rfl
@[simp] theorem State.setSlot_events (i : Crane) (x : LinkSlots) : (s.setSlot i x).events = s.events := rfl
@[simp] theorem State.setSlot_overflow (i : Crane) (x : LinkSlots) : (s.setSlot i x).overflow = s.overflow := rfl
@[simp] theorem State.setSlot_mask (i : Crane) (x : LinkSlots) : (s.setSlot i x).mask = s.mask := rfl
@[simp] theorem State.setSlot_assembly (i : Crane) (x : LinkSlots) : (s.setSlot i x).assembly = s.assembly := rfl
@[simp] theorem State.setSlot_transmitter (i : Crane) (x : LinkSlots) : (s.setSlot i x).transmitter = s.transmitter := rfl
@[simp] theorem State.setSlot_generators (i : Crane) (x : LinkSlots) : (s.setSlot i x).generators = s.generators := rfl
@[simp] theorem State.setSlot_cycles (i : Crane) (x : LinkSlots) : (s.setSlot i x).cycles = s.cycles := rfl
@[simp] theorem State.setSlot_divisor (i : Crane) (x : LinkSlots) : (s.setSlot i x).divisor = s.divisor := rfl
@[simp] theorem State.setSlot_ticks (i : Crane) (x : LinkSlots) : (s.setSlot i x).ticks = s.ticks := rfl
@[simp] theorem State.setSlot_holdLow (i : Crane) (x : LinkSlots) : (s.setSlot i x).holdLow = s.holdLow := rfl
@[simp] theorem State.setSlot_hold (i : Crane) (x : LinkSlots) : (s.setSlot i x).hold = s.hold := rfl
@[simp] theorem State.setSlot_inReset (i : Crane) (x : LinkSlots) : (s.setSlot i x).inReset = s.inReset := rfl
@[simp] theorem State.setSlot_shortPulses (i : Crane) (x : LinkSlots) : (s.setSlot i x).shortPulses = s.shortPulses := rfl
@[simp] theorem State.setSlot_inFlight (i : Crane) (x : LinkSlots) : (s.setSlot i x).inFlight = s.inFlight := rfl
@[simp] theorem State.setSlot_pending (i : Crane) (x : LinkSlots) : (s.setSlot i x).pending = s.pending := rfl
@[simp] theorem State.setSlot_crane (i : Crane) (x : LinkSlots) (j : Crane) : (s.setSlot i x).crane j = s.crane j := rfl
@[simp] theorem State.setSlot_zone (i : Crane) (x : LinkSlots) (j : Crane) : (s.setSlot i x).zone j = s.zone j := rfl
@[simp] theorem State.setSlot_sector (i : Crane) (x : LinkSlots) (j : Sector) : (s.setSlot i x).sector j = s.sector j := rfl
@[simp] theorem State.setSlot_profile (i : Crane) (x : LinkSlots) (j : ProfileNo) : (s.setSlot i x).profile j = s.profile j := rfl
@[simp] theorem State.setSlot_position (i : Crane) (x : LinkSlots) (j : Crane) : (s.setSlot i x).position j = s.position j := rfl
@[simp] theorem State.setSlot_entry (i : Crane) (x : LinkSlots) (j : Sector) : (s.setSlot i x).entry j = s.entry j := rfl
@[simp] theorem State.setSlot_detector (i : Crane) (x : LinkSlots) (j : Crane) : (s.setSlot i x).detector j = s.detector j := rfl
@[simp] theorem State.setSlot_windOf (i : Crane) (x : LinkSlots) (j : Crane) : (s.setSlot i x).windOf j = s.windOf j := rfl
@[simp] theorem State.setSlot_permit (i : Crane) (x : LinkSlots) (j : Crane) : (s.setSlot i x).permit j = s.permit j := rfl
@[simp] theorem State.setSlot_slot_self (i : Crane) (x : LinkSlots) : (s.setSlot i x).slot i = x := Bank.read_write_self _ _ _
@[simp] theorem State.setSlot_slot_ne {i j : Crane} (x : LinkSlots) (h : j ≠ i) : (s.setSlot i x).slot j = s.slot j :=
  Bank.read_write_ne _ _ h
theorem State.setSlot_slot (i j : Crane) (x : LinkSlots) : (s.setSlot i x).slot j = if j = i then x else s.slot j :=
  Bank.read_write _ _ _ _
@[simp] theorem State.setSlot_receiver (i : Crane) (x : LinkSlots) (j : Link) : (s.setSlot i x).receiver j = s.receiver j := rfl
@[simp] theorem State.setSlot_counter (i : Crane) (x : LinkSlots) (j : Link) : (s.setSlot i x).counter j = s.counter j := rfl
@[simp] theorem State.setSlot_generator (i : Crane) (x : LinkSlots) (j : BeaconLine) : (s.setSlot i x).generator j = s.generator j := rfl

/-! ### `setReceiver` -/

@[simp] theorem State.setReceiver_cranes (i : Link) (x : Receiver) : (s.setReceiver i x).cranes = s.cranes := rfl
@[simp] theorem State.setReceiver_zones (i : Link) (x : Receiver) : (s.setReceiver i x).zones = s.zones := rfl
@[simp] theorem State.setReceiver_sectors (i : Link) (x : Receiver) : (s.setReceiver i x).sectors = s.sectors := rfl
@[simp] theorem State.setReceiver_profiles (i : Link) (x : Receiver) : (s.setReceiver i x).profiles = s.profiles := rfl
@[simp] theorem State.setReceiver_patterns (i : Link) (x : Receiver) : (s.setReceiver i x).patterns = s.patterns := rfl
@[simp] theorem State.setReceiver_site (i : Link) (x : Receiver) : (s.setReceiver i x).site = s.site := rfl
@[simp] theorem State.setReceiver_positions (i : Link) (x : Receiver) : (s.setReceiver i x).positions = s.positions := rfl
@[simp] theorem State.setReceiver_entries (i : Link) (x : Receiver) : (s.setReceiver i x).entries = s.entries := rfl
@[simp] theorem State.setReceiver_detectors (i : Link) (x : Receiver) : (s.setReceiver i x).detectors = s.detectors := rfl
@[simp] theorem State.setReceiver_bookings (i : Link) (x : Receiver) : (s.setReceiver i x).bookings = s.bookings := rfl
@[simp] theorem State.setReceiver_winds (i : Link) (x : Receiver) : (s.setReceiver i x).winds = s.winds := rfl
@[simp] theorem State.setReceiver_permits (i : Link) (x : Receiver) : (s.setReceiver i x).permits = s.permits := rfl
@[simp] theorem State.setReceiver_slots (i : Link) (x : Receiver) : (s.setReceiver i x).slots = s.slots := rfl
@[simp] theorem State.setReceiver_receivers (i : Link) (x : Receiver) : (s.setReceiver i x).receivers = s.receivers.write i x := rfl
@[simp] theorem State.setReceiver_counters (i : Link) (x : Receiver) : (s.setReceiver i x).counters = s.counters := rfl
@[simp] theorem State.setReceiver_mode (i : Link) (x : Receiver) : (s.setReceiver i x).mode = s.mode := rfl
@[simp] theorem State.setReceiver_clock (i : Link) (x : Receiver) : (s.setReceiver i x).clock = s.clock := rfl
@[simp] theorem State.setReceiver_clockSet (i : Link) (x : Receiver) : (s.setReceiver i x).clockSet = s.clockSet := rfl
@[simp] theorem State.setReceiver_replies (i : Link) (x : Receiver) : (s.setReceiver i x).replies = s.replies := rfl
@[simp] theorem State.setReceiver_events (i : Link) (x : Receiver) : (s.setReceiver i x).events = s.events := rfl
@[simp] theorem State.setReceiver_overflow (i : Link) (x : Receiver) : (s.setReceiver i x).overflow = s.overflow := rfl
@[simp] theorem State.setReceiver_mask (i : Link) (x : Receiver) : (s.setReceiver i x).mask = s.mask := rfl
@[simp] theorem State.setReceiver_assembly (i : Link) (x : Receiver) : (s.setReceiver i x).assembly = s.assembly := rfl
@[simp] theorem State.setReceiver_transmitter (i : Link) (x : Receiver) : (s.setReceiver i x).transmitter = s.transmitter := rfl
@[simp] theorem State.setReceiver_generators (i : Link) (x : Receiver) : (s.setReceiver i x).generators = s.generators := rfl
@[simp] theorem State.setReceiver_cycles (i : Link) (x : Receiver) : (s.setReceiver i x).cycles = s.cycles := rfl
@[simp] theorem State.setReceiver_divisor (i : Link) (x : Receiver) : (s.setReceiver i x).divisor = s.divisor := rfl
@[simp] theorem State.setReceiver_ticks (i : Link) (x : Receiver) : (s.setReceiver i x).ticks = s.ticks := rfl
@[simp] theorem State.setReceiver_holdLow (i : Link) (x : Receiver) : (s.setReceiver i x).holdLow = s.holdLow := rfl
@[simp] theorem State.setReceiver_hold (i : Link) (x : Receiver) : (s.setReceiver i x).hold = s.hold := rfl
@[simp] theorem State.setReceiver_inReset (i : Link) (x : Receiver) : (s.setReceiver i x).inReset = s.inReset := rfl
@[simp] theorem State.setReceiver_shortPulses (i : Link) (x : Receiver) : (s.setReceiver i x).shortPulses = s.shortPulses := rfl
@[simp] theorem State.setReceiver_inFlight (i : Link) (x : Receiver) : (s.setReceiver i x).inFlight = s.inFlight := rfl
@[simp] theorem State.setReceiver_pending (i : Link) (x : Receiver) : (s.setReceiver i x).pending = s.pending := rfl
@[simp] theorem State.setReceiver_crane (i : Link) (x : Receiver) (j : Crane) : (s.setReceiver i x).crane j = s.crane j := rfl
@[simp] theorem State.setReceiver_zone (i : Link) (x : Receiver) (j : Crane) : (s.setReceiver i x).zone j = s.zone j := rfl
@[simp] theorem State.setReceiver_sector (i : Link) (x : Receiver) (j : Sector) : (s.setReceiver i x).sector j = s.sector j := rfl
@[simp] theorem State.setReceiver_profile (i : Link) (x : Receiver) (j : ProfileNo) : (s.setReceiver i x).profile j = s.profile j := rfl
@[simp] theorem State.setReceiver_position (i : Link) (x : Receiver) (j : Crane) : (s.setReceiver i x).position j = s.position j := rfl
@[simp] theorem State.setReceiver_entry (i : Link) (x : Receiver) (j : Sector) : (s.setReceiver i x).entry j = s.entry j := rfl
@[simp] theorem State.setReceiver_detector (i : Link) (x : Receiver) (j : Crane) : (s.setReceiver i x).detector j = s.detector j := rfl
@[simp] theorem State.setReceiver_windOf (i : Link) (x : Receiver) (j : Crane) : (s.setReceiver i x).windOf j = s.windOf j := rfl
@[simp] theorem State.setReceiver_permit (i : Link) (x : Receiver) (j : Crane) : (s.setReceiver i x).permit j = s.permit j := rfl
@[simp] theorem State.setReceiver_slot (i : Link) (x : Receiver) (j : Crane) : (s.setReceiver i x).slot j = s.slot j := rfl
@[simp] theorem State.setReceiver_receiver_self (i : Link) (x : Receiver) : (s.setReceiver i x).receiver i = x := Bank.read_write_self _ _ _
@[simp] theorem State.setReceiver_receiver_ne {i j : Link} (x : Receiver) (h : j ≠ i) : (s.setReceiver i x).receiver j = s.receiver j :=
  Bank.read_write_ne _ _ h
theorem State.setReceiver_receiver (i j : Link) (x : Receiver) : (s.setReceiver i x).receiver j = if j = i then x else s.receiver j :=
  Bank.read_write _ _ _ _
@[simp] theorem State.setReceiver_counter (i : Link) (x : Receiver) (j : Link) : (s.setReceiver i x).counter j = s.counter j := rfl
@[simp] theorem State.setReceiver_generator (i : Link) (x : Receiver) (j : BeaconLine) : (s.setReceiver i x).generator j = s.generator j := rfl

/-! ### `setCounter` -/

@[simp] theorem State.setCounter_cranes (i : Link) (x : LinkCounters) : (s.setCounter i x).cranes = s.cranes := rfl
@[simp] theorem State.setCounter_zones (i : Link) (x : LinkCounters) : (s.setCounter i x).zones = s.zones := rfl
@[simp] theorem State.setCounter_sectors (i : Link) (x : LinkCounters) : (s.setCounter i x).sectors = s.sectors := rfl
@[simp] theorem State.setCounter_profiles (i : Link) (x : LinkCounters) : (s.setCounter i x).profiles = s.profiles := rfl
@[simp] theorem State.setCounter_patterns (i : Link) (x : LinkCounters) : (s.setCounter i x).patterns = s.patterns := rfl
@[simp] theorem State.setCounter_site (i : Link) (x : LinkCounters) : (s.setCounter i x).site = s.site := rfl
@[simp] theorem State.setCounter_positions (i : Link) (x : LinkCounters) : (s.setCounter i x).positions = s.positions := rfl
@[simp] theorem State.setCounter_entries (i : Link) (x : LinkCounters) : (s.setCounter i x).entries = s.entries := rfl
@[simp] theorem State.setCounter_detectors (i : Link) (x : LinkCounters) : (s.setCounter i x).detectors = s.detectors := rfl
@[simp] theorem State.setCounter_bookings (i : Link) (x : LinkCounters) : (s.setCounter i x).bookings = s.bookings := rfl
@[simp] theorem State.setCounter_winds (i : Link) (x : LinkCounters) : (s.setCounter i x).winds = s.winds := rfl
@[simp] theorem State.setCounter_permits (i : Link) (x : LinkCounters) : (s.setCounter i x).permits = s.permits := rfl
@[simp] theorem State.setCounter_slots (i : Link) (x : LinkCounters) : (s.setCounter i x).slots = s.slots := rfl
@[simp] theorem State.setCounter_receivers (i : Link) (x : LinkCounters) : (s.setCounter i x).receivers = s.receivers := rfl
@[simp] theorem State.setCounter_counters (i : Link) (x : LinkCounters) : (s.setCounter i x).counters = s.counters.write i x := rfl
@[simp] theorem State.setCounter_mode (i : Link) (x : LinkCounters) : (s.setCounter i x).mode = s.mode := rfl
@[simp] theorem State.setCounter_clock (i : Link) (x : LinkCounters) : (s.setCounter i x).clock = s.clock := rfl
@[simp] theorem State.setCounter_clockSet (i : Link) (x : LinkCounters) : (s.setCounter i x).clockSet = s.clockSet := rfl
@[simp] theorem State.setCounter_replies (i : Link) (x : LinkCounters) : (s.setCounter i x).replies = s.replies := rfl
@[simp] theorem State.setCounter_events (i : Link) (x : LinkCounters) : (s.setCounter i x).events = s.events := rfl
@[simp] theorem State.setCounter_overflow (i : Link) (x : LinkCounters) : (s.setCounter i x).overflow = s.overflow := rfl
@[simp] theorem State.setCounter_mask (i : Link) (x : LinkCounters) : (s.setCounter i x).mask = s.mask := rfl
@[simp] theorem State.setCounter_assembly (i : Link) (x : LinkCounters) : (s.setCounter i x).assembly = s.assembly := rfl
@[simp] theorem State.setCounter_transmitter (i : Link) (x : LinkCounters) : (s.setCounter i x).transmitter = s.transmitter := rfl
@[simp] theorem State.setCounter_generators (i : Link) (x : LinkCounters) : (s.setCounter i x).generators = s.generators := rfl
@[simp] theorem State.setCounter_cycles (i : Link) (x : LinkCounters) : (s.setCounter i x).cycles = s.cycles := rfl
@[simp] theorem State.setCounter_divisor (i : Link) (x : LinkCounters) : (s.setCounter i x).divisor = s.divisor := rfl
@[simp] theorem State.setCounter_ticks (i : Link) (x : LinkCounters) : (s.setCounter i x).ticks = s.ticks := rfl
@[simp] theorem State.setCounter_holdLow (i : Link) (x : LinkCounters) : (s.setCounter i x).holdLow = s.holdLow := rfl
@[simp] theorem State.setCounter_hold (i : Link) (x : LinkCounters) : (s.setCounter i x).hold = s.hold := rfl
@[simp] theorem State.setCounter_inReset (i : Link) (x : LinkCounters) : (s.setCounter i x).inReset = s.inReset := rfl
@[simp] theorem State.setCounter_shortPulses (i : Link) (x : LinkCounters) : (s.setCounter i x).shortPulses = s.shortPulses := rfl
@[simp] theorem State.setCounter_inFlight (i : Link) (x : LinkCounters) : (s.setCounter i x).inFlight = s.inFlight := rfl
@[simp] theorem State.setCounter_pending (i : Link) (x : LinkCounters) : (s.setCounter i x).pending = s.pending := rfl
@[simp] theorem State.setCounter_crane (i : Link) (x : LinkCounters) (j : Crane) : (s.setCounter i x).crane j = s.crane j := rfl
@[simp] theorem State.setCounter_zone (i : Link) (x : LinkCounters) (j : Crane) : (s.setCounter i x).zone j = s.zone j := rfl
@[simp] theorem State.setCounter_sector (i : Link) (x : LinkCounters) (j : Sector) : (s.setCounter i x).sector j = s.sector j := rfl
@[simp] theorem State.setCounter_profile (i : Link) (x : LinkCounters) (j : ProfileNo) : (s.setCounter i x).profile j = s.profile j := rfl
@[simp] theorem State.setCounter_position (i : Link) (x : LinkCounters) (j : Crane) : (s.setCounter i x).position j = s.position j := rfl
@[simp] theorem State.setCounter_entry (i : Link) (x : LinkCounters) (j : Sector) : (s.setCounter i x).entry j = s.entry j := rfl
@[simp] theorem State.setCounter_detector (i : Link) (x : LinkCounters) (j : Crane) : (s.setCounter i x).detector j = s.detector j := rfl
@[simp] theorem State.setCounter_windOf (i : Link) (x : LinkCounters) (j : Crane) : (s.setCounter i x).windOf j = s.windOf j := rfl
@[simp] theorem State.setCounter_permit (i : Link) (x : LinkCounters) (j : Crane) : (s.setCounter i x).permit j = s.permit j := rfl
@[simp] theorem State.setCounter_slot (i : Link) (x : LinkCounters) (j : Crane) : (s.setCounter i x).slot j = s.slot j := rfl
@[simp] theorem State.setCounter_receiver (i : Link) (x : LinkCounters) (j : Link) : (s.setCounter i x).receiver j = s.receiver j := rfl
@[simp] theorem State.setCounter_counter_self (i : Link) (x : LinkCounters) : (s.setCounter i x).counter i = x := Bank.read_write_self _ _ _
@[simp] theorem State.setCounter_counter_ne {i j : Link} (x : LinkCounters) (h : j ≠ i) : (s.setCounter i x).counter j = s.counter j :=
  Bank.read_write_ne _ _ h
theorem State.setCounter_counter (i j : Link) (x : LinkCounters) : (s.setCounter i x).counter j = if j = i then x else s.counter j :=
  Bank.read_write _ _ _ _
@[simp] theorem State.setCounter_generator (i : Link) (x : LinkCounters) (j : BeaconLine) : (s.setCounter i x).generator j = s.generator j := rfl

/-! ### `setGenerator` -/

@[simp] theorem State.setGenerator_cranes (i : BeaconLine) (x : Generator) : (s.setGenerator i x).cranes = s.cranes := rfl
@[simp] theorem State.setGenerator_zones (i : BeaconLine) (x : Generator) : (s.setGenerator i x).zones = s.zones := rfl
@[simp] theorem State.setGenerator_sectors (i : BeaconLine) (x : Generator) : (s.setGenerator i x).sectors = s.sectors := rfl
@[simp] theorem State.setGenerator_profiles (i : BeaconLine) (x : Generator) : (s.setGenerator i x).profiles = s.profiles := rfl
@[simp] theorem State.setGenerator_patterns (i : BeaconLine) (x : Generator) : (s.setGenerator i x).patterns = s.patterns := rfl
@[simp] theorem State.setGenerator_site (i : BeaconLine) (x : Generator) : (s.setGenerator i x).site = s.site := rfl
@[simp] theorem State.setGenerator_positions (i : BeaconLine) (x : Generator) : (s.setGenerator i x).positions = s.positions := rfl
@[simp] theorem State.setGenerator_entries (i : BeaconLine) (x : Generator) : (s.setGenerator i x).entries = s.entries := rfl
@[simp] theorem State.setGenerator_detectors (i : BeaconLine) (x : Generator) : (s.setGenerator i x).detectors = s.detectors := rfl
@[simp] theorem State.setGenerator_bookings (i : BeaconLine) (x : Generator) : (s.setGenerator i x).bookings = s.bookings := rfl
@[simp] theorem State.setGenerator_winds (i : BeaconLine) (x : Generator) : (s.setGenerator i x).winds = s.winds := rfl
@[simp] theorem State.setGenerator_permits (i : BeaconLine) (x : Generator) : (s.setGenerator i x).permits = s.permits := rfl
@[simp] theorem State.setGenerator_slots (i : BeaconLine) (x : Generator) : (s.setGenerator i x).slots = s.slots := rfl
@[simp] theorem State.setGenerator_receivers (i : BeaconLine) (x : Generator) : (s.setGenerator i x).receivers = s.receivers := rfl
@[simp] theorem State.setGenerator_counters (i : BeaconLine) (x : Generator) : (s.setGenerator i x).counters = s.counters := rfl
@[simp] theorem State.setGenerator_mode (i : BeaconLine) (x : Generator) : (s.setGenerator i x).mode = s.mode := rfl
@[simp] theorem State.setGenerator_clock (i : BeaconLine) (x : Generator) : (s.setGenerator i x).clock = s.clock := rfl
@[simp] theorem State.setGenerator_clockSet (i : BeaconLine) (x : Generator) : (s.setGenerator i x).clockSet = s.clockSet := rfl
@[simp] theorem State.setGenerator_replies (i : BeaconLine) (x : Generator) : (s.setGenerator i x).replies = s.replies := rfl
@[simp] theorem State.setGenerator_events (i : BeaconLine) (x : Generator) : (s.setGenerator i x).events = s.events := rfl
@[simp] theorem State.setGenerator_overflow (i : BeaconLine) (x : Generator) : (s.setGenerator i x).overflow = s.overflow := rfl
@[simp] theorem State.setGenerator_mask (i : BeaconLine) (x : Generator) : (s.setGenerator i x).mask = s.mask := rfl
@[simp] theorem State.setGenerator_assembly (i : BeaconLine) (x : Generator) : (s.setGenerator i x).assembly = s.assembly := rfl
@[simp] theorem State.setGenerator_transmitter (i : BeaconLine) (x : Generator) : (s.setGenerator i x).transmitter = s.transmitter := rfl
@[simp] theorem State.setGenerator_generators (i : BeaconLine) (x : Generator) : (s.setGenerator i x).generators = s.generators.write i x := rfl
@[simp] theorem State.setGenerator_cycles (i : BeaconLine) (x : Generator) : (s.setGenerator i x).cycles = s.cycles := rfl
@[simp] theorem State.setGenerator_divisor (i : BeaconLine) (x : Generator) : (s.setGenerator i x).divisor = s.divisor := rfl
@[simp] theorem State.setGenerator_ticks (i : BeaconLine) (x : Generator) : (s.setGenerator i x).ticks = s.ticks := rfl
@[simp] theorem State.setGenerator_holdLow (i : BeaconLine) (x : Generator) : (s.setGenerator i x).holdLow = s.holdLow := rfl
@[simp] theorem State.setGenerator_hold (i : BeaconLine) (x : Generator) : (s.setGenerator i x).hold = s.hold := rfl
@[simp] theorem State.setGenerator_inReset (i : BeaconLine) (x : Generator) : (s.setGenerator i x).inReset = s.inReset := rfl
@[simp] theorem State.setGenerator_shortPulses (i : BeaconLine) (x : Generator) : (s.setGenerator i x).shortPulses = s.shortPulses := rfl
@[simp] theorem State.setGenerator_inFlight (i : BeaconLine) (x : Generator) : (s.setGenerator i x).inFlight = s.inFlight := rfl
@[simp] theorem State.setGenerator_pending (i : BeaconLine) (x : Generator) : (s.setGenerator i x).pending = s.pending := rfl
@[simp] theorem State.setGenerator_crane (i : BeaconLine) (x : Generator) (j : Crane) : (s.setGenerator i x).crane j = s.crane j := rfl
@[simp] theorem State.setGenerator_zone (i : BeaconLine) (x : Generator) (j : Crane) : (s.setGenerator i x).zone j = s.zone j := rfl
@[simp] theorem State.setGenerator_sector (i : BeaconLine) (x : Generator) (j : Sector) : (s.setGenerator i x).sector j = s.sector j := rfl
@[simp] theorem State.setGenerator_profile (i : BeaconLine) (x : Generator) (j : ProfileNo) : (s.setGenerator i x).profile j = s.profile j := rfl
@[simp] theorem State.setGenerator_position (i : BeaconLine) (x : Generator) (j : Crane) : (s.setGenerator i x).position j = s.position j := rfl
@[simp] theorem State.setGenerator_entry (i : BeaconLine) (x : Generator) (j : Sector) : (s.setGenerator i x).entry j = s.entry j := rfl
@[simp] theorem State.setGenerator_detector (i : BeaconLine) (x : Generator) (j : Crane) : (s.setGenerator i x).detector j = s.detector j := rfl
@[simp] theorem State.setGenerator_windOf (i : BeaconLine) (x : Generator) (j : Crane) : (s.setGenerator i x).windOf j = s.windOf j := rfl
@[simp] theorem State.setGenerator_permit (i : BeaconLine) (x : Generator) (j : Crane) : (s.setGenerator i x).permit j = s.permit j := rfl
@[simp] theorem State.setGenerator_slot (i : BeaconLine) (x : Generator) (j : Crane) : (s.setGenerator i x).slot j = s.slot j := rfl
@[simp] theorem State.setGenerator_receiver (i : BeaconLine) (x : Generator) (j : Link) : (s.setGenerator i x).receiver j = s.receiver j := rfl
@[simp] theorem State.setGenerator_counter (i : BeaconLine) (x : Generator) (j : Link) : (s.setGenerator i x).counter j = s.counter j := rfl
@[simp] theorem State.setGenerator_generator_self (i : BeaconLine) (x : Generator) : (s.setGenerator i x).generator i = x := Bank.read_write_self _ _ _
@[simp] theorem State.setGenerator_generator_ne {i j : BeaconLine} (x : Generator) (h : j ≠ i) : (s.setGenerator i x).generator j = s.generator j :=
  Bank.read_write_ne _ _ h
theorem State.setGenerator_generator (i j : BeaconLine) (x : Generator) : (s.setGenerator i x).generator j = if j = i then x else s.generator j :=
  Bank.read_write _ _ _ _

/-! ### `send` -/

@[simp] theorem State.send_cranes (ns : List Notice) : (s.send ns).cranes = s.cranes := rfl
@[simp] theorem State.send_zones (ns : List Notice) : (s.send ns).zones = s.zones := rfl
@[simp] theorem State.send_sectors (ns : List Notice) : (s.send ns).sectors = s.sectors := rfl
@[simp] theorem State.send_profiles (ns : List Notice) : (s.send ns).profiles = s.profiles := rfl
@[simp] theorem State.send_patterns (ns : List Notice) : (s.send ns).patterns = s.patterns := rfl
@[simp] theorem State.send_site (ns : List Notice) : (s.send ns).site = s.site := rfl
@[simp] theorem State.send_positions (ns : List Notice) : (s.send ns).positions = s.positions := rfl
@[simp] theorem State.send_entries (ns : List Notice) : (s.send ns).entries = s.entries := rfl
@[simp] theorem State.send_detectors (ns : List Notice) : (s.send ns).detectors = s.detectors := rfl
@[simp] theorem State.send_bookings (ns : List Notice) : (s.send ns).bookings = s.bookings := rfl
@[simp] theorem State.send_winds (ns : List Notice) : (s.send ns).winds = s.winds := rfl
@[simp] theorem State.send_permits (ns : List Notice) : (s.send ns).permits = s.permits := rfl
@[simp] theorem State.send_slots (ns : List Notice) : (s.send ns).slots = s.slots := rfl
@[simp] theorem State.send_receivers (ns : List Notice) : (s.send ns).receivers = s.receivers := rfl
@[simp] theorem State.send_counters (ns : List Notice) : (s.send ns).counters = s.counters := rfl
@[simp] theorem State.send_mode (ns : List Notice) : (s.send ns).mode = s.mode := rfl
@[simp] theorem State.send_clock (ns : List Notice) : (s.send ns).clock = s.clock := rfl
@[simp] theorem State.send_clockSet (ns : List Notice) : (s.send ns).clockSet = s.clockSet := rfl
@[simp] theorem State.send_replies (ns : List Notice) : (s.send ns).replies = s.replies := rfl
@[simp] theorem State.send_events (ns : List Notice) : (s.send ns).events = s.events := rfl
@[simp] theorem State.send_overflow (ns : List Notice) : (s.send ns).overflow = s.overflow := rfl
@[simp] theorem State.send_mask (ns : List Notice) : (s.send ns).mask = s.mask := rfl
@[simp] theorem State.send_assembly (ns : List Notice) : (s.send ns).assembly = s.assembly := rfl
@[simp] theorem State.send_transmitter (ns : List Notice) : (s.send ns).transmitter = s.transmitter := rfl
@[simp] theorem State.send_generators (ns : List Notice) : (s.send ns).generators = s.generators := rfl
@[simp] theorem State.send_cycles (ns : List Notice) : (s.send ns).cycles = s.cycles := rfl
@[simp] theorem State.send_divisor (ns : List Notice) : (s.send ns).divisor = s.divisor := rfl
@[simp] theorem State.send_ticks (ns : List Notice) : (s.send ns).ticks = s.ticks := rfl
@[simp] theorem State.send_holdLow (ns : List Notice) : (s.send ns).holdLow = s.holdLow := rfl
@[simp] theorem State.send_hold (ns : List Notice) : (s.send ns).hold = s.hold := rfl
@[simp] theorem State.send_inReset (ns : List Notice) : (s.send ns).inReset = s.inReset := rfl
@[simp] theorem State.send_shortPulses (ns : List Notice) : (s.send ns).shortPulses = s.shortPulses := rfl
@[simp] theorem State.send_pending (ns : List Notice) : (s.send ns).pending = s.pending := rfl
@[simp] theorem State.send_crane (ns : List Notice) (j : Crane) : (s.send ns).crane j = s.crane j := by
  simp [State.crane]
@[simp] theorem State.send_zone (ns : List Notice) (j : Crane) : (s.send ns).zone j = s.zone j := by
  simp [State.zone]
@[simp] theorem State.send_sector (ns : List Notice) (j : Sector) : (s.send ns).sector j = s.sector j := by
  simp [State.sector]
@[simp] theorem State.send_profile (ns : List Notice) (j : ProfileNo) : (s.send ns).profile j = s.profile j := by
  simp [State.profile]
@[simp] theorem State.send_position (ns : List Notice) (j : Crane) : (s.send ns).position j = s.position j := by
  simp [State.position]
@[simp] theorem State.send_entry (ns : List Notice) (j : Sector) : (s.send ns).entry j = s.entry j := by
  simp [State.entry]
@[simp] theorem State.send_detector (ns : List Notice) (j : Crane) : (s.send ns).detector j = s.detector j := by
  simp [State.detector]
@[simp] theorem State.send_windOf (ns : List Notice) (j : Crane) : (s.send ns).windOf j = s.windOf j := by
  simp [State.windOf]
@[simp] theorem State.send_permit (ns : List Notice) (j : Crane) : (s.send ns).permit j = s.permit j := by
  simp [State.permit]
@[simp] theorem State.send_slot (ns : List Notice) (j : Crane) : (s.send ns).slot j = s.slot j := by
  simp [State.slot]
@[simp] theorem State.send_receiver (ns : List Notice) (j : Link) : (s.send ns).receiver j = s.receiver j := by
  simp [State.receiver]
@[simp] theorem State.send_counter (ns : List Notice) (j : Link) : (s.send ns).counter j = s.counter j := by
  simp [State.counter]
@[simp] theorem State.send_generator (ns : List Notice) (j : BeaconLine) : (s.send ns).generator j = s.generator j := by
  simp [State.generator]

@[simp] theorem State.send_inFlight (ns : List Notice) : (s.send ns).inFlight = s.inFlight ++ ns := rfl
@[simp] theorem State.send_nil : s.send [] = s := by simp [State.send]

/-! ### `post` (R167) -/

@[simp] theorem State.post_cranes (b : EventBody) : (s.post b).cranes = s.cranes := by
  unfold State.post; split
  · split <;> rfl
  · rfl
@[simp] theorem State.post_zones (b : EventBody) : (s.post b).zones = s.zones := by
  unfold State.post; split
  · split <;> rfl
  · rfl
@[simp] theorem State.post_sectors (b : EventBody) : (s.post b).sectors = s.sectors := by
  unfold State.post; split
  · split <;> rfl
  · rfl
@[simp] theorem State.post_profiles (b : EventBody) : (s.post b).profiles = s.profiles := by
  unfold State.post; split
  · split <;> rfl
  · rfl
@[simp] theorem State.post_patterns (b : EventBody) : (s.post b).patterns = s.patterns := by
  unfold State.post; split
  · split <;> rfl
  · rfl
@[simp] theorem State.post_site (b : EventBody) : (s.post b).site = s.site := by
  unfold State.post; split
  · split <;> rfl
  · rfl
@[simp] theorem State.post_positions (b : EventBody) : (s.post b).positions = s.positions := by
  unfold State.post; split
  · split <;> rfl
  · rfl
@[simp] theorem State.post_entries (b : EventBody) : (s.post b).entries = s.entries := by
  unfold State.post; split
  · split <;> rfl
  · rfl
@[simp] theorem State.post_detectors (b : EventBody) : (s.post b).detectors = s.detectors := by
  unfold State.post; split
  · split <;> rfl
  · rfl
@[simp] theorem State.post_bookings (b : EventBody) : (s.post b).bookings = s.bookings := by
  unfold State.post; split
  · split <;> rfl
  · rfl
@[simp] theorem State.post_winds (b : EventBody) : (s.post b).winds = s.winds := by
  unfold State.post; split
  · split <;> rfl
  · rfl
@[simp] theorem State.post_permits (b : EventBody) : (s.post b).permits = s.permits := by
  unfold State.post; split
  · split <;> rfl
  · rfl
@[simp] theorem State.post_slots (b : EventBody) : (s.post b).slots = s.slots := by
  unfold State.post; split
  · split <;> rfl
  · rfl
@[simp] theorem State.post_receivers (b : EventBody) : (s.post b).receivers = s.receivers := by
  unfold State.post; split
  · split <;> rfl
  · rfl
@[simp] theorem State.post_counters (b : EventBody) : (s.post b).counters = s.counters := by
  unfold State.post; split
  · split <;> rfl
  · rfl
@[simp] theorem State.post_mode (b : EventBody) : (s.post b).mode = s.mode := by
  unfold State.post; split
  · split <;> rfl
  · rfl
@[simp] theorem State.post_clock (b : EventBody) : (s.post b).clock = s.clock := by
  unfold State.post; split
  · split <;> rfl
  · rfl
@[simp] theorem State.post_clockSet (b : EventBody) : (s.post b).clockSet = s.clockSet := by
  unfold State.post; split
  · split <;> rfl
  · rfl
@[simp] theorem State.post_replies (b : EventBody) : (s.post b).replies = s.replies := by
  unfold State.post; split
  · split <;> rfl
  · rfl
@[simp] theorem State.post_mask (b : EventBody) : (s.post b).mask = s.mask := by
  unfold State.post; split
  · split <;> rfl
  · rfl
@[simp] theorem State.post_assembly (b : EventBody) : (s.post b).assembly = s.assembly := by
  unfold State.post; split
  · split <;> rfl
  · rfl
@[simp] theorem State.post_transmitter (b : EventBody) : (s.post b).transmitter = s.transmitter := by
  unfold State.post; split
  · split <;> rfl
  · rfl
@[simp] theorem State.post_generators (b : EventBody) : (s.post b).generators = s.generators := by
  unfold State.post; split
  · split <;> rfl
  · rfl
@[simp] theorem State.post_cycles (b : EventBody) : (s.post b).cycles = s.cycles := by
  unfold State.post; split
  · split <;> rfl
  · rfl
@[simp] theorem State.post_divisor (b : EventBody) : (s.post b).divisor = s.divisor := by
  unfold State.post; split
  · split <;> rfl
  · rfl
@[simp] theorem State.post_ticks (b : EventBody) : (s.post b).ticks = s.ticks := by
  unfold State.post; split
  · split <;> rfl
  · rfl
@[simp] theorem State.post_holdLow (b : EventBody) : (s.post b).holdLow = s.holdLow := by
  unfold State.post; split
  · split <;> rfl
  · rfl
@[simp] theorem State.post_hold (b : EventBody) : (s.post b).hold = s.hold := by
  unfold State.post; split
  · split <;> rfl
  · rfl
@[simp] theorem State.post_inReset (b : EventBody) : (s.post b).inReset = s.inReset := by
  unfold State.post; split
  · split <;> rfl
  · rfl
@[simp] theorem State.post_shortPulses (b : EventBody) : (s.post b).shortPulses = s.shortPulses := by
  unfold State.post; split
  · split <;> rfl
  · rfl
@[simp] theorem State.post_inFlight (b : EventBody) : (s.post b).inFlight = s.inFlight := by
  unfold State.post; split
  · split <;> rfl
  · rfl
@[simp] theorem State.post_pending (b : EventBody) : (s.post b).pending = s.pending := by
  unfold State.post; split
  · split <;> rfl
  · rfl
@[simp] theorem State.post_crane (b : EventBody) (j : Crane) : (s.post b).crane j = s.crane j := by
  simp [State.crane]
@[simp] theorem State.post_zone (b : EventBody) (j : Crane) : (s.post b).zone j = s.zone j := by
  simp [State.zone]
@[simp] theorem State.post_sector (b : EventBody) (j : Sector) : (s.post b).sector j = s.sector j := by
  simp [State.sector]
@[simp] theorem State.post_profile (b : EventBody) (j : ProfileNo) : (s.post b).profile j = s.profile j := by
  simp [State.profile]
@[simp] theorem State.post_position (b : EventBody) (j : Crane) : (s.post b).position j = s.position j := by
  simp [State.position]
@[simp] theorem State.post_entry (b : EventBody) (j : Sector) : (s.post b).entry j = s.entry j := by
  simp [State.entry]
@[simp] theorem State.post_detector (b : EventBody) (j : Crane) : (s.post b).detector j = s.detector j := by
  simp [State.detector]
@[simp] theorem State.post_windOf (b : EventBody) (j : Crane) : (s.post b).windOf j = s.windOf j := by
  simp [State.windOf]
@[simp] theorem State.post_permit (b : EventBody) (j : Crane) : (s.post b).permit j = s.permit j := by
  simp [State.permit]
@[simp] theorem State.post_slot (b : EventBody) (j : Crane) : (s.post b).slot j = s.slot j := by
  simp [State.slot]
@[simp] theorem State.post_receiver (b : EventBody) (j : Link) : (s.post b).receiver j = s.receiver j := by
  simp [State.receiver]
@[simp] theorem State.post_counter (b : EventBody) (j : Link) : (s.post b).counter j = s.counter j := by
  simp [State.counter]
@[simp] theorem State.post_generator (b : EventBody) (j : BeaconLine) : (s.post b).generator j = s.generator j := by
  simp [State.generator]

/-- R167: what one posting does to the event queue: it appends the record, or it drops it, or it ignores it. -/
theorem State.post_events (b : EventBody) :
    (s.post b).events =
      if s.reports b.kind ∧ s.events.length < Config.eventCapacity then
        s.events ++ [{ body := b, time := s.clock, clockUnset := !s.clockSet }]
      else s.events := by
  unfold State.post
  by_cases h : s.reports b.kind <;> simp [h] <;> split <;> rfl

/-- R167: the overflow flag is set exactly when a reported event meets a full queue. -/
theorem State.post_overflow (b : EventBody) :
    (s.post b).overflow =
      if s.reports b.kind ∧ ¬ s.events.length < Config.eventCapacity then true else s.overflow := by
  unfold State.post
  by_cases h : s.reports b.kind <;> simp [h] <;> split <;> rename_i h2 <;> simp_all <;> omega

@[simp] theorem State.postAll_nil : s.postAll [] = s := rfl
@[simp] theorem State.postAll_cons (b : EventBody) (bs : List EventBody) :
    s.postAll (b :: bs) = (s.post b).postAll bs := rfl

/-! ### `postAll` -/

@[simp] theorem State.postAll_cranes (bs : List EventBody) : (s.postAll bs).cranes = s.cranes := by
  induction bs generalizing s with
  | nil => rfl
  | cons b bs ih => rw [State.postAll_cons, ih, State.post_cranes]
@[simp] theorem State.postAll_zones (bs : List EventBody) : (s.postAll bs).zones = s.zones := by
  induction bs generalizing s with
  | nil => rfl
  | cons b bs ih => rw [State.postAll_cons, ih, State.post_zones]
@[simp] theorem State.postAll_sectors (bs : List EventBody) : (s.postAll bs).sectors = s.sectors := by
  induction bs generalizing s with
  | nil => rfl
  | cons b bs ih => rw [State.postAll_cons, ih, State.post_sectors]
@[simp] theorem State.postAll_profiles (bs : List EventBody) : (s.postAll bs).profiles = s.profiles := by
  induction bs generalizing s with
  | nil => rfl
  | cons b bs ih => rw [State.postAll_cons, ih, State.post_profiles]
@[simp] theorem State.postAll_patterns (bs : List EventBody) : (s.postAll bs).patterns = s.patterns := by
  induction bs generalizing s with
  | nil => rfl
  | cons b bs ih => rw [State.postAll_cons, ih, State.post_patterns]
@[simp] theorem State.postAll_site (bs : List EventBody) : (s.postAll bs).site = s.site := by
  induction bs generalizing s with
  | nil => rfl
  | cons b bs ih => rw [State.postAll_cons, ih, State.post_site]
@[simp] theorem State.postAll_positions (bs : List EventBody) : (s.postAll bs).positions = s.positions := by
  induction bs generalizing s with
  | nil => rfl
  | cons b bs ih => rw [State.postAll_cons, ih, State.post_positions]
@[simp] theorem State.postAll_entries (bs : List EventBody) : (s.postAll bs).entries = s.entries := by
  induction bs generalizing s with
  | nil => rfl
  | cons b bs ih => rw [State.postAll_cons, ih, State.post_entries]
@[simp] theorem State.postAll_detectors (bs : List EventBody) : (s.postAll bs).detectors = s.detectors := by
  induction bs generalizing s with
  | nil => rfl
  | cons b bs ih => rw [State.postAll_cons, ih, State.post_detectors]
@[simp] theorem State.postAll_bookings (bs : List EventBody) : (s.postAll bs).bookings = s.bookings := by
  induction bs generalizing s with
  | nil => rfl
  | cons b bs ih => rw [State.postAll_cons, ih, State.post_bookings]
@[simp] theorem State.postAll_winds (bs : List EventBody) : (s.postAll bs).winds = s.winds := by
  induction bs generalizing s with
  | nil => rfl
  | cons b bs ih => rw [State.postAll_cons, ih, State.post_winds]
@[simp] theorem State.postAll_permits (bs : List EventBody) : (s.postAll bs).permits = s.permits := by
  induction bs generalizing s with
  | nil => rfl
  | cons b bs ih => rw [State.postAll_cons, ih, State.post_permits]
@[simp] theorem State.postAll_slots (bs : List EventBody) : (s.postAll bs).slots = s.slots := by
  induction bs generalizing s with
  | nil => rfl
  | cons b bs ih => rw [State.postAll_cons, ih, State.post_slots]
@[simp] theorem State.postAll_receivers (bs : List EventBody) : (s.postAll bs).receivers = s.receivers := by
  induction bs generalizing s with
  | nil => rfl
  | cons b bs ih => rw [State.postAll_cons, ih, State.post_receivers]
@[simp] theorem State.postAll_counters (bs : List EventBody) : (s.postAll bs).counters = s.counters := by
  induction bs generalizing s with
  | nil => rfl
  | cons b bs ih => rw [State.postAll_cons, ih, State.post_counters]
@[simp] theorem State.postAll_mode (bs : List EventBody) : (s.postAll bs).mode = s.mode := by
  induction bs generalizing s with
  | nil => rfl
  | cons b bs ih => rw [State.postAll_cons, ih, State.post_mode]
@[simp] theorem State.postAll_clock (bs : List EventBody) : (s.postAll bs).clock = s.clock := by
  induction bs generalizing s with
  | nil => rfl
  | cons b bs ih => rw [State.postAll_cons, ih, State.post_clock]
@[simp] theorem State.postAll_clockSet (bs : List EventBody) : (s.postAll bs).clockSet = s.clockSet := by
  induction bs generalizing s with
  | nil => rfl
  | cons b bs ih => rw [State.postAll_cons, ih, State.post_clockSet]
@[simp] theorem State.postAll_replies (bs : List EventBody) : (s.postAll bs).replies = s.replies := by
  induction bs generalizing s with
  | nil => rfl
  | cons b bs ih => rw [State.postAll_cons, ih, State.post_replies]
@[simp] theorem State.postAll_mask (bs : List EventBody) : (s.postAll bs).mask = s.mask := by
  induction bs generalizing s with
  | nil => rfl
  | cons b bs ih => rw [State.postAll_cons, ih, State.post_mask]
@[simp] theorem State.postAll_assembly (bs : List EventBody) : (s.postAll bs).assembly = s.assembly := by
  induction bs generalizing s with
  | nil => rfl
  | cons b bs ih => rw [State.postAll_cons, ih, State.post_assembly]
@[simp] theorem State.postAll_transmitter (bs : List EventBody) : (s.postAll bs).transmitter = s.transmitter := by
  induction bs generalizing s with
  | nil => rfl
  | cons b bs ih => rw [State.postAll_cons, ih, State.post_transmitter]
@[simp] theorem State.postAll_generators (bs : List EventBody) : (s.postAll bs).generators = s.generators := by
  induction bs generalizing s with
  | nil => rfl
  | cons b bs ih => rw [State.postAll_cons, ih, State.post_generators]
@[simp] theorem State.postAll_cycles (bs : List EventBody) : (s.postAll bs).cycles = s.cycles := by
  induction bs generalizing s with
  | nil => rfl
  | cons b bs ih => rw [State.postAll_cons, ih, State.post_cycles]
@[simp] theorem State.postAll_divisor (bs : List EventBody) : (s.postAll bs).divisor = s.divisor := by
  induction bs generalizing s with
  | nil => rfl
  | cons b bs ih => rw [State.postAll_cons, ih, State.post_divisor]
@[simp] theorem State.postAll_ticks (bs : List EventBody) : (s.postAll bs).ticks = s.ticks := by
  induction bs generalizing s with
  | nil => rfl
  | cons b bs ih => rw [State.postAll_cons, ih, State.post_ticks]
@[simp] theorem State.postAll_holdLow (bs : List EventBody) : (s.postAll bs).holdLow = s.holdLow := by
  induction bs generalizing s with
  | nil => rfl
  | cons b bs ih => rw [State.postAll_cons, ih, State.post_holdLow]
@[simp] theorem State.postAll_hold (bs : List EventBody) : (s.postAll bs).hold = s.hold := by
  induction bs generalizing s with
  | nil => rfl
  | cons b bs ih => rw [State.postAll_cons, ih, State.post_hold]
@[simp] theorem State.postAll_inReset (bs : List EventBody) : (s.postAll bs).inReset = s.inReset := by
  induction bs generalizing s with
  | nil => rfl
  | cons b bs ih => rw [State.postAll_cons, ih, State.post_inReset]
@[simp] theorem State.postAll_shortPulses (bs : List EventBody) : (s.postAll bs).shortPulses = s.shortPulses := by
  induction bs generalizing s with
  | nil => rfl
  | cons b bs ih => rw [State.postAll_cons, ih, State.post_shortPulses]
@[simp] theorem State.postAll_inFlight (bs : List EventBody) : (s.postAll bs).inFlight = s.inFlight := by
  induction bs generalizing s with
  | nil => rfl
  | cons b bs ih => rw [State.postAll_cons, ih, State.post_inFlight]
@[simp] theorem State.postAll_pending (bs : List EventBody) : (s.postAll bs).pending = s.pending := by
  induction bs generalizing s with
  | nil => rfl
  | cons b bs ih => rw [State.postAll_cons, ih, State.post_pending]
@[simp] theorem State.postAll_crane (bs : List EventBody) (j : Crane) : (s.postAll bs).crane j = s.crane j := by
  simp [State.crane]
@[simp] theorem State.postAll_zone (bs : List EventBody) (j : Crane) : (s.postAll bs).zone j = s.zone j := by
  simp [State.zone]
@[simp] theorem State.postAll_sector (bs : List EventBody) (j : Sector) : (s.postAll bs).sector j = s.sector j := by
  simp [State.sector]
@[simp] theorem State.postAll_profile (bs : List EventBody) (j : ProfileNo) : (s.postAll bs).profile j = s.profile j := by
  simp [State.profile]
@[simp] theorem State.postAll_position (bs : List EventBody) (j : Crane) : (s.postAll bs).position j = s.position j := by
  simp [State.position]
@[simp] theorem State.postAll_entry (bs : List EventBody) (j : Sector) : (s.postAll bs).entry j = s.entry j := by
  simp [State.entry]
@[simp] theorem State.postAll_detector (bs : List EventBody) (j : Crane) : (s.postAll bs).detector j = s.detector j := by
  simp [State.detector]
@[simp] theorem State.postAll_windOf (bs : List EventBody) (j : Crane) : (s.postAll bs).windOf j = s.windOf j := by
  simp [State.windOf]
@[simp] theorem State.postAll_permit (bs : List EventBody) (j : Crane) : (s.postAll bs).permit j = s.permit j := by
  simp [State.permit]
@[simp] theorem State.postAll_slot (bs : List EventBody) (j : Crane) : (s.postAll bs).slot j = s.slot j := by
  simp [State.slot]
@[simp] theorem State.postAll_receiver (bs : List EventBody) (j : Link) : (s.postAll bs).receiver j = s.receiver j := by
  simp [State.receiver]
@[simp] theorem State.postAll_counter (bs : List EventBody) (j : Link) : (s.postAll bs).counter j = s.counter j := by
  simp [State.counter]
@[simp] theorem State.postAll_generator (bs : List EventBody) (j : BeaconLine) : (s.postAll bs).generator j = s.generator j := by
  simp [State.generator]

/-- Postings touch the event queue and the overflow flag alone. -/
theorem State.postAll_frame (bs : List EventBody) :
    s.postAll bs = { s with events := (s.postAll bs).events, overflow := (s.postAll bs).overflow } := by
  apply State.ext <;> simp

/-- One posting touches the event queue and the overflow flag alone. -/
theorem State.post_frame (b : EventBody) :
    s.post b = { s with events := (s.post b).events, overflow := (s.post b).overflow } := by
  apply State.ext <;> simp

/-- R167: a posting never takes the event queue past its 32 records. -/
theorem State.post_events_le (b : EventBody) (h : s.events.length ≤ Config.eventCapacity) :
    (s.post b).events.length ≤ Config.eventCapacity := by
  rw [State.post_events]
  split
  · next h2 => simp; omega
  · exact h

theorem State.postAll_events_le (bs : List EventBody) (h : s.events.length ≤ Config.eventCapacity) :
    (s.postAll bs).events.length ≤ Config.eventCapacity := by
  induction bs generalizing s with
  | nil => exact h
  | cons b bs ih => exact ih _ (s.post_events_le b h)

end Machine

end Sys2Proof
end

