-- ==== Sys2Proof/Laws/Frames.lean ====
section
/-! SUPPORT. What each block can touch. For a group of fields, `State.but…` is the state with that group blanked; a
function that leaves it alone changes nothing outside the group, which the frame lemmas then say outright. -/

namespace Sys2Proof.Machine

/-- What a fold keeps, when every step of it does. -/
theorem foldl_keeps {α β γ : Type} (p : β → γ) (f : β → α → β) (h : ∀ t x, p (f t x) = p t) (xs : List α) (s : β) :
    p (xs.foldl f s) = p s := by
  induction xs generalizing s with
  | nil => rfl
  | cons x xs ih => rw [List.foldl_cons, ih, h]


/-! ### The sector arbiter (R54 to R78) -/

/-- The state with entries, events, overflow, inFlight blanked. -/
def State.butEntries (s : State) : State :=
  { s with entries := Bank.fill 16 .reset, events := [], overflow := false, inFlight := [] }

/-- Nothing outside entries, events, overflow, inFlight differs. -/
theorem frame_of_butEntries {s t : State} (h : t.butEntries = s.butEntries) :
    t = { s with entries := t.entries, events := t.events, overflow := t.overflow, inFlight := t.inFlight } := by
  cases s; cases t
  simp only [State.butEntries, State.mk.injEq] at h ⊢
  simp_all

@[simp] theorem State.butEntries_idem (s : State) : s.butEntries.butEntries = s.butEntries := rfl
@[simp] theorem State.butEntries_send (s : State) (ns : List Notice) : (s.send ns).butEntries = s.butEntries := rfl
@[simp] theorem State.butEntries_post (s : State) (b : EventBody) : (s.post b).butEntries = s.butEntries := by
  apply State.ext <;> simp [State.butEntries]
@[simp] theorem State.butEntries_postAll (s : State) (bs : List EventBody) : (s.postAll bs).butEntries = s.butEntries := by
  apply State.ext <;> simp [State.butEntries]
@[simp] theorem State.butEntries_setEntry (s : State) (i : Sector) (x : SectorEntry) : (s.setEntry i x).butEntries = s.butEntries := rfl

@[simp] theorem entryEvent_butEntries (k : Sector) (f : SectorContext → SectorEntry → EntryStep) (s : State) : (entryEvent k f s).butEntries = s.butEntries := by
  unfold entryEvent; (repeat' split) <;> simp
@[simp] theorem reportPresence_butEntries (k : Sector) (c : Crane) (ch : PresenceChange) (s : State) : (reportPresence k c ch s).butEntries = s.butEntries := by
  simp [reportPresence]
@[simp] theorem knockSector_butEntries (k : Sector) (c : Crane) (s : State) : (knockSector k c s).butEntries = s.butEntries := by
  simp [knockSector]
@[simp] theorem changeClaimant_butEntries (k : Sector) (left : List (Half × BookingState)) (cl : Option Claimant) (s : State) : (changeClaimant k left cl s).butEntries = s.butEntries := by
  simp [changeClaimant]
@[simp] theorem lockSector_butEntries (k : Sector) (c : Crane) (s : State) : (lockSector k c s).butEntries = s.butEntries := by
  simp [lockSector]
@[simp] theorem unlockSector_butEntries (k : Sector) (c : Crane) (s : State) : (unlockSector k c s).butEntries = s.butEntries := by
  simp [unlockSector]
@[simp] theorem closeSector_butEntries (k : Sector) (s : State) : (closeSector k s).butEntries = s.butEntries := by
  simp [closeSector]
@[simp] theorem openSector_butEntries (k : Sector) (s : State) : (openSector k s).butEntries = s.butEntries := by
  simp [openSector]
@[simp] theorem expireKeep_butEntries (k : Sector) (c : Crane) (s : State) : (expireKeep k c s).butEntries = s.butEntries := by
  simp [expireKeep]
@[simp] theorem expireClearing_butEntries (k : Sector) (s : State) : (expireClearing k s).butEntries = s.butEntries := by
  simp [expireClearing]
@[simp] theorem expireHold_butEntries (k : Sector) (s : State) : (expireHold k s).butEntries = s.butEntries := by
  simp [expireHold]
@[simp] theorem attributeLift_butEntries (c : Crane) (s : State) : (attributeLift c s).butEntries = s.butEntries := by
  unfold attributeLift; split
  · dsimp only; split <;> simp
  · rfl

/-! ### The wind monitor (R109 to R138) -/

/-- The state with winds, events, overflow, inFlight blanked. -/
def State.butWinds (s : State) : State :=
  { s with winds := Bank.fill 8 .reset, events := [], overflow := false, inFlight := [] }

/-- Nothing outside winds, events, overflow, inFlight differs. -/
theorem frame_of_butWinds {s t : State} (h : t.butWinds = s.butWinds) :
    t = { s with winds := t.winds, events := t.events, overflow := t.overflow, inFlight := t.inFlight } := by
  cases s; cases t
  simp only [State.butWinds, State.mk.injEq] at h ⊢
  simp_all

@[simp] theorem State.butWinds_idem (s : State) : s.butWinds.butWinds = s.butWinds := rfl
@[simp] theorem State.butWinds_send (s : State) (ns : List Notice) : (s.send ns).butWinds = s.butWinds := rfl
@[simp] theorem State.butWinds_post (s : State) (b : EventBody) : (s.post b).butWinds = s.butWinds := by
  apply State.ext <;> simp [State.butWinds]
@[simp] theorem State.butWinds_postAll (s : State) (bs : List EventBody) : (s.postAll bs).butWinds = s.butWinds := by
  apply State.ext <;> simp [State.butWinds]
@[simp] theorem State.butWinds_setWind (s : State) (i : Crane) (x : WindRecord) : (s.setWind i x).butWinds = s.butWinds := rfl

@[simp] theorem withBeacons_butWinds (before s : State) : (withBeacons before s).butWinds = s.butWinds := by
  simp [withBeacons]
@[simp] theorem State.selectAll_butWinds (s : State) : (s.selectAll).butWinds = s.butWinds := by
  unfold State.selectAll; exact foldl_keeps State.butWinds _ (fun _ _ => by simp) _ _
@[simp] theorem selectSources_butWinds (w : Option Crane) (s : State) : (selectSources w s).butWinds = s.butWinds := by
  simp [selectSources]
@[simp] theorem takeWind_butWinds (c : Crane) (f : WindFrame) (s : State) : (takeWind c f s).butWinds = s.butWinds := by
  unfold takeWind; dsimp only; split_ifs <;> simp
@[simp] theorem expireWindStale_butWinds (c : Crane) (s : State) : (expireWindStale c s).butWinds = s.butWinds := by
  unfold expireWindStale; (repeat' split) <;> simp
@[simp] theorem windNotices_butWinds (c : Crane) (before s : State) : (windNotices c before s).butWinds = s.butWinds := by
  simp [windNotices]
@[simp] theorem examineHandshake_butWinds (c : Crane) (s : State) : (examineHandshake c s).butWinds = s.butWinds := by
  unfold examineHandshake; (repeat' split) <;> simp
@[simp] theorem takeHandshake_butWinds (k : Sector) (s : State) : (takeHandshake k s).butWinds = s.butWinds := by
  unfold takeHandshake; exact foldl_keeps State.butWinds _ (fun _ _ => by simp) _ _
@[simp] theorem enterVanePending_butWinds (c : Crane) (cause : WindCause) (s : State) : (enterVanePending c cause s).butWinds = s.butWinds := by
  simp [enterVanePending]
@[simp] theorem vaneAttempt_butWinds (c : Crane) (s : State) : (vaneAttempt c s).butWinds = s.butWinds := by
  unfold vaneAttempt; (repeat' split) <;> simp
@[simp] theorem enterStop_butWinds (c : Crane) (cause : WindCause) (s : State) : (enterStop c cause s).butWinds = s.butWinds := by
  unfold enterStop; dsimp only; split <;> simp
@[simp] theorem enterCalmOrAlert_butWinds (c : Crane) (new : WindState) (n : Nat) (s : State) : (enterCalmOrAlert c new n s).butWinds = s.butWinds := by
  simp [enterCalmOrAlert]
@[simp] theorem takeEvaluation_butWinds (c : Crane) (s : State) : (takeEvaluation c s).butWinds = s.butWinds := by
  unfold takeEvaluation; dsimp only; (repeat' split) <;> simp
@[simp] theorem expireRecovery_butWinds (c : Crane) (s : State) : (expireRecovery c s).butWinds = s.butWinds := by
  unfold expireRecovery; dsimp only; split <;> simp
@[simp] theorem expireVaneDelay_butWinds (c : Crane) (s : State) : (expireVaneDelay c s).butWinds = s.butWinds := by
  unfold expireVaneDelay; (repeat' split) <;> simp
@[simp] theorem takeMotionNotice_butWinds (c : Crane) (s : State) : (takeMotionNotice c s).butWinds = s.butWinds := by
  unfold takeMotionNotice; (repeat' split) <;> simp
@[simp] theorem expireVaneTimeout_butWinds (c : Crane) (s : State) : (expireVaneTimeout c s).butWinds = s.butWinds := by
  unfold expireVaneTimeout; dsimp only; (repeat' split) <;> simp
@[simp] theorem resumeCrane_butWinds (c : Crane) (s : State) : (resumeCrane c s).butWinds = s.butWinds := by
  simp [resumeCrane]

/-! ### The booking table (R91 to R108) -/

/-- The state with bookings, events, overflow, inFlight blanked. -/
def State.butBookings (s : State) : State :=
  { s with bookings := [], events := [], overflow := false, inFlight := [] }

/-- Nothing outside bookings, events, overflow, inFlight differs. -/
theorem frame_of_butBookings {s t : State} (h : t.butBookings = s.butBookings) :
    t = { s with bookings := t.bookings, events := t.events, overflow := t.overflow, inFlight := t.inFlight } := by
  cases s; cases t
  simp only [State.butBookings, State.mk.injEq] at h ⊢
  simp_all

@[simp] theorem State.butBookings_idem (s : State) : s.butBookings.butBookings = s.butBookings := rfl
@[simp] theorem State.butBookings_send (s : State) (ns : List Notice) : (s.send ns).butBookings = s.butBookings := rfl
@[simp] theorem State.butBookings_post (s : State) (b : EventBody) : (s.post b).butBookings = s.butBookings := by
  apply State.ext <;> simp [State.butBookings]
@[simp] theorem State.butBookings_postAll (s : State) (bs : List EventBody) : (s.postAll bs).butBookings = s.butBookings := by
  apply State.ext <;> simp [State.butBookings]

@[simp] theorem State.butBookings_set (s : State) (bs : List Booking) :
    ({ s with bookings := bs } : State).butBookings = s.butBookings := rfl
@[simp] theorem State.changeBookings_butBookings (s : State) (after : List Booking) (es : List EventBody) : (s.changeBookings after es).butBookings = s.butBookings := by
  simp [State.changeBookings]
@[simp] theorem evaluateWindows_butBookings (cause : BookingCause) (s : State) : (evaluateWindows cause s).butBookings = s.butBookings := by
  simp [evaluateWindows]
@[simp] theorem takeCraneCondition_butBookings (c : Crane) (s : State) : (takeCraneCondition c s).butBookings = s.butBookings := by
  simp [takeCraneCondition]
@[simp] theorem takeLiftCount_butBookings (id : Half) (s : State) : (takeLiftCount id s).butBookings = s.butBookings := by
  simp [takeLiftCount]
@[simp] theorem addBooking_butBookings (b : Booking) (s : State) : (addBooking b s).butBookings = s.butBookings := by
  simp [addBooking]
@[simp] theorem cancelBooking_butBookings (id : Half) (s : State) : (cancelBooking id s).butBookings = s.butBookings := by
  simp [cancelBooking]

/-! ### The booking table and the arbiter together, at ARM and DISARM (R99, R100) -/

/-- The state with entries, bookings, events, overflow, inFlight blanked. -/
def State.butArming (s : State) : State :=
  { s with entries := Bank.fill 16 .reset, bookings := [], events := [], overflow := false, inFlight := [] }

/-- Nothing outside entries, bookings, events, overflow, inFlight differs. -/
theorem frame_of_butArming {s t : State} (h : t.butArming = s.butArming) :
    t = { s with entries := t.entries, bookings := t.bookings, events := t.events, overflow := t.overflow, inFlight := t.inFlight } := by
  cases s; cases t
  simp only [State.butArming, State.mk.injEq] at h ⊢
  simp_all

@[simp] theorem State.butArming_idem (s : State) : s.butArming.butArming = s.butArming := rfl
@[simp] theorem State.butArming_send (s : State) (ns : List Notice) : (s.send ns).butArming = s.butArming := rfl
@[simp] theorem State.butArming_post (s : State) (b : EventBody) : (s.post b).butArming = s.butArming := by
  apply State.ext <;> simp [State.butArming]
@[simp] theorem State.butArming_postAll (s : State) (bs : List EventBody) : (s.postAll bs).butArming = s.butArming := by
  apply State.ext <;> simp [State.butArming]
@[simp] theorem State.butArming_setEntry (s : State) (i : Sector) (x : SectorEntry) : (s.setEntry i x).butArming = s.butArming := rfl

theorem State.butArming_of_butEntries {s t : State} (h : t.butEntries = s.butEntries) : t.butArming = s.butArming := by
  have := congrArg (fun u : State => ({ u with bookings := [] } : State)) h
  exact this

@[simp] theorem State.butArming_set (s : State) (bs : List Booking) :
    ({ s with bookings := bs } : State).butArming = s.butArming := rfl
@[simp] theorem State.changeBookingsAtOnce_butArming (s : State) (after : List Booking) (es : List EventBody) : (s.changeBookingsAtOnce after es).butArming = s.butArming := by
  unfold State.changeBookingsAtOnce
  rw [foldl_keeps State.butArming _ (fun t k => State.butArming_of_butEntries (changeClaimant_butEntries _ _ _ _))]
  simp
@[simp] theorem armBookings_butArming (s : State) : (armBookings s).butArming = s.butArming := by
  simp [armBookings]
@[simp] theorem disarmBookings_butArming (s : State) : (disarmBookings s).butArming = s.butArming := by
  simp [disarmBookings]
@[simp] theorem setUpSectors_butEntries (s : State) : (setUpSectors s).butEntries = s.butEntries := by
  unfold setUpSectors; exact foldl_keeps State.butEntries _ (fun _ _ => by simp) _ _
@[simp] theorem clearSectors_butEntries (s : State) : (clearSectors s).butEntries = s.butEntries := by
  unfold clearSectors; exact foldl_keeps State.butEntries _ (fun _ _ => by split <;> simp) _ _

/-! ### The position tracker (R18 to R33) -/

/-- The state with positions, events, overflow, inFlight blanked. -/
def State.butPositions (s : State) : State :=
  { s with positions := Bank.fill 8 .reset, events := [], overflow := false, inFlight := [] }

/-- Nothing outside positions, events, overflow, inFlight differs. -/
theorem frame_of_butPositions {s t : State} (h : t.butPositions = s.butPositions) :
    t = { s with positions := t.positions, events := t.events, overflow := t.overflow, inFlight := t.inFlight } := by
  cases s; cases t
  simp only [State.butPositions, State.mk.injEq] at h ⊢
  simp_all

@[simp] theorem State.butPositions_idem (s : State) : s.butPositions.butPositions = s.butPositions := rfl
@[simp] theorem State.butPositions_send (s : State) (ns : List Notice) : (s.send ns).butPositions = s.butPositions := rfl
@[simp] theorem State.butPositions_post (s : State) (b : EventBody) : (s.post b).butPositions = s.butPositions := by
  apply State.ext <;> simp [State.butPositions]
@[simp] theorem State.butPositions_postAll (s : State) (bs : List EventBody) : (s.postAll bs).butPositions = s.butPositions := by
  apply State.ext <;> simp [State.butPositions]
@[simp] theorem State.butPositions_setPosition (s : State) (i : Crane) (x : PositionRecord) : (s.setPosition i x).butPositions = s.butPositions := rfl

@[simp] theorem withBeacons_butPositions (before s : State) : (withBeacons before s).butPositions = s.butPositions := by
  simp [withBeacons]
@[simp] theorem recomputePresence_butPositions (c : Crane) (skip : Option Sector) (s : State) : (recomputePresence c skip s).butPositions = s.butPositions := by
  simp [recomputePresence]
@[simp] theorem takeMotion_butPositions (c : Crane) (f : MotionFrame) (s : State) : (takeMotion c f s).butPositions = s.butPositions := by
  unfold takeMotion; dsimp only; split <;> simp
@[simp] theorem expirePosition_butPositions (c : Crane) (s : State) : (expirePosition c s).butPositions = s.butPositions := by
  unfold expirePosition; dsimp only; split <;> simp
@[simp] theorem loseAbsent_butPositions (c : Crane) (s : State) : (loseAbsent c s).butPositions = s.butPositions := by
  simp [loseAbsent]
@[simp] theorem recomputeMembers_butPositions (k : Sector) (listed : List Crane) (skip : Option Sector) (s : State) : (recomputeMembers k listed skip s).butPositions = s.butPositions := by
  unfold recomputeMembers; exact foldl_keeps State.butPositions _ (fun _ _ => by simp) _ _

/-! ### The load-cycle detector, with the arbiter's attribution (R79 to R90) -/

/-- The state with detectors, entries, events, overflow, inFlight blanked. -/
def State.butDetectors (s : State) : State :=
  { s with detectors := Bank.fill 8 .reset, entries := Bank.fill 16 .reset, events := [], overflow := false, inFlight := [] }

/-- Nothing outside detectors, entries, events, overflow, inFlight differs. -/
theorem frame_of_butDetectors {s t : State} (h : t.butDetectors = s.butDetectors) :
    t = { s with detectors := t.detectors, entries := t.entries, events := t.events, overflow := t.overflow, inFlight := t.inFlight } := by
  cases s; cases t
  simp only [State.butDetectors, State.mk.injEq] at h ⊢
  simp_all

@[simp] theorem State.butDetectors_idem (s : State) : s.butDetectors.butDetectors = s.butDetectors := rfl
@[simp] theorem State.butDetectors_send (s : State) (ns : List Notice) : (s.send ns).butDetectors = s.butDetectors := rfl
@[simp] theorem State.butDetectors_post (s : State) (b : EventBody) : (s.post b).butDetectors = s.butDetectors := by
  apply State.ext <;> simp [State.butDetectors]
@[simp] theorem State.butDetectors_postAll (s : State) (bs : List EventBody) : (s.postAll bs).butDetectors = s.butDetectors := by
  apply State.ext <;> simp [State.butDetectors]
@[simp] theorem State.butDetectors_setDetector (s : State) (i : Crane) (x : Detector) : (s.setDetector i x).butDetectors = s.butDetectors := rfl
@[simp] theorem State.butDetectors_setEntry (s : State) (i : Sector) (x : SectorEntry) : (s.setEntry i x).butDetectors = s.butDetectors := rfl

theorem State.butDetectors_of_butEntries {s t : State} (h : t.butEntries = s.butEntries) :
    t.butDetectors = s.butDetectors := by
  have := congrArg (fun u : State => ({ u with detectors := Bank.fill 8 .reset } : State)) h
  exact this

@[simp] theorem attributeLift_butDetectors (c : Crane) (s : State) : (attributeLift c s).butDetectors = s.butDetectors :=
  State.butDetectors_of_butEntries (attributeLift_butEntries c s)
@[simp] theorem completeLift_butDetectors (c : Crane) (s : State) : (completeLift c s).butDetectors = s.butDetectors := by
  simp [completeLift]
@[simp] theorem testOverload_butDetectors (c : Crane) (x : Nat) (s : State) : (testOverload c x s).butDetectors = s.butDetectors := by
  unfold testOverload; dsimp only; (repeat' split) <;> simp
@[simp] theorem takeSample_butDetectors (c : Crane) (x : Nat) (s : State) : (takeSample c x s).butDetectors = s.butDetectors := by
  unfold takeSample; dsimp only; rw [State.butDetectors_send, testOverload_butDetectors]; split <;> simp

/-! ### The permit path and its link ports (R139 to R149) -/

/-- The state with permits, slots, inFlight blanked. -/
def State.butPermits (s : State) : State :=
  { s with permits := Bank.fill 8 .reset, slots := Bank.fill 8 ⟨none, none⟩, inFlight := [] }

/-- Nothing outside permits, slots, inFlight differs. -/
theorem frame_of_butPermits {s t : State} (h : t.butPermits = s.butPermits) :
    t = { s with permits := t.permits, slots := t.slots, inFlight := t.inFlight } := by
  cases s; cases t
  simp only [State.butPermits, State.mk.injEq] at h ⊢
  simp_all

@[simp] theorem State.butPermits_idem (s : State) : s.butPermits.butPermits = s.butPermits := rfl
@[simp] theorem State.butPermits_send (s : State) (ns : List Notice) : (s.send ns).butPermits = s.butPermits := rfl
@[simp] theorem State.butPermits_setPermit (s : State) (i : Crane) (x : PermitRecord) : (s.setPermit i x).butPermits = s.butPermits := rfl
@[simp] theorem State.butPermits_setSlot (s : State) (i : Crane) (x : LinkSlots) : (s.setSlot i x).butPermits = s.butPermits := rfl

@[simp] theorem issue_butPermits (c : Crane) (x : Computation) (s : State) : (issue c x s).butPermits = s.butPermits := by
  simp [issue]
@[simp] theorem computeAndIssue_butPermits (c : Crane) (s : State) : (computeAndIssue c s).butPermits = s.butPermits := by
  simp [computeAndIssue]
@[simp] theorem issueAll_butPermits (s : State) : (issueAll s).butPermits = s.butPermits := by
  unfold issueAll; exact foldl_keeps State.butPermits _ (fun _ _ => by simp) _ _
@[simp] theorem takeDemand_butPermits (c : Crane) (f : DemandFrame) (s : State) : (takeDemand c f s).butPermits = s.butPermits := by
  unfold takeDemand; dsimp only; split <;> simp
@[simp] theorem expireDemand_butPermits (c : Crane) (s : State) : (expireDemand c s).butPermits = s.butPermits := by
  unfold expireDemand; dsimp only; split <;> simp
@[simp] theorem expireRefresh_butPermits (c : Crane) (s : State) : (expireRefresh c s).butPermits = s.butPermits := by
  unfold expireRefresh; (repeat' split) <;> simp
@[simp] theorem takeLimitNotice_butPermits (c : Crane) (s : State) : (takeLimitNotice c s).butPermits = s.butPermits := by
  unfold takeLimitNotice; dsimp only; (repeat' split) <;> simp
@[simp] theorem completePermit_butPermits (c : Crane) (s : State) : (completePermit c s).butPermits = s.butPermits := by
  unfold completePermit; (repeat' split) <;> simp

/-! ### The beacon driver (R171) -/

/-- The state with generators blanked. -/
def State.butGenerators (s : State) : State :=
  { s with generators := Bank.fill 8 .heldOff }

/-- Nothing outside generators differs. -/
theorem frame_of_butGenerators {s t : State} (h : t.butGenerators = s.butGenerators) :
    t = { s with generators := t.generators } := by
  cases s; cases t
  simp only [State.butGenerators, State.mk.injEq] at h ⊢
  simp_all

@[simp] theorem State.butGenerators_idem (s : State) : s.butGenerators.butGenerators = s.butGenerators := rfl
@[simp] theorem State.butGenerators_setGenerator (s : State) (i : BeaconLine) (x : Generator) : (s.setGenerator i x).butGenerators = s.butGenerators := rfl

@[simp] theorem State.refreshLine_butGenerators (s : State) (n : BeaconLine) : (s.refreshLine n).butGenerators = s.butGenerators := by
  unfold State.refreshLine; dsimp only; (repeat' split) <;> simp
@[simp] theorem State.refreshLines_butGenerators (s : State) : (s.refreshLines).butGenerators = s.butGenerators := by
  unfold State.refreshLines; exact foldl_keeps State.butGenerators _ (fun _ _ => by simp) _ _
@[simp] theorem State.showCondition_butGenerators (s : State) (c : Crane) (cond : BeaconCondition) : (s.showCondition c cond).butGenerators = s.butGenerators := by
  unfold State.showCondition; exact foldl_keeps State.butGenerators _ (fun _ _ => by dsimp only; split <;> simp) _ _
@[simp] theorem State.restartShowing_butGenerators (s : State) (cond : BeaconCondition) : (s.restartShowing cond).butGenerators = s.butGenerators := by
  unfold State.restartShowing; exact foldl_keeps State.butGenerators _ (fun _ _ => by dsimp only; (repeat' split) <;> simp) _ _
@[simp] theorem State.endPhase_butGenerators (s : State) (n : BeaconLine) : (s.endPhase n).butGenerators = s.butGenerators := by
  unfold State.endPhase; dsimp only; (repeat' split) <;> simp

/-! ### A second's timers of the wind states (R127, R137) -/

@[simp] theorem runSecondTimers_windOf (s : State) (c : Crane) :
    (runSecondTimers s).windOf c = s.runWindSecond c (s.windOf c) := by
  simp [runSecondTimers, State.windOf]

theorem recoveryRuns_iff (s : State) (c : Crane) :
    s.recoveryRuns c = true ↔
      (s.crane c).present = true ∧ profileValid (s.profileOf c) = true ∧ (s.windOf c).source ≠ .none := by
  simp [State.recoveryRuns, and_assoc]

/-! ### Beacon generators (R171) -/

@[simp] theorem Generator.restart_driver (g : Generator) (b : Bool) (c : Crane) (cond : BeaconCondition)
    (p : BeaconPattern) : (g.restart b c cond p).driver = some c := rfl

@[simp] theorem Generator.restart_condition (g : Generator) (b : Bool) (c : Crane) (cond : BeaconCondition)
    (p : BeaconPattern) : (g.restart b c cond p).condition = cond := rfl

@[simp] theorem Generator.tick_driver (g : Generator) : g.tick.driver = g.driver := rfl
@[simp] theorem Generator.tick_condition (g : Generator) : g.tick.condition = g.condition := rfl
@[simp] theorem Generator.tick_phase (g : Generator) : g.tick.phase = g.phase := rfl
@[simp] theorem Generator.tick_cutShort (g : Generator) : g.tick.cutShort = false := rfl

/-- The tick that was to end a phase that a restart has cut short takes nothing off the restarted phase. -/
theorem Generator.restart_tick (g : Generator) (b : Bool) (c : Crane) (cond : BeaconCondition) (p : BeaconPattern)
    (h : g.cuts b = true) : (g.restart b c cond p).tick = { g.restart b c cond p with cutShort := false } := by
  simp [Generator.tick, Generator.restart, h]

/-- The end of a phase that a restart has cut short leaves the restarted phase. -/
theorem State.endPhase_of_cutShort (s : State) (n : BeaconLine) (h : (s.generator n).cutShort = true) :
    s.endPhase n = s := by
  simp [State.endPhase, h]

end Sys2Proof.Machine
end

