-- ==== Sys2Proof/Laws/Settle.lean ====
section
/-! SUPPORT. What a command meets: the work that waits is done before it, and a quiet device has none. -/

namespace Sys2Proof.Machine

variable {s : State}

/-- No work waits exactly when nothing is in flight and an idle transmitter has both its queues empty. -/
theorem atRest_iff : s.atRest = true ↔ s.inFlight = [] ∧ (s.transmitter = none → s.replies = [] ∧ s.events = []) := by
  cases h : s.transmitter <;> simp [State.atRest, State.mustSend, h]

/-- A quiet device is at rest. -/
theorem State.Ready.atRest (h : s.Ready) : s.atRest = true := atRest_iff.mpr h.2

/-- At rest there is nothing to settle. -/
theorem settleFor_quiet (h : s.atRest = true) (n : Nat) : settleFor n s = s := by
  cases n with
  | zero => rfl
  | succ n => simp [settleFor, h]

/-- At rest there is nothing to settle. -/
theorem settle_quiet (h : s.atRest = true) : settle s = s := settleFor_quiet h _

/-- An idle transmitter that has something to send begins it before anything else is done. -/
theorem takeNext_begins (h : s.mustSend = true) : takeNext s = beginSending s := if_pos h

/-- A transmitter that has begun has nothing to begin. -/
theorem beginSending_mustSend : (beginSending s).mustSend = false := by
  unfold beginSending
  cases h : s.transmitter with
  | some f => simp [State.mustSend, h]
  | none => cases hr : s.replies <;> cases he : s.events <;> simp [State.mustSend, hr, he, h]

/-- The notice to be taken next is one of those in flight. -/
theorem nextNotice_mem {ns : List Notice} {n : Notice} (h : nextNotice ns = some n) : n ∈ ns := by
  unfold nextNotice at h
  split at h
  · rename_i hf; cases h; exact List.mem_of_find?_eq_some hf
  · exact List.mem_of_mem_head? h

/-- What an event has caused is taken before any other event. -/
theorem nextNotice_caused {ns : List Notice} {m n : Notice} (h : nextNotice ns = some n) (hm : m ∈ ns)
    (hc : opensEvent m = false) : opensEvent n = false := by
  unfold nextNotice at h
  split at h
  · rename_i hf; cases h; simpa using List.find?_some hf
  · rename_i hf
    have := List.find?_eq_none.mp hf m hm
    simp [hc] at this

/-- A quiet device outside reset takes the command at once. -/
theorem whenRunning_ready (h : s.Ready) (f : State → State) : whenRunning f s = .next (f s) := by
  simp [whenRunning, h.1, settle_quiet h.atRest]

/-- In reset a command does nothing. -/
theorem whenRunning_inReset (h : s.inReset ≠ none) (f : State → State) : whenRunning f s = .next s := by
  simp [whenRunning, h]

/-- A device outside reset takes the command after its notices. -/
theorem whenRunning_running (h : s.inReset = none) (f : State → State) :
    whenRunning f s = .next (f (settle s)) := by
  simp [whenRunning, h]

/-- A request that finds room is answered, and the receiver hunts again. -/
theorem request_room (h : s.Room) (tag code : Byte) (op : State → Answer) :
    request tag code op s =
      { (op (s.hunting siteLink)).state with
        replies := (op (s.hunting siteLink)).state.replies ++
          [{ tag := tag, operation := code, result := (op (s.hunting siteLink)).result,
             locator := BitVec.ofNat 16 (op (s.hunting siteLink)).locator,
             data := (op (s.hunting siteLink)).data }] } := by
  have : s.replies.length < Config.replyCapacity := h
  simp [request, answerRequest, State.hunting, State.setReceiver, this]

/-- A request that finds no room is discarded whole. -/
theorem request_full (h : 4 ≤ s.replies.length) (tag code : Byte) (op : State → Answer) :
    request tag code op s = s.hunting siteLink := by
  have : ¬ s.replies.length < Config.replyCapacity := Nat.not_lt.mpr h
  simp [request, answerRequest, State.hunting, State.setReceiver, this]

end Sys2Proof.Machine
end

