-- ==== Sys2Proof/Laws/Exec.lean ====
section
/-! SUPPORT. What each command does to a quiet device outside reset: `effect`, and one equation for each
constructor. -/

namespace Sys2Proof.Machine

/-- What a command does to a quiet device outside reset; the reset's own commands act in any state. -/
def effect (i : Instr) (s : State) : State :=
  match i with
  | .motion c f => handOn c (takeMotion c f) (s.setReceiver (linkOf c) .hunting)
  | .wind c f => handOn c (takeWind c f) (s.setReceiver (linkOf c) .hunting)
  | .demand c f => handOn c (takeDemand c f) (s.setReceiver (linkOf c) .hunting)
  | .misdirectedFrame l => discardMisdirected l s
  | .lengthError l kind len => discardLength l kind len s
  | .crcError l octets => discardCrc l octets s
  | .writeSite tag operands => request tag 0x01#8 (writeSite operands) s
  | .writeCrane tag operands => request tag 0x02#8 (writeCrane operands) s
  | .writeSegments tag operands => request tag 0x03#8 (writeSegments operands) s
  | .writeSector tag operands => request tag 0x04#8 (writeSector operands) s
  | .writeProfile tag operands => request tag 0x05#8 (writeProfile operands) s
  | .writePattern tag operands => request tag 0x06#8 (writePattern operands) s
  | .arm tag operands => request tag 0x10#8 (Machine.arm operands) s
  | .disarm tag operands => request tag 0x11#8 (Machine.disarm operands) s
  | .timeSet tag operands => request tag 0x12#8 (timeSet operands) s
  | .setMask tag operands => request tag 0x13#8 (setMask operands) s
  | .bookAdd tag operands => request tag 0x20#8 (bookAdd operands) s
  | .bookCancel tag operands => request tag 0x21#8 (bookCancel operands) s
  | .bookPurge tag operands => request tag 0x22#8 (bookPurge operands) s
  | .sectorClose tag operands => request tag 0x30#8 (sectorClose operands) s
  | .sectorOpen tag operands => request tag 0x31#8 (sectorOpen operands) s
  | .vane tag operands => request tag 0x32#8 (vaneCrane operands) s
  | .resume tag operands => request tag 0x33#8 (resumeOp operands) s
  | .readCrane tag operands => request tag 0x40#8 (readCrane operands) s
  | .readSector tag operands => request tag 0x41#8 (readSector operands) s
  | .readStatus tag operands => request tag 0x44#8 (readStatus operands) s
  | .readBooking tag operands => request tag 0x42#8 (readBookingOp operands) s
  | .readWind tag operands => request tag 0x43#8 (readWind operands) s
  | .permitSendCompletion c => completePermit c s
  | .siteTransmitBegin => beginSending s
  | .replyFrameCompletion => completeReply s
  | .eventFrameCompletion => completeEvent s
  | .eventPosting body => s.post body
  | .presenceReport k c ch => reportPresence k c ch s
  | .knock k c => knockSector k c s
  | .bookedClaimantChange k left cl => changeClaimant k left cl s
  | .lockRequest k c => lockSector k c s
  | .unlock k c => unlockSector k c s
  | .liftAttribution c => attributeLift c s
  | .bookedLiftCount id => takeLiftCount id s
  | .loadSample c x => takeSample c x s
  | .motionFrameNotice c => takeMotionNotice c s
  | .limitNotice c => takeLimitNotice c s
  | .evaluation c => takeEvaluation c s
  | .craneConditionChange c => takeCraneCondition c s
  | .handshakeReport k => takeHandshake k s
  | .beaconConditionChange c cond => s.showCondition c cond
  | .positionStaleExpiry c => expirePosition c s
  | .windStaleExpiry c => expireWindStale c s
  | .demandTimeoutExpiry c => expireDemand c s
  | .refreshExpiry c => expireRefresh c s
  | .keepTimerExpiry k c => expireKeep k c s
  | .clearingExpiry k => expireClearing k s
  | .holdTimerExpiry k => expireHold k s
  | .recoveryExpiry c => expireRecovery c s
  | .vaneDelayExpiry c => expireVaneDelay c s
  | .vaneTimeoutExpiry c => expireVaneTimeout c s
  | .beaconPhaseEnd n => s.endPhase n
  | .tick holdLow => takeTick holdLow s
  | .siteClockAdvance => advanceClock s
  | .minuteBoundary => takeMinute s
  | .siteHoldAsserted => assertHold s
  | .siteHoldReleased => releaseHold s
  | .deviceReset trigger => takeReset trigger s
  | .resetEnd => endReset s
  | .unknownOperationCode tag operation _ => request tag operation (fun u => refuse u .badValue) s

variable {s : State}

theorem exec_motion (h : s.Ready) (c : Crane) (f : MotionFrame) :
    exec (.motion c f) s = .next (handOn c (takeMotion c f) (s.setReceiver (linkOf c) .hunting)) :=
  whenRunning_ready h (fun t => handOn c (takeMotion c f) (t.setReceiver (linkOf c) .hunting))
theorem exec_wind (h : s.Ready) (c : Crane) (f : WindFrame) :
    exec (.wind c f) s = .next (handOn c (takeWind c f) (s.setReceiver (linkOf c) .hunting)) :=
  whenRunning_ready h (fun t => handOn c (takeWind c f) (t.setReceiver (linkOf c) .hunting))
theorem exec_demand (h : s.Ready) (c : Crane) (f : DemandFrame) :
    exec (.demand c f) s = .next (handOn c (takeDemand c f) (s.setReceiver (linkOf c) .hunting)) :=
  whenRunning_ready h (fun t => handOn c (takeDemand c f) (t.setReceiver (linkOf c) .hunting))
theorem exec_misdirectedFrame (h : s.Ready) (l : Link) :
    exec (.misdirectedFrame l) s = .next (discardMisdirected l s) :=
  whenRunning_ready h (fun t => discardMisdirected l t)
theorem exec_lengthError (h : s.Ready) (l : Link) (kind : Byte) (len : Byte) :
    exec (.lengthError l kind len) s = .next (discardLength l kind len s) :=
  whenRunning_ready h (fun t => discardLength l kind len t)
theorem exec_crcError (h : s.Ready) (l : Link) (octets : List Byte) :
    exec (.crcError l octets) s = .next (discardCrc l octets s) :=
  whenRunning_ready h (fun t => discardCrc l octets t)
theorem exec_writeSite (h : s.Ready) (tag : Byte) (operands : List Byte) :
    exec (.writeSite tag operands) s = .next (request tag 0x01#8 (writeSite operands) s) :=
  whenRunning_ready h (fun t => request tag 0x01#8 (writeSite operands) t)
theorem exec_writeCrane (h : s.Ready) (tag : Byte) (operands : List Byte) :
    exec (.writeCrane tag operands) s = .next (request tag 0x02#8 (writeCrane operands) s) :=
  whenRunning_ready h (fun t => request tag 0x02#8 (writeCrane operands) t)
theorem exec_writeSegments (h : s.Ready) (tag : Byte) (operands : List Byte) :
    exec (.writeSegments tag operands) s = .next (request tag 0x03#8 (writeSegments operands) s) :=
  whenRunning_ready h (fun t => request tag 0x03#8 (writeSegments operands) t)
theorem exec_writeSector (h : s.Ready) (tag : Byte) (operands : List Byte) :
    exec (.writeSector tag operands) s = .next (request tag 0x04#8 (writeSector operands) s) :=
  whenRunning_ready h (fun t => request tag 0x04#8 (writeSector operands) t)
theorem exec_writeProfile (h : s.Ready) (tag : Byte) (operands : List Byte) :
    exec (.writeProfile tag operands) s = .next (request tag 0x05#8 (writeProfile operands) s) :=
  whenRunning_ready h (fun t => request tag 0x05#8 (writeProfile operands) t)
theorem exec_writePattern (h : s.Ready) (tag : Byte) (operands : List Byte) :
    exec (.writePattern tag operands) s = .next (request tag 0x06#8 (writePattern operands) s) :=
  whenRunning_ready h (fun t => request tag 0x06#8 (writePattern operands) t)
theorem exec_arm (h : s.Ready) (tag : Byte) (operands : List Byte) :
    exec (.arm tag operands) s = .next (request tag 0x10#8 (Machine.arm operands) s) :=
  whenRunning_ready h (fun t => request tag 0x10#8 (Machine.arm operands) t)
theorem exec_disarm (h : s.Ready) (tag : Byte) (operands : List Byte) :
    exec (.disarm tag operands) s = .next (request tag 0x11#8 (Machine.disarm operands) s) :=
  whenRunning_ready h (fun t => request tag 0x11#8 (Machine.disarm operands) t)
theorem exec_timeSet (h : s.Ready) (tag : Byte) (operands : List Byte) :
    exec (.timeSet tag operands) s = .next (request tag 0x12#8 (timeSet operands) s) :=
  whenRunning_ready h (fun t => request tag 0x12#8 (timeSet operands) t)
theorem exec_setMask (h : s.Ready) (tag : Byte) (operands : List Byte) :
    exec (.setMask tag operands) s = .next (request tag 0x13#8 (setMask operands) s) :=
  whenRunning_ready h (fun t => request tag 0x13#8 (setMask operands) t)
theorem exec_bookAdd (h : s.Ready) (tag : Byte) (operands : List Byte) :
    exec (.bookAdd tag operands) s = .next (request tag 0x20#8 (bookAdd operands) s) :=
  whenRunning_ready h (fun t => request tag 0x20#8 (bookAdd operands) t)
theorem exec_bookCancel (h : s.Ready) (tag : Byte) (operands : List Byte) :
    exec (.bookCancel tag operands) s = .next (request tag 0x21#8 (bookCancel operands) s) :=
  whenRunning_ready h (fun t => request tag 0x21#8 (bookCancel operands) t)
theorem exec_bookPurge (h : s.Ready) (tag : Byte) (operands : List Byte) :
    exec (.bookPurge tag operands) s = .next (request tag 0x22#8 (bookPurge operands) s) :=
  whenRunning_ready h (fun t => request tag 0x22#8 (bookPurge operands) t)
theorem exec_sectorClose (h : s.Ready) (tag : Byte) (operands : List Byte) :
    exec (.sectorClose tag operands) s = .next (request tag 0x30#8 (sectorClose operands) s) :=
  whenRunning_ready h (fun t => request tag 0x30#8 (sectorClose operands) t)
theorem exec_sectorOpen (h : s.Ready) (tag : Byte) (operands : List Byte) :
    exec (.sectorOpen tag operands) s = .next (request tag 0x31#8 (sectorOpen operands) s) :=
  whenRunning_ready h (fun t => request tag 0x31#8 (sectorOpen operands) t)
theorem exec_vane (h : s.Ready) (tag : Byte) (operands : List Byte) :
    exec (.vane tag operands) s = .next (request tag 0x32#8 (vaneCrane operands) s) :=
  whenRunning_ready h (fun t => request tag 0x32#8 (vaneCrane operands) t)
theorem exec_resume (h : s.Ready) (tag : Byte) (operands : List Byte) :
    exec (.resume tag operands) s = .next (request tag 0x33#8 (resumeOp operands) s) :=
  whenRunning_ready h (fun t => request tag 0x33#8 (resumeOp operands) t)
theorem exec_readCrane (h : s.Ready) (tag : Byte) (operands : List Byte) :
    exec (.readCrane tag operands) s = .next (request tag 0x40#8 (readCrane operands) s) :=
  whenRunning_ready h (fun t => request tag 0x40#8 (readCrane operands) t)
theorem exec_readSector (h : s.Ready) (tag : Byte) (operands : List Byte) :
    exec (.readSector tag operands) s = .next (request tag 0x41#8 (readSector operands) s) :=
  whenRunning_ready h (fun t => request tag 0x41#8 (readSector operands) t)
theorem exec_readStatus (h : s.Ready) (tag : Byte) (operands : List Byte) :
    exec (.readStatus tag operands) s = .next (request tag 0x44#8 (readStatus operands) s) :=
  whenRunning_ready h (fun t => request tag 0x44#8 (readStatus operands) t)
theorem exec_readBooking (h : s.Ready) (tag : Byte) (operands : List Byte) :
    exec (.readBooking tag operands) s = .next (request tag 0x42#8 (readBookingOp operands) s) :=
  whenRunning_ready h (fun t => request tag 0x42#8 (readBookingOp operands) t)
theorem exec_readWind (h : s.Ready) (tag : Byte) (operands : List Byte) :
    exec (.readWind tag operands) s = .next (request tag 0x43#8 (readWind operands) s) :=
  whenRunning_ready h (fun t => request tag 0x43#8 (readWind operands) t)
theorem exec_permitSendCompletion (h : s.Ready) (c : Crane) :
    exec (.permitSendCompletion c) s = .next (completePermit c s) :=
  whenRunning_ready h (fun t => completePermit c t)
theorem exec_siteTransmitBegin (h : s.Ready) :
    exec (.siteTransmitBegin) s = .next (beginSending s) :=
  whenRunning_ready h (fun t => beginSending t)
theorem exec_replyFrameCompletion (h : s.Ready) :
    exec (.replyFrameCompletion) s = .next (completeReply s) :=
  whenRunning_ready h (fun t => completeReply t)
theorem exec_eventFrameCompletion (h : s.Ready) :
    exec (.eventFrameCompletion) s = .next (completeEvent s) :=
  whenRunning_ready h (fun t => completeEvent t)
theorem exec_eventPosting (h : s.Ready) (body : EventBody) :
    exec (.eventPosting body) s = .next (s.post body) :=
  whenRunning_ready h (fun t => t.post body)
theorem exec_presenceReport (h : s.Ready) (k : Sector) (c : Crane) (ch : PresenceChange) :
    exec (.presenceReport k c ch) s = .next (reportPresence k c ch s) :=
  whenRunning_ready h (fun t => reportPresence k c ch t)
theorem exec_knock (h : s.Ready) (k : Sector) (c : Crane) :
    exec (.knock k c) s = .next (knockSector k c s) :=
  whenRunning_ready h (fun t => knockSector k c t)
theorem exec_bookedClaimantChange (h : s.Ready) (k : Sector) (left : List (Half × BookingState)) (cl : Option Claimant) :
    exec (.bookedClaimantChange k left cl) s = .next (changeClaimant k left cl s) :=
  whenRunning_ready h (fun t => changeClaimant k left cl t)
theorem exec_lockRequest (h : s.Ready) (k : Sector) (c : Crane) :
    exec (.lockRequest k c) s = .next (lockSector k c s) :=
  whenRunning_ready h (fun t => lockSector k c t)
theorem exec_unlock (h : s.Ready) (k : Sector) (c : Crane) :
    exec (.unlock k c) s = .next (unlockSector k c s) :=
  whenRunning_ready h (fun t => unlockSector k c t)
theorem exec_liftAttribution (h : s.Ready) (c : Crane) :
    exec (.liftAttribution c) s = .next (attributeLift c s) :=
  whenRunning_ready h (fun t => attributeLift c t)
theorem exec_bookedLiftCount (h : s.Ready) (id : Half) :
    exec (.bookedLiftCount id) s = .next (takeLiftCount id s) :=
  whenRunning_ready h (fun t => takeLiftCount id t)
theorem exec_loadSample (h : s.Ready) (c : Crane) (x : Nat) :
    exec (.loadSample c x) s = .next (takeSample c x s) :=
  whenRunning_ready h (fun t => takeSample c x t)
theorem exec_motionFrameNotice (h : s.Ready) (c : Crane) :
    exec (.motionFrameNotice c) s = .next (takeMotionNotice c s) :=
  whenRunning_ready h (fun t => takeMotionNotice c t)
theorem exec_limitNotice (h : s.Ready) (c : Crane) :
    exec (.limitNotice c) s = .next (takeLimitNotice c s) :=
  whenRunning_ready h (fun t => takeLimitNotice c t)
theorem exec_evaluation (h : s.Ready) (c : Crane) :
    exec (.evaluation c) s = .next (takeEvaluation c s) :=
  whenRunning_ready h (fun t => takeEvaluation c t)
theorem exec_craneConditionChange (h : s.Ready) (c : Crane) :
    exec (.craneConditionChange c) s = .next (takeCraneCondition c s) :=
  whenRunning_ready h (fun t => takeCraneCondition c t)
theorem exec_handshakeReport (h : s.Ready) (k : Sector) :
    exec (.handshakeReport k) s = .next (takeHandshake k s) :=
  whenRunning_ready h (fun t => takeHandshake k t)
theorem exec_beaconConditionChange (h : s.Ready) (c : Crane) (cond : BeaconCondition) :
    exec (.beaconConditionChange c cond) s = .next (s.showCondition c cond) :=
  whenRunning_ready h (fun t => t.showCondition c cond)
theorem exec_positionStaleExpiry (h : s.Ready) (c : Crane) :
    exec (.positionStaleExpiry c) s = .next (expirePosition c s) :=
  whenRunning_ready h (fun t => expirePosition c t)
theorem exec_windStaleExpiry (h : s.Ready) (c : Crane) :
    exec (.windStaleExpiry c) s = .next (expireWindStale c s) :=
  whenRunning_ready h (fun t => expireWindStale c t)
theorem exec_demandTimeoutExpiry (h : s.Ready) (c : Crane) :
    exec (.demandTimeoutExpiry c) s = .next (expireDemand c s) :=
  whenRunning_ready h (fun t => expireDemand c t)
theorem exec_refreshExpiry (h : s.Ready) (c : Crane) :
    exec (.refreshExpiry c) s = .next (expireRefresh c s) :=
  whenRunning_ready h (fun t => expireRefresh c t)
theorem exec_keepTimerExpiry (h : s.Ready) (k : Sector) (c : Crane) :
    exec (.keepTimerExpiry k c) s = .next (expireKeep k c s) :=
  whenRunning_ready h (fun t => expireKeep k c t)
theorem exec_clearingExpiry (h : s.Ready) (k : Sector) :
    exec (.clearingExpiry k) s = .next (expireClearing k s) :=
  whenRunning_ready h (fun t => expireClearing k t)
theorem exec_holdTimerExpiry (h : s.Ready) (k : Sector) :
    exec (.holdTimerExpiry k) s = .next (expireHold k s) :=
  whenRunning_ready h (fun t => expireHold k t)
theorem exec_recoveryExpiry (h : s.Ready) (c : Crane) :
    exec (.recoveryExpiry c) s = .next (expireRecovery c s) :=
  whenRunning_ready h (fun t => expireRecovery c t)
theorem exec_vaneDelayExpiry (h : s.Ready) (c : Crane) :
    exec (.vaneDelayExpiry c) s = .next (expireVaneDelay c s) :=
  whenRunning_ready h (fun t => expireVaneDelay c t)
theorem exec_vaneTimeoutExpiry (h : s.Ready) (c : Crane) :
    exec (.vaneTimeoutExpiry c) s = .next (expireVaneTimeout c s) :=
  whenRunning_ready h (fun t => expireVaneTimeout c t)
theorem exec_beaconPhaseEnd (h : s.Ready) (n : BeaconLine) :
    exec (.beaconPhaseEnd n) s = .next (s.endPhase n) :=
  whenRunning_ready h (fun t => t.endPhase n)
theorem exec_tick (h : s.Ready) (holdLow : Bool) :
    exec (.tick holdLow) s = .next (takeTick holdLow s) :=
  whenRunning_ready h (fun t => takeTick holdLow t)
theorem exec_siteClockAdvance (h : s.Ready) :
    exec (.siteClockAdvance) s = .next (advanceClock s) :=
  whenRunning_ready h (fun t => advanceClock t)
theorem exec_minuteBoundary (h : s.Ready) :
    exec (.minuteBoundary) s = .next (takeMinute s) :=
  whenRunning_ready h (fun t => takeMinute t)
theorem exec_siteHoldAsserted (h : s.Ready) :
    exec (.siteHoldAsserted) s = .next (assertHold s) :=
  whenRunning_ready h (fun t => assertHold t)
theorem exec_siteHoldReleased (h : s.Ready) :
    exec (.siteHoldReleased) s = .next (releaseHold s) :=
  whenRunning_ready h (fun t => releaseHold t)
theorem exec_unknownOperationCode (h : s.Ready) (tag : Byte) (operation : Byte) (operands : List Byte) :
    exec (.unknownOperationCode tag operation operands) s = .next (request tag operation (fun u => refuse u .badValue) s) :=
  whenRunning_ready h (fun t => request tag operation (fun u => refuse u .badValue) t)

/-- Equal effects answer alike. -/
theorem whenRunning_congr {f g : State → State} (h : ∀ t, f t = g t) (s : State) :
    whenRunning f s = whenRunning g s := by
  rw [funext h]

/-- Every command but the reset's own has its effect on a running device once the notices have been taken. -/
theorem exec_whenRunning (i : Instr) (h1 : ∀ trigger, i ≠ .deviceReset trigger) (h2 : i ≠ .resetEnd) (s : State) :
    exec i s = whenRunning (effect i) s := by
  cases i with
  | deviceReset t => exact absurd rfl (h1 t)
  | resetEnd => exact absurd rfl h2
  | motion c f =>
    exact whenRunning_congr (f := fun t => handOn c (takeMotion c f) (t.setReceiver (linkOf c) .hunting)) (g := effect (.motion c f)) (fun _ => rfl) s
  | wind c f =>
    exact whenRunning_congr (f := fun t => handOn c (takeWind c f) (t.setReceiver (linkOf c) .hunting)) (g := effect (.wind c f)) (fun _ => rfl) s
  | demand c f =>
    exact whenRunning_congr (f := fun t => handOn c (takeDemand c f) (t.setReceiver (linkOf c) .hunting)) (g := effect (.demand c f)) (fun _ => rfl) s
  | misdirectedFrame l =>
    exact whenRunning_congr (f := fun t => discardMisdirected l t) (g := effect (.misdirectedFrame l)) (fun _ => rfl) s
  | lengthError l kind len =>
    exact whenRunning_congr (f := fun t => discardLength l kind len t) (g := effect (.lengthError l kind len)) (fun _ => rfl) s
  | crcError l octets =>
    exact whenRunning_congr (f := fun t => discardCrc l octets t) (g := effect (.crcError l octets)) (fun _ => rfl) s
  | writeSite tag operands =>
    exact whenRunning_congr (f := fun t => request tag 0x01#8 (writeSite operands) t) (g := effect (.writeSite tag operands)) (fun _ => rfl) s
  | writeCrane tag operands =>
    exact whenRunning_congr (f := fun t => request tag 0x02#8 (writeCrane operands) t) (g := effect (.writeCrane tag operands)) (fun _ => rfl) s
  | writeSegments tag operands =>
    exact whenRunning_congr (f := fun t => request tag 0x03#8 (writeSegments operands) t) (g := effect (.writeSegments tag operands)) (fun _ => rfl) s
  | writeSector tag operands =>
    exact whenRunning_congr (f := fun t => request tag 0x04#8 (writeSector operands) t) (g := effect (.writeSector tag operands)) (fun _ => rfl) s
  | writeProfile tag operands =>
    exact whenRunning_congr (f := fun t => request tag 0x05#8 (writeProfile operands) t) (g := effect (.writeProfile tag operands)) (fun _ => rfl) s
  | writePattern tag operands =>
    exact whenRunning_congr (f := fun t => request tag 0x06#8 (writePattern operands) t) (g := effect (.writePattern tag operands)) (fun _ => rfl) s
  | arm tag operands =>
    exact whenRunning_congr (f := fun t => request tag 0x10#8 (Machine.arm operands) t) (g := effect (.arm tag operands)) (fun _ => rfl) s
  | disarm tag operands =>
    exact whenRunning_congr (f := fun t => request tag 0x11#8 (Machine.disarm operands) t) (g := effect (.disarm tag operands)) (fun _ => rfl) s
  | timeSet tag operands =>
    exact whenRunning_congr (f := fun t => request tag 0x12#8 (timeSet operands) t) (g := effect (.timeSet tag operands)) (fun _ => rfl) s
  | setMask tag operands =>
    exact whenRunning_congr (f := fun t => request tag 0x13#8 (setMask operands) t) (g := effect (.setMask tag operands)) (fun _ => rfl) s
  | bookAdd tag operands =>
    exact whenRunning_congr (f := fun t => request tag 0x20#8 (bookAdd operands) t) (g := effect (.bookAdd tag operands)) (fun _ => rfl) s
  | bookCancel tag operands =>
    exact whenRunning_congr (f := fun t => request tag 0x21#8 (bookCancel operands) t) (g := effect (.bookCancel tag operands)) (fun _ => rfl) s
  | bookPurge tag operands =>
    exact whenRunning_congr (f := fun t => request tag 0x22#8 (bookPurge operands) t) (g := effect (.bookPurge tag operands)) (fun _ => rfl) s
  | sectorClose tag operands =>
    exact whenRunning_congr (f := fun t => request tag 0x30#8 (sectorClose operands) t) (g := effect (.sectorClose tag operands)) (fun _ => rfl) s
  | sectorOpen tag operands =>
    exact whenRunning_congr (f := fun t => request tag 0x31#8 (sectorOpen operands) t) (g := effect (.sectorOpen tag operands)) (fun _ => rfl) s
  | vane tag operands =>
    exact whenRunning_congr (f := fun t => request tag 0x32#8 (vaneCrane operands) t) (g := effect (.vane tag operands)) (fun _ => rfl) s
  | resume tag operands =>
    exact whenRunning_congr (f := fun t => request tag 0x33#8 (resumeOp operands) t) (g := effect (.resume tag operands)) (fun _ => rfl) s
  | readCrane tag operands =>
    exact whenRunning_congr (f := fun t => request tag 0x40#8 (readCrane operands) t) (g := effect (.readCrane tag operands)) (fun _ => rfl) s
  | readSector tag operands =>
    exact whenRunning_congr (f := fun t => request tag 0x41#8 (readSector operands) t) (g := effect (.readSector tag operands)) (fun _ => rfl) s
  | readStatus tag operands =>
    exact whenRunning_congr (f := fun t => request tag 0x44#8 (readStatus operands) t) (g := effect (.readStatus tag operands)) (fun _ => rfl) s
  | readBooking tag operands =>
    exact whenRunning_congr (f := fun t => request tag 0x42#8 (readBookingOp operands) t) (g := effect (.readBooking tag operands)) (fun _ => rfl) s
  | readWind tag operands =>
    exact whenRunning_congr (f := fun t => request tag 0x43#8 (readWind operands) t) (g := effect (.readWind tag operands)) (fun _ => rfl) s
  | permitSendCompletion c =>
    exact whenRunning_congr (f := fun t => completePermit c t) (g := effect (.permitSendCompletion c)) (fun _ => rfl) s
  | siteTransmitBegin =>
    exact whenRunning_congr (f := fun t => beginSending t) (g := effect (.siteTransmitBegin)) (fun _ => rfl) s
  | replyFrameCompletion =>
    exact whenRunning_congr (f := fun t => completeReply t) (g := effect (.replyFrameCompletion)) (fun _ => rfl) s
  | eventFrameCompletion =>
    exact whenRunning_congr (f := fun t => completeEvent t) (g := effect (.eventFrameCompletion)) (fun _ => rfl) s
  | eventPosting body =>
    exact whenRunning_congr (f := fun t => t.post body) (g := effect (.eventPosting body)) (fun _ => rfl) s
  | presenceReport k c ch =>
    exact whenRunning_congr (f := fun t => reportPresence k c ch t) (g := effect (.presenceReport k c ch)) (fun _ => rfl) s
  | knock k c =>
    exact whenRunning_congr (f := fun t => knockSector k c t) (g := effect (.knock k c)) (fun _ => rfl) s
  | bookedClaimantChange k left cl =>
    exact whenRunning_congr (f := fun t => changeClaimant k left cl t) (g := effect (.bookedClaimantChange k left cl)) (fun _ => rfl) s
  | lockRequest k c =>
    exact whenRunning_congr (f := fun t => lockSector k c t) (g := effect (.lockRequest k c)) (fun _ => rfl) s
  | unlock k c =>
    exact whenRunning_congr (f := fun t => unlockSector k c t) (g := effect (.unlock k c)) (fun _ => rfl) s
  | liftAttribution c =>
    exact whenRunning_congr (f := fun t => attributeLift c t) (g := effect (.liftAttribution c)) (fun _ => rfl) s
  | bookedLiftCount id =>
    exact whenRunning_congr (f := fun t => takeLiftCount id t) (g := effect (.bookedLiftCount id)) (fun _ => rfl) s
  | loadSample c x =>
    exact whenRunning_congr (f := fun t => takeSample c x t) (g := effect (.loadSample c x)) (fun _ => rfl) s
  | motionFrameNotice c =>
    exact whenRunning_congr (f := fun t => takeMotionNotice c t) (g := effect (.motionFrameNotice c)) (fun _ => rfl) s
  | limitNotice c =>
    exact whenRunning_congr (f := fun t => takeLimitNotice c t) (g := effect (.limitNotice c)) (fun _ => rfl) s
  | evaluation c =>
    exact whenRunning_congr (f := fun t => takeEvaluation c t) (g := effect (.evaluation c)) (fun _ => rfl) s
  | craneConditionChange c =>
    exact whenRunning_congr (f := fun t => takeCraneCondition c t) (g := effect (.craneConditionChange c)) (fun _ => rfl) s
  | handshakeReport k =>
    exact whenRunning_congr (f := fun t => takeHandshake k t) (g := effect (.handshakeReport k)) (fun _ => rfl) s
  | beaconConditionChange c cond =>
    exact whenRunning_congr (f := fun t => t.showCondition c cond) (g := effect (.beaconConditionChange c cond)) (fun _ => rfl) s
  | positionStaleExpiry c =>
    exact whenRunning_congr (f := fun t => expirePosition c t) (g := effect (.positionStaleExpiry c)) (fun _ => rfl) s
  | windStaleExpiry c =>
    exact whenRunning_congr (f := fun t => expireWindStale c t) (g := effect (.windStaleExpiry c)) (fun _ => rfl) s
  | demandTimeoutExpiry c =>
    exact whenRunning_congr (f := fun t => expireDemand c t) (g := effect (.demandTimeoutExpiry c)) (fun _ => rfl) s
  | refreshExpiry c =>
    exact whenRunning_congr (f := fun t => expireRefresh c t) (g := effect (.refreshExpiry c)) (fun _ => rfl) s
  | keepTimerExpiry k c =>
    exact whenRunning_congr (f := fun t => expireKeep k c t) (g := effect (.keepTimerExpiry k c)) (fun _ => rfl) s
  | clearingExpiry k =>
    exact whenRunning_congr (f := fun t => expireClearing k t) (g := effect (.clearingExpiry k)) (fun _ => rfl) s
  | holdTimerExpiry k =>
    exact whenRunning_congr (f := fun t => expireHold k t) (g := effect (.holdTimerExpiry k)) (fun _ => rfl) s
  | recoveryExpiry c =>
    exact whenRunning_congr (f := fun t => expireRecovery c t) (g := effect (.recoveryExpiry c)) (fun _ => rfl) s
  | vaneDelayExpiry c =>
    exact whenRunning_congr (f := fun t => expireVaneDelay c t) (g := effect (.vaneDelayExpiry c)) (fun _ => rfl) s
  | vaneTimeoutExpiry c =>
    exact whenRunning_congr (f := fun t => expireVaneTimeout c t) (g := effect (.vaneTimeoutExpiry c)) (fun _ => rfl) s
  | beaconPhaseEnd n =>
    exact whenRunning_congr (f := fun t => t.endPhase n) (g := effect (.beaconPhaseEnd n)) (fun _ => rfl) s
  | tick holdLow =>
    exact whenRunning_congr (f := fun t => takeTick holdLow t) (g := effect (.tick holdLow)) (fun _ => rfl) s
  | siteClockAdvance =>
    exact whenRunning_congr (f := fun t => advanceClock t) (g := effect (.siteClockAdvance)) (fun _ => rfl) s
  | minuteBoundary =>
    exact whenRunning_congr (f := fun t => takeMinute t) (g := effect (.minuteBoundary)) (fun _ => rfl) s
  | siteHoldAsserted =>
    exact whenRunning_congr (f := fun t => assertHold t) (g := effect (.siteHoldAsserted)) (fun _ => rfl) s
  | siteHoldReleased =>
    exact whenRunning_congr (f := fun t => releaseHold t) (g := effect (.siteHoldReleased)) (fun _ => rfl) s
  | unknownOperationCode tag operation operands =>
    exact whenRunning_congr (f := fun t => request tag operation (fun u => refuse u .badValue) t) (g := effect (.unknownOperationCode tag operation operands)) (fun _ => rfl) s

/-- What any command answers: the effect at once for the reset's own, and otherwise that of `whenRunning`. -/
theorem exec_cases {i : Instr} {s t : State} (h : exec i s = .next t) :
    t = s ∨ t = effect i (settle s) ∨ t = effect i s := by
  by_cases h1 : ∃ trigger, i = .deviceReset trigger
  · obtain ⟨trigger, rfl⟩ := h1
    exact .inr (.inr (Host.Outcome.next.inj h).symm)
  by_cases h2 : i = .resetEnd
  · subst h2; exact .inr (.inr (Host.Outcome.next.inj h).symm)
  rw [exec_whenRunning i (fun t e => h1 ⟨t, e⟩) h2, whenRunning] at h
  have := (Host.Outcome.next.inj h).symm
  split at this
  · exact .inr (.inl this)
  · exact .inl this

end Sys2Proof.Machine
end

