-- ==== Sys2Proof/Laws/Notices.lean ====
section
/-! SUPPORT. What no event of a running device touches: the commands that wait, the reset and the count of short reset
pulses. -/

namespace Sys2Proof.Machine

/-- The fields that only a step and a reset change. -/
def State.outside (s : State) : List Instr × Option ResetCause × Nat := (s.pending, s.inReset, s.shortPulses)

theorem outside_of_butEntries {s t : State} (h : t.butEntries = s.butEntries) : t.outside = s.outside := by
  have := congrArg State.outside h; exact this
theorem outside_of_butWinds {s t : State} (h : t.butWinds = s.butWinds) : t.outside = s.outside := by
  have := congrArg State.outside h; exact this
theorem outside_of_butBookings {s t : State} (h : t.butBookings = s.butBookings) : t.outside = s.outside := by
  have := congrArg State.outside h; exact this
theorem outside_of_butArming {s t : State} (h : t.butArming = s.butArming) : t.outside = s.outside := by
  have := congrArg State.outside h; exact this
theorem outside_of_butPositions {s t : State} (h : t.butPositions = s.butPositions) : t.outside = s.outside := by
  have := congrArg State.outside h; exact this
theorem outside_of_butDetectors {s t : State} (h : t.butDetectors = s.butDetectors) : t.outside = s.outside := by
  have := congrArg State.outside h; exact this
theorem outside_of_butPermits {s t : State} (h : t.butPermits = s.butPermits) : t.outside = s.outside := by
  have := congrArg State.outside h; exact this
theorem outside_of_butGenerators {s t : State} (h : t.butGenerators = s.butGenerators) : t.outside = s.outside := by
  have := congrArg State.outside h; exact this

@[simp] theorem post_outside (s : State) (b : EventBody) : (s.post b).outside = s.outside := by
  simp [State.outside]
@[simp] theorem send_outside (s : State) (ns : List Notice) : (s.send ns).outside = s.outside := rfl

/-- The state an accepted operation leaves. -/
@[simp] theorem accept_state (s : State) (data : List Byte) : (accept s data).state = s := rfl
/-- The state a refused operation leaves. -/
@[simp] theorem refuse_state (s : State) (r : Result) : (refuse s r).state = s := rfl

variable (s : State)

theorem tableWrite_outside (ws : List Nat) (ops : List Byte) (f : List Nat → State → Answer)
    (h : ∀ fs, (f fs s).state.outside = s.outside) : (tableWrite ws ops f s).state.outside = s.outside := by
  unfold tableWrite
  split
  · rfl
  · split
    · exact h _
    · rfl

theorem withOperands_outside (ws : List Nat) (ops : List Byte) (f : List Nat → State → Answer)
    (h : ∀ fs, (f fs s).state.outside = s.outside) : (withOperands ws ops f s).state.outside = s.outside := by
  unfold withOperands
  split
  · exact h _
  · rfl

theorem makeAbsent_outside (c : Crane) : (makeAbsent c s).outside = s.outside := by
  unfold makeAbsent
  dsimp only
  rw [outside_of_butGenerators (State.refreshLines_butGenerators _)]
  have hp : (recomputePresence c none (loseAbsent c (s.setCrane c .absent))).outside = s.outside := by
    rw [outside_of_butPositions (recomputePresence_butPositions _ _ _),
      outside_of_butPositions (loseAbsent_butPositions _ _)]; rfl
  split
  · rw [outside_of_butWinds (selectSources_butWinds _ _)]; exact hp
  · exact hp

theorem makePresent_outside (c : Crane) (r : CraneRecord) : (makePresent c r s).outside = s.outside := by
  unfold makePresent
  dsimp only
  rw [outside_of_butGenerators (State.refreshLines_butGenerators _)]
  have hp : (recomputePresence c none (s.setCrane c r)).outside = s.outside := by
    rw [outside_of_butPositions (recomputePresence_butPositions _ _ _)]; rfl
  split
  · exact hp
  · rw [outside_of_butWinds (selectSources_butWinds _ _)]; exact hp

theorem putSector_outside (k : Sector) (r : SectorRecord) : (putSector k r s).outside = s.outside := by
  unfold putSector
  dsimp only
  have hp : ∀ skip, (recomputeMembers k (s.sector k).members skip (s.setSector k r)).outside = s.outside := by
    intro skip
    rw [outside_of_butPositions (recomputeMembers_butPositions _ _ _ _)]; rfl
  split
  · exact hp _
  · exact hp _

theorem writeSegments_outside (ops : List Byte) : (writeSegments ops s).state.outside = s.outside := by
  unfold writeSegments
  split
  · split
    · rfl
    · split
      · rfl
      · split
        · rfl
        · split
          · unfold takePart
            dsimp only
            split
            · rfl
            · split
              · unfold completeZone
                dsimp only
                split
                · rfl
                · exact (outside_of_butPositions (recomputePresence_butPositions _ _ _)).trans rfl
              · rfl
          · rfl
  · rfl

theorem craneCommand_outside (ops : List Byte) (f : Crane → State → Answer)
    (h : ∀ c, (f c s).state.outside = s.outside) : (craneCommand ops f s).state.outside = s.outside := by
  unfold craneCommand
  apply withOperands_outside
  intro fs
  dsimp only
  split
  · rfl
  · split
    · rfl
    · exact h _

theorem sectorCommand_outside (ops : List Byte) (f : Sector → State → State)
    (h : ∀ k, (f k s).outside = s.outside) : (sectorCommand ops f s).state.outside = s.outside := by
  unfold sectorCommand
  apply withOperands_outside
  intro fs
  dsimp only
  split
  · rfl
  · split
    · rfl
    · exact h _

theorem armSite_outside : (armSite s).outside = s.outside := by
  unfold armSite
  rw [post_outside, outside_of_butArming (armBookings_butArming _),
    outside_of_butEntries (setUpSectors_butEntries _)]; rfl

theorem disarmSite_outside : (disarmSite s).outside = s.outside := by
  unfold disarmSite
  rw [post_outside, outside_of_butPermits (issueAll_butPermits _), outside_of_butArming (disarmBookings_butArming _),
    outside_of_butEntries (clearSectors_butEntries _)]; rfl

theorem readRing_outside {n : Nat} [NeZero n] (c : Crane) (r : Ring n) (o : Nat) :
    (readRing s c r o).state.outside = s.outside := by
  unfold readRing; (repeat' split) <;> rfl

theorem writeSite_outside (ops : List Byte) : (writeSite ops s).state.outside = s.outside :=
  tableWrite_outside s _ _ _ (fun fs => by split <;> rfl)

theorem writeCrane_outside (ops : List Byte) : (writeCrane ops s).state.outside = s.outside := by
  refine tableWrite_outside s _ _ _ (fun fs => ?_)
  split
  · split
    · rfl
    · split
      · rw [accept_state, makeAbsent_outside]
      · split
        · split
          · split
            · rfl
            · rw [accept_state, makePresent_outside]
          · rfl
        · rfl
  · rfl

theorem writeSector_outside (ops : List Byte) : (writeSector ops s).state.outside = s.outside := by
  refine tableWrite_outside s _ _ _ (fun fs => ?_)
  split
  · split
    · rfl
    · split
      · rw [accept_state, putSector_outside]
      · split
        · split
          · rfl
          · rw [accept_state, putSector_outside]
        · rfl
  · rfl

theorem writeProfile_outside (ops : List Byte) : (writeProfile ops s).state.outside = s.outside := by
  refine tableWrite_outside s _ _ _ (fun fs => ?_)
  repeat' split
  · rfl
  · rfl
  · rw [accept_state, foldl_keeps State.outside (fun t c => t.setWind c (restartCounting (t.windOf c))) (fun _ _ => rfl)]; rfl

theorem writePattern_outside (ops : List Byte) : (writePattern ops s).state.outside = s.outside := by
  refine tableWrite_outside s _ _ _ (fun fs => ?_)
  repeat' split
  · rfl
  · rfl
  · rw [accept_state, outside_of_butGenerators (State.restartShowing_butGenerators _ _)]; rfl

theorem arm_outside (ops : List Byte) : (arm ops s).state.outside = s.outside := by
  unfold arm noOperands
  split
  · dsimp only
    split
    · rw [refuse_state]
    · split
      · rfl
      · rw [accept_state, armSite_outside]
  · rfl

theorem disarm_outside (ops : List Byte) : (disarm ops s).state.outside = s.outside := by
  unfold disarm noOperands
  split
  · dsimp only
    split
    · rw [refuse_state]
    · split
      · rw [refuse_state]
      · rw [accept_state, disarmSite_outside]
  · rfl

theorem bookAdd_outside (ops : List Byte) : (bookAdd ops s).state.outside = s.outside := by
  unfold bookAdd
  split
  · split
    · rfl
    · dsimp only
      split
      · rfl
      · split
        · rfl
        · split
          · rfl
          · split
            · rfl
            · split
              · rfl
              · rw [accept_state, outside_of_butBookings (addBooking_butBookings _ _)]
  · rfl

theorem bookCancel_outside (ops : List Byte) : (bookCancel ops s).state.outside = s.outside := by
  unfold bookCancel
  split
  · dsimp only
    split
    · rfl
    · split
      · rw [accept_state, outside_of_butBookings (cancelBooking_butBookings _ _)]
      · rfl
  · rfl

theorem bookPurge_outside (ops : List Byte) : (bookPurge ops s).state.outside = s.outside := by
  unfold bookPurge
  split <;> rfl

theorem vaneCrane_outside (ops : List Byte) : (vaneCrane ops s).state.outside = s.outside := by
  refine craneCommand_outside s _ _ (fun c => ?_)
  repeat' split
  · rfl
  · rfl
  · rw [accept_state, outside_of_butWinds (enterVanePending_butWinds _ _ _)]

theorem resumeOp_outside (ops : List Byte) : (resumeOp ops s).state.outside = s.outside := by
  refine craneCommand_outside s _ _ (fun c => ?_)
  repeat' split
  · rfl
  · rfl
  · rw [accept_state, outside_of_butWinds (resumeCrane_butWinds _ _)]

theorem readCrane_outside (ops : List Byte) : (readCrane ops s).state.outside = s.outside := by
  unfold readCrane
  dsimp only
  repeat' split
  all_goals rfl

theorem readSector_outside (ops : List Byte) : (readSector ops s).state.outside = s.outside := by
  unfold readSector
  repeat' split
  all_goals rfl

theorem readBookingOp_outside (ops : List Byte) : (readBookingOp ops s).state.outside = s.outside := by
  unfold readBookingOp
  repeat' split
  all_goals rfl

theorem readWind_outside (ops : List Byte) : (readWind ops s).state.outside = s.outside := by
  unfold readWind
  dsimp only
  repeat' split
  all_goals first | exact readRing_outside s _ _ _ | rfl

theorem readStatus_outside (ops : List Byte) : (readStatus ops s).state.outside = s.outside := by
  unfold readStatus
  repeat' split
  all_goals rfl

/-- No operation touches the outside. -/
theorem operationOf_outside {code : Byte} {f : List Byte → State → Answer} (h : operationOf code = some f)
    (ops : List Byte) : (f ops s).state.outside = s.outside := by
  unfold operationOf at h
  split at h <;> cases h
  · exact writeSite_outside s _
  · exact writeCrane_outside s _
  · exact writeSegments_outside s _
  · exact writeSector_outside s _
  · exact writeProfile_outside s _
  · exact writePattern_outside s _
  · exact arm_outside s _
  · exact disarm_outside s _
  · exact withOperands_outside s _ _ _ (fun fs => by rw [accept_state, setClock, outside_of_butBookings (evaluateWindows_butBookings _ _)]; rfl)
  · exact withOperands_outside s _ _ _ (fun fs => rfl)
  · exact bookAdd_outside s _
  · exact bookCancel_outside s _
  · exact bookPurge_outside s _
  · exact sectorCommand_outside s _ _ (fun k => outside_of_butEntries (closeSector_butEntries _ _))
  · exact sectorCommand_outside s _ _ (fun k => outside_of_butEntries (openSector_butEntries _ _))
  · exact vaneCrane_outside s _
  · exact resumeOp_outside s _
  · exact readCrane_outside s _
  · exact readSector_outside s _
  · exact readBookingOp_outside s _
  · exact readWind_outside s _
  · exact readStatus_outside s _

theorem handOn_outside (c : Crane) (f : State → State) (h : (f s).outside = s.outside) :
    (handOn c f s).outside = s.outside := by
  unfold handOn; split
  · exact h
  · rfl

theorem answerRequest_outside (tag code : Byte) (op : State → Answer) (h : (op s).state.outside = s.outside) :
    (answerRequest tag code op s).outside = s.outside := by
  unfold answerRequest; split
  · exact h
  · rfl

/-- No frame touches the outside. -/
theorem takeFrame_outside (f : GoodFrame) : (takeFrame f s).outside = s.outside := by
  cases f with
  | motion c m => exact handOn_outside s _ _ (outside_of_butPositions (takeMotion_butPositions _ _ _))
  | wind c w => exact handOn_outside s _ _ (outside_of_butWinds (takeWind_butWinds _ _ _))
  | demand c d => exact handOn_outside s _ _ (outside_of_butPermits (takeDemand_butPermits _ _ _))
  | request tag op operands =>
    apply answerRequest_outside
    cases h : operationOf op with
    | none => rfl
    | some f => exact operationOf_outside s h _

/-- No expiry touches the outside. -/
theorem expire_outside (e : Expiry) : (expire e s).outside = s.outside := by
  cases e with
  | positionStale c => exact outside_of_butPositions (expirePosition_butPositions _ _)
  | windStale c => exact outside_of_butWinds (expireWindStale_butWinds _ _)
  | demandTimeout c => exact outside_of_butPermits (expireDemand_butPermits _ _)
  | refresh c => exact outside_of_butPermits (expireRefresh_butPermits _ _)
  | keep k c => exact outside_of_butEntries (expireKeep_butEntries _ _ _)
  | clearing k => exact outside_of_butEntries (expireClearing_butEntries _ _)
  | hold k => exact outside_of_butEntries (expireHold_butEntries _ _)
  | recovery c => exact outside_of_butWinds (expireRecovery_butWinds _ _)
  | vaneDelay c => exact outside_of_butWinds (expireVaneDelay_butWinds _ _)
  | vaneTimeout c => exact outside_of_butWinds (expireVaneTimeout_butWinds _ _)
  | phaseEnd n => exact outside_of_butGenerators (State.endPhase_butGenerators _ _)

/-- No notice touches the outside. -/
theorem takeNotice_outside (n : Notice) : (takeNotice n s).outside = s.outside := by
  cases n with
  | frame f => exact takeFrame_outside s f
  | presence k c ch => exact outside_of_butEntries (reportPresence_butEntries _ _ _ _)
  | knock k c => exact outside_of_butEntries (knockSector_butEntries _ _ _)
  | claimant k left cl => exact outside_of_butEntries (changeClaimant_butEntries _ _ _ _)
  | lock k c => exact outside_of_butEntries (lockSector_butEntries _ _ _)
  | unlock k c => exact outside_of_butEntries (unlockSector_butEntries _ _ _)
  | liftCount id => exact outside_of_butBookings (takeLiftCount_butBookings _ _)
  | loadSample c x => exact outside_of_butDetectors (takeSample_butDetectors _ _ _)
  | motionTaken c => exact outside_of_butWinds (takeMotionNotice_butWinds _ _)
  | limit c => exact outside_of_butPermits (takeLimitNotice_butPermits _ _)
  | evaluation c => exact outside_of_butWinds (takeEvaluation_butWinds _ _)
  | craneCondition c => exact outside_of_butBookings (takeCraneCondition_butBookings _ _)
  | handshake k => exact outside_of_butWinds (takeHandshake_butWinds _ _)
  | beacon c cond => exact outside_of_butGenerators (State.showCondition_butGenerators _ _ _)
  | expiry e =>
    simp only [takeNotice]
    split
    · exact expire_outside s e
    · rfl
  | clockAdvance => simp only [takeNotice, advanceClock]; split <;> rfl
  | minuteBoundary => exact outside_of_butBookings (evaluateWindows_butBookings _ _)
  | holdAsserted =>
    simp only [takeNotice, assertHold]
    split
    · rfl
    · rw [outside_of_butPermits (issueAll_butPermits _), post_outside]; rfl
  | holdReleased =>
    simp only [takeNotice, releaseHold]
    split
    · rw [post_outside]; rfl
    · rfl
  | tickDone => rfl

/-- A frame begun touches nothing outside. -/
theorem beginSending_outside : (beginSending s).outside = s.outside := by
  unfold beginSending
  split
  · rfl
  · split <;> rfl

/-- The next piece of waiting work touches nothing outside. -/
theorem takeNext_outside : (takeNext s).outside = s.outside := by
  unfold takeNext
  split
  · exact beginSending_outside s
  · split
    · rfl
    · exact takeNotice_outside _ _

theorem settleFor_outside (n : Nat) : (settleFor n s).outside = s.outside := by
  induction n generalizing s with
  | zero => rfl
  | succ n ih =>
    simp only [settleFor]
    split
    · rfl
    · rw [ih, takeNext_outside]

/-- Settling touches nothing outside. -/
theorem settle_outside : (settle s).outside = s.outside := settleFor_outside s _

/-- Settling leaves the commands that wait. -/
theorem settle_pending : (settle s).pending = s.pending := congrArg Prod.fst (settle_outside s)

/-- Settling neither begins nor ends a reset. -/
theorem settle_inReset : (settle s).inReset = s.inReset := congrArg (fun x => x.2.1) (settle_outside s)

/-- What holds of a state and is kept by every notice and by a frame begun is kept by the next piece of waiting
work. -/
theorem takeNext_keeps (P : State → Prop) (hpop : ∀ (s : State) ns, P s → P { s with inFlight := ns })
    (hb : ∀ s, P s → P (beginSending s)) (h : ∀ n s, P s → P (takeNotice n s)) {s : State} (hs : P s) :
    P (takeNext s) := by
  unfold takeNext
  split
  · exact hb _ hs
  · split
    · exact hs
    · exact h _ _ (hpop _ _ hs)

/-- It holds once the work that waits has been done. -/
theorem settle_keeps (P : State → Prop) (hpop : ∀ (s : State) ns, P s → P { s with inFlight := ns })
    (hb : ∀ s, P s → P (beginSending s)) (h : ∀ n s, P s → P (takeNotice n s)) {s : State} (hs : P s) :
    P (settle s) := by
  have : ∀ n (s : State), P s → P (settleFor n s) := by
    intro n
    induction n with
    | zero => exact fun _ h => h
    | succ n ih =>
      intro s hs
      simp only [settleFor]
      split
      · exact hs
      · exact ih _ (takeNext_keeps P hpop hb h hs)
  exact this _ _ hs

end Sys2Proof.Machine
end

