-- ==== Sys2Proof/Laws/PerInstr.lean ====
section
/-! SUPPORT. What holds of every command as syntax: a well-formed request fits its frame, and its operation code is in
the operations table unless the command is UNKNOWN_OPERATION_CODE (R152, R159, R161). -/

namespace Sys2Proof.Laws.Fields

open Sys2Proof.Machine

/-- A well-formed request has at most 46 operand octets, and a code of the operations table exactly when it is not
UNKNOWN_OPERATION_CODE. -/
def Statement (i : Instr) : Prop :=
  ∀ tag operation operands, asRequest i = some (tag, operation, operands) → i.wellFormed = true →
    operands.length ≤ 46 ∧
    (knownOperations.contains operation.toNat = true ↔ ∀ t o p, i ≠ .unknownOperationCode t o p)

/-- A command that is no request. -/
theorem of_none {i : Instr} (h : asRequest i = none) : Statement i := by
  intro tag operation operands hr
  rw [h] at hr
  cases hr

/-- A request whose code is in the table. -/
theorem of_known {i : Instr} {tag operation : Byte} {operands : List Byte}
    (h : asRequest i = some (tag, operation, operands)) (hw : i.wellFormed = fitsRequest operands)
    (hk : knownOperations.contains operation.toNat = true) (hi : ∀ t o p, i ≠ .unknownOperationCode t o p) :
    Statement i := by
  intro tag2 operation2 operands2 hr hf
  rw [h] at hr
  cases hr
  rw [hw] at hf
  exact ⟨by simpa [fitsRequest] using hf, fun _ => hi, fun _ => hk⟩

theorem motion (crane : Crane) (frame : MotionFrame) : Statement (.motion crane frame) := of_none rfl
theorem wind (crane : Crane) (frame : WindFrame) : Statement (.wind crane frame) := of_none rfl
theorem demand (crane : Crane) (frame : DemandFrame) : Statement (.demand crane frame) := of_none rfl
theorem misdirectedFrame (link : Link) : Statement (.misdirectedFrame link) := of_none rfl
theorem lengthError (link : Link) (kind : Byte) (len : Byte) : Statement (.lengthError link kind len) := of_none rfl
theorem crcError (link : Link) (octets : List Byte) : Statement (.crcError link octets) := of_none rfl
theorem writeSite (tag : Byte) (operands : List Byte) : Statement (.writeSite tag operands) :=
  of_known rfl rfl (by decide) (by intro _ _ _ h; cases h)
theorem writeCrane (tag : Byte) (operands : List Byte) : Statement (.writeCrane tag operands) :=
  of_known rfl rfl (by decide) (by intro _ _ _ h; cases h)
theorem writeSegments (tag : Byte) (operands : List Byte) : Statement (.writeSegments tag operands) :=
  of_known rfl rfl (by decide) (by intro _ _ _ h; cases h)
theorem writeSector (tag : Byte) (operands : List Byte) : Statement (.writeSector tag operands) :=
  of_known rfl rfl (by decide) (by intro _ _ _ h; cases h)
theorem writeProfile (tag : Byte) (operands : List Byte) : Statement (.writeProfile tag operands) :=
  of_known rfl rfl (by decide) (by intro _ _ _ h; cases h)
theorem writePattern (tag : Byte) (operands : List Byte) : Statement (.writePattern tag operands) :=
  of_known rfl rfl (by decide) (by intro _ _ _ h; cases h)
theorem arm (tag : Byte) (operands : List Byte) : Statement (.arm tag operands) :=
  of_known rfl rfl (by decide) (by intro _ _ _ h; cases h)
theorem disarm (tag : Byte) (operands : List Byte) : Statement (.disarm tag operands) :=
  of_known rfl rfl (by decide) (by intro _ _ _ h; cases h)
theorem timeSet (tag : Byte) (operands : List Byte) : Statement (.timeSet tag operands) :=
  of_known rfl rfl (by decide) (by intro _ _ _ h; cases h)
theorem setMask (tag : Byte) (operands : List Byte) : Statement (.setMask tag operands) :=
  of_known rfl rfl (by decide) (by intro _ _ _ h; cases h)
theorem bookAdd (tag : Byte) (operands : List Byte) : Statement (.bookAdd tag operands) :=
  of_known rfl rfl (by decide) (by intro _ _ _ h; cases h)
theorem bookCancel (tag : Byte) (operands : List Byte) : Statement (.bookCancel tag operands) :=
  of_known rfl rfl (by decide) (by intro _ _ _ h; cases h)
theorem bookPurge (tag : Byte) (operands : List Byte) : Statement (.bookPurge tag operands) :=
  of_known rfl rfl (by decide) (by intro _ _ _ h; cases h)
theorem sectorClose (tag : Byte) (operands : List Byte) : Statement (.sectorClose tag operands) :=
  of_known rfl rfl (by decide) (by intro _ _ _ h; cases h)
theorem sectorOpen (tag : Byte) (operands : List Byte) : Statement (.sectorOpen tag operands) :=
  of_known rfl rfl (by decide) (by intro _ _ _ h; cases h)
theorem vane (tag : Byte) (operands : List Byte) : Statement (.vane tag operands) :=
  of_known rfl rfl (by decide) (by intro _ _ _ h; cases h)
theorem resume (tag : Byte) (operands : List Byte) : Statement (.resume tag operands) :=
  of_known rfl rfl (by decide) (by intro _ _ _ h; cases h)
theorem readCrane (tag : Byte) (operands : List Byte) : Statement (.readCrane tag operands) :=
  of_known rfl rfl (by decide) (by intro _ _ _ h; cases h)
theorem readSector (tag : Byte) (operands : List Byte) : Statement (.readSector tag operands) :=
  of_known rfl rfl (by decide) (by intro _ _ _ h; cases h)
theorem readStatus (tag : Byte) (operands : List Byte) : Statement (.readStatus tag operands) :=
  of_known rfl rfl (by decide) (by intro _ _ _ h; cases h)
theorem readBooking (tag : Byte) (operands : List Byte) : Statement (.readBooking tag operands) :=
  of_known rfl rfl (by decide) (by intro _ _ _ h; cases h)
theorem readWind (tag : Byte) (operands : List Byte) : Statement (.readWind tag operands) :=
  of_known rfl rfl (by decide) (by intro _ _ _ h; cases h)
theorem permitSendCompletion (crane : Crane) : Statement (.permitSendCompletion crane) := of_none rfl
theorem siteTransmitBegin : Statement (.siteTransmitBegin) := of_none rfl
theorem replyFrameCompletion : Statement (.replyFrameCompletion) := of_none rfl
theorem eventFrameCompletion : Statement (.eventFrameCompletion) := of_none rfl
theorem eventPosting (body : EventBody) : Statement (.eventPosting body) := of_none rfl
theorem presenceReport (sector : Sector) (crane : Crane) (change : PresenceChange) : Statement (.presenceReport sector crane change) :=
  of_none rfl
theorem knock (sector : Sector) (crane : Crane) : Statement (.knock sector crane) := of_none rfl
theorem bookedClaimantChange (sector : Sector) (left : List (Half × BookingState)) (claimant : Option Claimant) : Statement (.bookedClaimantChange sector left claimant) :=
  of_none rfl
theorem lockRequest (sector : Sector) (crane : Crane) : Statement (.lockRequest sector crane) := of_none rfl
theorem unlock (sector : Sector) (crane : Crane) : Statement (.unlock sector crane) := of_none rfl
theorem liftAttribution (crane : Crane) : Statement (.liftAttribution crane) := of_none rfl
theorem bookedLiftCount (booking : Half) : Statement (.bookedLiftCount booking) := of_none rfl
theorem loadSample (crane : Crane) (sample : Nat) : Statement (.loadSample crane sample) := of_none rfl
theorem motionFrameNotice (crane : Crane) : Statement (.motionFrameNotice crane) := of_none rfl
theorem limitNotice (crane : Crane) : Statement (.limitNotice crane) := of_none rfl
theorem evaluation (crane : Crane) : Statement (.evaluation crane) := of_none rfl
theorem craneConditionChange (crane : Crane) : Statement (.craneConditionChange crane) := of_none rfl
theorem handshakeReport (sector : Sector) : Statement (.handshakeReport sector) := of_none rfl
theorem beaconConditionChange (crane : Crane) (condition : BeaconCondition) : Statement (.beaconConditionChange crane condition) :=
  of_none rfl
theorem positionStaleExpiry (crane : Crane) : Statement (.positionStaleExpiry crane) := of_none rfl
theorem windStaleExpiry (crane : Crane) : Statement (.windStaleExpiry crane) := of_none rfl
theorem demandTimeoutExpiry (crane : Crane) : Statement (.demandTimeoutExpiry crane) := of_none rfl
theorem refreshExpiry (crane : Crane) : Statement (.refreshExpiry crane) := of_none rfl
theorem keepTimerExpiry (sector : Sector) (crane : Crane) : Statement (.keepTimerExpiry sector crane) := of_none rfl
theorem clearingExpiry (sector : Sector) : Statement (.clearingExpiry sector) := of_none rfl
theorem holdTimerExpiry (sector : Sector) : Statement (.holdTimerExpiry sector) := of_none rfl
theorem recoveryExpiry (crane : Crane) : Statement (.recoveryExpiry crane) := of_none rfl
theorem vaneDelayExpiry (crane : Crane) : Statement (.vaneDelayExpiry crane) := of_none rfl
theorem vaneTimeoutExpiry (crane : Crane) : Statement (.vaneTimeoutExpiry crane) := of_none rfl
theorem beaconPhaseEnd (line : BeaconLine) : Statement (.beaconPhaseEnd line) := of_none rfl
theorem tick (holdLow : Bool) : Statement (.tick holdLow) := of_none rfl
theorem siteClockAdvance : Statement (.siteClockAdvance) := of_none rfl
theorem minuteBoundary : Statement (.minuteBoundary) := of_none rfl
theorem siteHoldAsserted : Statement (.siteHoldAsserted) := of_none rfl
theorem siteHoldReleased : Statement (.siteHoldReleased) := of_none rfl
theorem deviceReset (trigger : ResetTrigger) : Statement (.deviceReset trigger) := of_none rfl
theorem resetEnd : Statement (.resetEnd) := of_none rfl
theorem unknownOperationCode (tag : Byte) (operation : Byte) (operands : List Byte) : Statement (.unknownOperationCode tag operation operands) := by
  intro tag2 operation2 operands2 hr hf
  cases hr
  simp only [Instr.wellFormed, fitsRequest, Bool.and_eq_true, Bool.not_eq_true', decide_eq_true_eq] at hf
  exact ⟨hf.2, fun h => absurd (hf.1.symm.trans h) (by decide), fun h => absurd rfl (h tag operation operands)⟩

end Sys2Proof.Laws.Fields
end

