-- ==== Sys2Proof/Laws/Steps.lean ====
section
/-! SUPPORT. What a step keeps, from what notices and commands keep, and what the shared operations do: a posting,
one event of a sector's entry, a permit issued. -/

namespace Sys2Proof.Machine

/-- A property that no notice and no command breaks, whatever commands wait and whatever is in flight, is kept by a
step. -/
theorem step_keeps (P : State → Prop) (hpop : ∀ (s : State) ps, P s → P { s with pending := ps })
    (hfl : ∀ (s : State) ns, P s → P { s with inFlight := ns })
    (hn : ∀ n s, P s → P (takeNotice n s)) (he : ∀ i s, P s → P (effect i s))
    {s t : State} (hs : P s) (h : step s = .next t) : P t := by
  unfold step at h
  split at h
  · rename_i c rest _
    have hs2 : P { s with pending := rest } := hpop s rest hs
    rcases exec_cases h with rfl | rfl | rfl
    · exact hs2
    · exact he _ _ (settle_keeps P hfl (he .siteTransmitBegin) hn hs2)
    · exact he _ _ hs2
  · cases h
    exact takeNext_keeps P hfl (he .siteTransmitBegin) hn hs

/-! ### Postings -/

/-- A masked kind is not queued. -/
theorem post_masked {s : State} {b : EventBody} (h : s.reports b.kind = false) : s.post b = s := by
  simp [State.post, h]

/-- A reported kind is queued with the clock while there is room. -/
theorem post_room {s : State} {b : EventBody} (h : s.reports b.kind = true) (hr : s.events.length < 32) :
    s.post b = { s with events := s.events ++ [{ body := b, time := s.clock, clockUnset := !s.clockSet }] } := by
  simp [State.post, h, Config.eventCapacity, hr]

/-- A reported kind that finds no room sets the overflow flag. -/
theorem post_full {s : State} {b : EventBody} (h : s.reports b.kind = true) (hr : 32 ≤ s.events.length) :
    s.post b = { s with overflow := true } := by
  simp [State.post, h, Config.eventCapacity, Nat.not_lt.mpr hr]

/-- A posting reads the queue, the overflow flag, the mask and the clock, and changes the first two. -/
theorem post_congr {s t : State} (b : EventBody) (he : t.events = s.events) (ho : t.overflow = s.overflow)
    (hm : t.mask = s.mask) (hc : t.clock = s.clock) (hu : t.clockSet = s.clockSet) :
    (t.post b).events = (s.post b).events ∧ (t.post b).overflow = (s.post b).overflow := by
  unfold State.post State.reports
  rw [he, hm]
  split
  · split <;> simp_all
  · exact ⟨he, ho⟩

/-- A posting changes the queue and the overflow flag only. -/
theorem post_eq (s : State) (b : EventBody) :
    s.post b = { s with events := (s.post b).events, overflow := (s.post b).overflow } := by
  unfold State.post
  split
  · split <;> rfl
  · rfl

/-- Postings read and change the same. -/
theorem postAll_congr (bs : List EventBody) : ∀ {s t : State}, t.events = s.events → t.overflow = s.overflow →
    t.mask = s.mask → t.clock = s.clock → t.clockSet = s.clockSet →
    (t.postAll bs).events = (s.postAll bs).events ∧ (t.postAll bs).overflow = (s.postAll bs).overflow := by
  induction bs with
  | nil => intro s t he ho _ _ _; exact ⟨he, ho⟩
  | cons b bs ih =>
    intro s t he ho hm hc hu
    have h := post_congr b he ho hm hc hu
    have hs := post_eq s b
    have ht := post_eq t b
    show ((t.post b).postAll bs).events = ((s.post b).postAll bs).events ∧ _
    refine ih h.1 h.2 ?_ ?_ ?_
    · rw [hs, ht]; exact hm
    · rw [hs, ht]; exact hc
    · rw [hs, ht]; exact hu

/-- Postings change the queue and the overflow flag only. -/
theorem postAll_eq (bs : List EventBody) : ∀ s : State,
    s.postAll bs = { s with events := (s.postAll bs).events, overflow := (s.postAll bs).overflow } := by
  induction bs with
  | nil => intro s; rfl
  | cons b bs ih =>
    intro s
    refine (ih (s.post b)).trans ?_
    show _ = { s with events := ((s.post b).postAll bs).events, overflow := ((s.post b).postAll bs).overflow }
    generalize ((s.post b).postAll bs).events = e
    generalize ((s.post b).postAll bs).overflow = o
    rw [post_eq s b]

/-! ### One event of a sector's entry -/

/-- A disabled sector's entry takes no event. -/
theorem entryEvent_disabled {s : State} {k : Sector} (h : (s.sector k).enabled = false)
    (f : SectorContext → SectorEntry → EntryStep) : entryEvent k f s = s := by
  simp [entryEvent, h]

/-- An enabled sector's entry becomes what the event makes of it, and raises the event's records. -/
theorem entryEvent_takes {s : State} {k : Sector} (h : (s.sector k).enabled = true)
    (f : SectorContext → SectorEntry → EntryStep) :
    s.EntryTakes (entryEvent k f s) k (f (s.sectorContext k) (s.entry k)).1
      (f (s.sectorContext k) (s.entry k)).2 := by
  unfold State.EntryTakes entryEvent
  rw [if_pos h]
  have hc := postAll_congr (f (s.sectorContext k) (s.entry k)).2
    (s := s) (t := s.setEntry k (f (s.sectorContext k) (s.entry k)).1) rfl rfl rfl rfl rfl
  have he := postAll_eq (f (s.sectorContext k) (s.entry k)).2 (s.setEntry k (f (s.sectorContext k) (s.entry k)).1)
  simp only
  rw [he, hc.1, hc.2]
  rfl

/-- The notices of an entry's event are those of R76. -/
theorem entryEvent_inFlight {s : State} {k : Sector} (h : (s.sector k).enabled = true)
    (f : SectorContext → SectorEntry → EntryStep) :
    (entryEvent k f s).inFlight = s.inFlight ++
      sectorNotices k (s.sector k).clash (s.entry k) (f (s.sectorContext k) (s.entry k)).1
        (f (s.sectorContext k) (s.entry k)).2 := by
  unfold entryEvent
  rw [if_pos h]
  have he := postAll_eq (f (s.sectorContext k) (s.entry k)).2 (s.setEntry k (f (s.sectorContext k) (s.entry k)).1)
  simp only [State.send]
  rw [he]
  rfl

/-! ### A permit issued -/

/-- The computation for a crane, and its permit issued, with the knocks of the computation. -/
theorem computeAndIssue_issues (s : State) (c : Crane) : s.Issues (computeAndIssue c s) c := by
  unfold State.Issues computeAndIssue issue
  simp only [State.assemble, State.setPermit, State.setSlot, State.send, placePermit, State.slot]
  have hb : ∀ w : WindState, (w == .vane) = decide (w = .vane) := fun _ => rfl
  cases h : (s.slots.read c).transmit <;>
    simp [h, State.permit, Bank.read, Bank.write, State.windOf, State.gustNumber, State.usedGust, State.advice,
      State.handshakeFailure, State.heldWith, State.queuedIn, State.heldBy, hb] <;> rfl

end Sys2Proof.Machine
end

