-- ==== Sys2Proof/Tests/Slice0.lean ====
section
/-! SUPPORT. Tests: the refusals of WellFormed, values taken from the manual's own examples, and for every statement
states and operands that meet its hypotheses. -/

namespace Sys2Proof.Tests

open Machine

/-! ### WellFormed refuses each ill-formed operand -/

theorem test_wf_lengthError : (Instr.lengthError 0 0x21#8 10#8).wellFormed = false := by decide
theorem test_wf_crcError_short : (Instr.crcError 0 [0x21#8]).wellFormed = false := by decide
theorem test_wf_crcError_good : (Instr.crcError 8 ((frameOctets 0x41#8 [1#8, 0x10#8]).drop 1)).wellFormed = false := by
  decide +kernel
theorem test_wf_request : (Instr.arm 0 (List.replicate 47 0#8)).wellFormed = false := by decide
theorem test_wf_posting : (Instr.eventPosting (eventOf .lift)).wellFormed = false := by decide
theorem test_wf_left_active : (Instr.bookedClaimantChange 0 [(1, .active)] none).wellFormed = false := by decide
theorem test_wf_left_none : (Instr.bookedClaimantChange 0 [(0, .expired)] none).wellFormed = false := by decide
theorem test_wf_claimant : (Instr.bookedClaimantChange 0 [] (some ⟨0, 1⟩)).wellFormed = false := by decide
theorem test_wf_lift : (Instr.bookedLiftCount 0).wellFormed = false := by decide
theorem test_wf_sample : (Instr.loadSample 0 8001).wellFormed = false := by decide
theorem test_wf_trigger : (Instr.deviceReset (.pinLow 0)).wellFormed = false := by decide
theorem test_wf_unknown : (Instr.unknownOperationCode 0 0x44#8 []).wellFormed = false := by decide

/-! ### The manual's own values -/

/-- R151: the CRC over the octets 31h to 39h is 29B1h. -/
theorem test_crc : crcOf [0x31, 0x32, 0x33, 0x34, 0x35, 0x36, 0x37, 0x38, 0x39] = 0x29B1#16 := by
  decide +kernel

/-- Section 3.4: with margin 40, band 400 and creep 50, a distance of 272 gives 601, and 271 gives 598. -/
theorem test_ramp : ramp ⟨40, 400, 50⟩ (some 272) = 601 ∧ ramp ⟨40, 400, 50⟩ (some 271) = 598 := by decide

/-- Section 3: a hoist distance of 31 over a margin of 30 gives 66, and 30 gives 0. -/
theorem test_ramp_hoist : ramp ⟨30, 150, 60⟩ (some 31) = 66 ∧ ramp ⟨30, 150, 60⟩ (some 30) = 0 := by decide

/-- Section 2.6, event a: raw angle 1000 with offset -292 gives 1292. -/
theorem test_angle : correctAngle 1000 (-292) = 1292 := by decide

/-- Section 2.6, event c: 251 is not newer than 252; event g: 3 is newer than 255. -/
theorem test_sequence : seqAccepted (some 252#8) 251#8 = false ∧ seqAccepted (some 255#8) 3#8 = true := by decide

/-! ### An ARMED site: eight cranes alike, and sector 0 shared by cranes 2, 3 and 4 (section 4.14) -/

def crane : CraneRecord :=
  { present := true, slewOffset := -292, jib := 600, parkRadius := 100, parkHeight := 200, profile := 0,
    beaconLine := some 0, slew := ⟨40, 400, 50⟩, trolley := ⟨20, 100, 80⟩, hoist := ⟨30, 150, 60⟩,
    pick := 150, setDown := 20, debounce := 1 }

def profile : WindProfile :=
  { gustWindow := 3, blockLength := 10, meanBlocks := 10, alertOn := 120, alertOff := 90, stopGust := 200,
    stopMean := 150, stopOff := 100, debounce := 1, recovery := 300, vaneMode := .auto, vaneDelay := 60,
    vaneTimeout := 600, alertCaps := ⟨600, 600, 600⟩, stopCaps := ⟨200, 200, 100⟩ }

def sector : SectorRecord :=
  { enabled := true, clash := .jib, members := [2, 3, 4], clearingTime := 200, holdLimit := 600, slice := 3 }

def position : PositionRecord :=
  { PositionRecord.reset with
    state := .tracked, seqRef := some 250, slewOk := true, trolleyOk := true, hoistOk := true, loadOk := true,
    angle := 1292, radius := 80, height := 250, stale := some 30 }

def wind : WindRecord :=
  { WindRecord.reset with
    state := .calm, source := .own, fresh := true, ownStale := some 300, ownGust := some 80, ownMean := some 70,
    seqRef := some 7, fine := { slots := Bank.fill 16 80, base := 0, fill := 1 }, accSum := 80, accCount := 1 }

def permit : PermitRecord :=
  { PermitRecord.reset with
    seqRef := some 39, echoed := 39, seq := 16, refresh := some 10, timeout := some 25, demandStale := false }

/-- A zone table with one arc shared in sector 0. -/
def sharedZone : List Segment :=
  [{ start := 1000, kind := .shared, sector := 0, rLo := 100, rHi := 600, floor := 0 },
   { start := 2000, kind := .own, sector := 0, rLo := 100, rHi := 600, floor := 0 }]

/-- A zone table without a barrier. -/
def ownZone : List Segment := [{ start := 0, kind := .own, sector := 0, rLo := 0, rHi := 600, floor := 0 }]

def site : State :=
  { State.reset with
    events := []
    cranes := Bank.fill 8 crane
    zones := (((Bank.fill 8 ownZone).write 2 sharedZone).write 3 sharedZone).write 4 sharedZone
    sectors := (Bank.fill 16 .disabled).write 0 sector
    profiles := (Bank.fill 4 .unwritten).write 0 profile, positions := Bank.fill 8 position
    winds := Bank.fill 8 wind, permits := Bank.fill 8 permit, mode := .armed, clock := 600, clockSet := true
    generators := (Bank.fill 8 Generator.heldOff).write 0
      { driver := some 7, condition := .off, phase := .on, left := some 5, cutShort := false } }

/-- The same in CONFIG. -/
def config : State := { site with mode := .config }

/-- The site with sector 0's entry. -/
def at0 (e : SectorEntry) : State := site.setEntry 0 e

def grant : Grant := { Grant.routineBy sector with sliceLeft := 1 }
def booked : Grant := Grant.bookedBy sector 71
def free : SectorEntry := SectorEntry.reset
def held : SectorEntry := { free with base := .held 2 grant, presence := [2] }
def clearing : SectorEntry := { free with base := .clearing 2 grant 200 }
def contested : SectorEntry := { free with base := .contested, presence := [2, 3] }
def locked : SectorEntry := { free with locks := [4] }
def closed : SectorEntry := { free with closed := true }
def waiting (c : Crane) : QueueEntry := { crane := c, keep := 30, resume := false }

def booking : Booking :=
  { id := 71, crane := 4, sector := 0, start := 5, stop := 20, quota := 2, cls := .planned, maxLoad := 400,
    state := .active, done := 1, cause := .window }

/-- Ready, with room for a reply, as a test. -/
def quiet (s : State) : Bool := s.inReset.isNone && s.atRest && decide (s.replies.length < 4)

/-- What the test stands for. -/
theorem quiet_iff (s : State) : quiet s = true ↔ s.Ready ∧ s.Room := by
  simp only [quiet, State.Ready, State.Room, Bool.and_eq_true, Option.isNone_iff_eq_none, atRest_iff,
    decide_eq_true_eq, and_assoc]

/-- After device reset, once STARTED has been sent. -/
def fresh : State := { State.reset with events := [] }

/-- An enabled sector in an ARMED site, as a test. -/
def running (s : State) : Bool := (s.sector 0).enabled && s.mode == .armed

/-- What the test stands for. -/
theorem running_iff (s : State) : running s = true ↔ s.Running 0 := by
  simp [running, State.Running]

/-- R64, R70 (section 4.14, step 8): the booking's crane is granted, and the preempted holder heads the queue. -/
theorem test_resume_claim :
    ((takeClearingExpiry ((at0 free).sectorContext 0)
      { clearing with
        base := .clearing 2 { grant with yielding := some .booking } 0
        queue := [waiting 3, waiting 4, waiting 2], claimant := some ⟨71, 4⟩ }).1.queue.map (·.crane),
      (takeClearingExpiry ((at0 free).sectorContext 0)
      { clearing with
        base := .clearing 2 { grant with yielding := some .booking } 0
        queue := [waiting 3, waiting 4, waiting 2], claimant := some ⟨71, 4⟩ }).1.base) =
    ([2, 3], .held 4 booked) := by decide

/-- Section 9.8, tick 0: the trolley demand of -1200 is clamped to -1000. -/
theorem test_demand_clamped : clampDemand (BitVec.ofInt 16 (-1200)) = -1000 := by decide

/-- Section 5.9, frame 2: a sample of 160 begins a cycle. -/
theorem test_pick : (applySample { crane with debounce := 2 } false 160 Detector.reset).1.state = .picking := by decide

/-- Section 5.9, frame 14: the third sample at or below 20 completes the lift. -/
theorem test_lift_completes :
    (applySample { crane with debounce := 2 } false 5 { Detector.reset with state := .setting, run := 2, peak := 420 }).2
      = true := by decide

/-- Section 7.8, step 2: crane 5 borrows from the lender with the highest own gust. -/
theorem test_lender :
    (({ site with
        cranes := (((Bank.fill 8 CraneRecord.absent).write 3 crane).write 4 crane).write 5 crane
        winds := ((site.winds.write 3 { wind with ownGust := some 148 }).write 4
          { wind with ownGust := some 142 }).write 5 { wind with fresh := false, ownGust := none } } : State).sourceFor 5)
      = .borrowed 3 := by decide

/-- R63: the holder's leaving begins the clearing interval. -/
theorem test_leave : ((reportPresence 0 2 .leave (at0 held)).entry 0).base = .clearing 2 grant 200 := by decide

/-- R78: in CONFIG a knock changes nothing. -/
theorem test_knock_config : knockSector 0 3 config = config := by decide

/-! ### What meets the hypotheses of the statements -/

/-- The site with crane 0's position record. -/
def placed (p : PositionRecord) : State := site.setPosition 0 p

/-- The site with crane 0's wind record. -/
def blown (w : WindRecord) : State := site.setWind 0 w

/-- The site with crane 0's detector record. -/
def loaded (d : Detector) : State := site.setDetector 0 d

/-- The site with crane 0's permit record. -/
def permitted (r : PermitRecord) : State := site.setPermit 0 r

/-- A step is taken and gives a next state. -/
def steps (s : State) : Bool :=
  match step s with
  | .next _ => true
  | _ => false

/-- A state with a tick waiting, from which every invariant's step is taken. -/
def ticking : State := { site with pending := [.tick false] }

/-- The state after a step that gives a next state. -/
def after (s : State) : State :=
  match step s with
  | .next t => t
  | _ => s

/-- A reply in the queue, and its frame on the line. -/
def sending : State :=
  { site with
    replies := [{ tag := 1, operation := 0x10, result := .ok, locator := 0, data := [] }]
    transmitter := some (.reply { tag := 1, operation := 0x10, result := .ok, locator := 0, data := [] }) }

/-- The same with an idle transmitter. -/
def idle : State := { sending with transmitter := none }

theorem test_meets_idleStep :
    (idle.pending = [] ∧ idle.transmitter = none ∧ idle.replies ≠ []) ∧
    (State.reset.pending = [] ∧ State.reset.transmitter = none ∧ State.reset.replies = [] ∧
      State.reset.events = [startedRecord .powerOn]) ∧
    (site.pending = [] ∧ site.inFlight = [] ∧ site.replies = [] ∧ site.events = []) ∧
    ([.clockAdvance, .limit 0, .craneCondition 1] : List Notice) =
      [.clockAdvance] ++ .limit 0 :: [.craneCondition 1] ∧
    (opensEvent (.limit 0) = false ∧ ∀ m ∈ [Notice.clockAdvance], opensEvent m = true) ∧
    (∀ m ∈ [Notice.clockAdvance, .clockAdvance], opensEvent m = true) := by decide

/-- A second of the device is an event of its own, and a limit notice is none. -/
theorem test_opens : Notice.clockAdvance.Opens ∧ ¬ (Notice.limit 0).Opens := by simp [Notice.Opens]

/-- Pieces of waiting work: a frame begun, a notice taken. -/
theorem test_works :
    (∃ t, idle.Works t) ∧ (∃ t, ({ sending with inFlight := [.clockAdvance, .limit 0] } : State).Works t) := by
  refine ⟨⟨_, .inl ⟨_, _, rfl, rfl, rfl⟩⟩, ⟨_, .inr (.inr ⟨?_, [.clockAdvance], .limit 0, [], rfl, .inl ⟨?_, ?_⟩, rfl⟩)⟩⟩
  · intro h; cases h
  · simp [Notice.Opens]
  · simp [Notice.Opens]

theorem test_meets_CommandsMeetAQuietDevice :
    (site.inReset = none ∧ (settle { site with inFlight := [.motionTaken 0] }).atRest = true) ∧
    (idle.inReset = none ∧ (settle idle).atRest = true) ∧
    ({ State.cleared with inReset := some .pin } : State).inReset ≠ none ∧
    (quiet site = true ∧ site.due (.positionStale 0) = false ∧
      quiet (site.setPosition 0 { position with stale := some 0 }) = true ∧
      (site.setPosition 0 { position with stale := some 0 }).due (.positionStale 0) = true ∧
      (site.position 0).stale ≠ some 0 ∧ noticeCommand (.limit 0) = some (.limitNotice 0)) := by decide +kernel

theorem test_meets_ResetBeginsAndEnds :
    1000 ≤ 1000 ∧ 999 < 1000 ∧ ({ State.cleared with inReset := some .pin } : State).inReset = some .pin := by decide

theorem test_meets_invariants :
    (ticking.QueuesBounded ∧ ticking.BookingsSound ∧ ticking.WindsSound ∧ ticking.SectorsIdle ∧
      ticking.PositionsSound ∧ ticking.PermitsSound ∧ ticking.EntriesSound ∧ ticking.DetectorsSound) ∧
    steps ticking = true := by
  refine ⟨⟨?_, ?_, ?_, ?_, ?_, ?_, ?_, ?_⟩, by decide +kernel⟩
  · unfold State.QueuesBounded; decide +kernel
  · unfold State.BookingsSound; decide +kernel
  · unfold State.WindsSound WindRecord.Sound; decide +kernel
  · unfold State.SectorsIdle; decide +kernel
  · unfold State.PositionsSound PositionRecord.Sound; decide +kernel
  · unfold State.PermitsSound PerAxis.WithinThousand; decide +kernel
  · unfold State.EntriesSound SectorEntry.Sound; decide +kernel
  · unfold State.DetectorsSound Detector.Sound; decide +kernel

theorem test_meets_FramesDiscarded :
    (quiet fresh = true ∧ (fresh.crane 0).present = false) ∧
    quiet site = true ∧ (site.crane 0).present = true ∧
    ((site.position 0).seqRef = some 250 ∧ (250#8 - 250#8).toNat = 0 ∧ 128 ≤ (122#8 - 250#8).toNat) ∧
    ((site.windOf 0).seqRef = some 7 ∧ (7#8 - 7#8).toNat = 0 ∧ 128 ≤ (135#8 - 7#8).toNat) ∧
    ((site.permit 0).seqRef = some 39 ∧ (39#8 - 39#8).toNat = 0 ∧ 128 ≤ (167#8 - 39#8).toNat) := by decide

theorem test_meets_DiscardedFrames : quiet site = true ∧ 0xC3#8 ∉ [0x21#8, 0x0A#8] := by decide

theorem test_meets_rescan :
    quiet site = true ∧ 0xC3#8 ∉ [0x21#8, 0x0A#8] ∧ 0xC3#8 ∉ [0#8] ∧ acceptsKind 0 0x22#8 = true ∧
    lengthIsError 0 0x22#8 4 = false ∧
    readPayload 0 [8, 0, 120, 1] =
      some (.wind 0 { seq := 8, speed := 120, anemometerOk := true }) := by decide

theorem test_meets_PermitSlots :
    quiet site = true ∧ (site.slot 0).transmit = none ∧
    (((computeAndIssue 0 site).slot 0).transmit.isSome ∧ ((computeAndIssue 0 site).craneLine 0).isSome) ∧
    (quiet config = true ∧ config.mode = .config ∧ (config.crane 0).present = true ∧
      (List.replicate 28 255#8).length = 28) := by decide +kernel

theorem test_meets_SiteTransmitter :
    (idle.inReset = none ∧ idle.inFlight = [] ∧ idle.transmitter = none ∧ idle.replies ≠ []) ∧
    (State.reset.inReset = none ∧ State.reset.inFlight = [] ∧ State.reset.transmitter = none ∧
      State.reset.replies = [] ∧ State.reset.events = [startedRecord .powerOn]) ∧
    (sending.inReset = none ∧ sending.inFlight = [] ∧ sending.transmitter ≠ none ∧ sending.replies ≠ []) ∧
    (fresh.transmitter = none ∧ fresh.replies = [] ∧ fresh.events = []) ∧
    ((∀ r, fresh.transmitter ≠ some (.reply r)) ∧ ∀ e v, sending.transmitter ≠ some (.event e v)) ∧
    ({ State.reset with transmitter := some (.event (startedRecord .powerOn) false) } : State).transmitter =
      some (.event (startedRecord .powerOn) false) := by
  refine ⟨by decide, by decide, by decide, by decide, ⟨?_, ?_⟩, by decide⟩
  · intro r h; cases h
  · intro e v h; cases h

/-- R156: what the completion of a reply leaves idle is begun before the next command has its effect: the event that
waits goes before the reply that the command brings. -/
theorem test_event_before_later_reply :
    (match (after { sending with
        events := [startedRecord .pin], pending := [.replyFrameCompletion, .readSector 7 [0]] }).transmitter with
      | none => true | some _ => false) = true ∧
    (after (after { sending with
      events := [startedRecord .pin]
      pending := [.replyFrameCompletion, .readSector 7 [0]] })).transmitter =
        some (.event (startedRecord .pin) false) := by decide +kernel

/-- R150: the octet C3h on a line, and the octets heard with the line idle before and between them and one stop bit
low. -/
theorem test_octets :
    octetLevels 0xC3#8 = [false, true, true, false, false, false, false, true, true, true] ∧
    octetsHeard (true :: octetLevels 0xC3#8 ++ (octetLevels 0x21#8).take 9 ++ [false] ++ true :: octetLevels 0x0A#8) =
      [0xC3#8, 0x21#8, 0x0A#8] := by decide

/-- A good WIND frame on the line of crane 0, its last octet after its others. -/
def windFrame : List (Nat × Byte × Bool) := (frameOctets 0x22#8 [8, 0, 120, 1]).map (fun b => (2, b, true))

theorem test_meets_LinesCarryOctets :
    ((computeAndIssue 0 site).craneLine 0).isSome = true ∧ site.craneLine 0 = none ∧ sending.siteLine.isSome = true ∧
    [true, false, true].length < 10 ∧ site.receiver 0 = { state := .hunt, store := [] } ∧
    acceptsKind 0 0x22#8 = true ∧ lengthIsError 0 0x22#8 4 = false ∧
    readPayload 0 [8, 0, 120, 1] = some (.wind 0 { seq := 8, speed := 120, anemometerOk := true }) ∧
    (windFrame.take 8 ++ windFrame.drop 8).map (·.2.1) = frameOctets 0x22#8 [8, 0, 120, 1] ∧
    windFrame.drop 8 ≠ [] ∧ sending.transmitter = some (.reply ⟨1, 0x10, .ok, 0, []⟩) ∧ site.transmitter = none ∧
    ({ site with transmitter := some (.event (startedRecord .pin) false) } : State).transmitter =
      some (.event (startedRecord .pin) false) := by decide +kernel

theorem test_meets_requests :
    (asRequest (.arm 1 []) = some (1, 0x10#8, []) ∧
      4 ≤ ({ sending with replies := List.replicate 4 { tag := 1, operation := 0x10, result := .ok, locator := 0,
                                                        data := [] } } : State).replies.length ∧
      ({ sending with replies := List.replicate 4 { tag := 1, operation := 0x10, result := .ok, locator := 0,
                                                    data := [] } } : State).atRest = true) ∧
    (quiet site = true ∧ asRequest (.writeSite 1 [0]) = some (1, 0x01#8, [0]) ∧ operandCount 0x01#8 = some 12) ∧
    ([0#8, 0].length < 3 ∧ ([0#8, 0, 0, 0].length - 3) % 7 ≠ 0) ∧
    (quiet site = true ∧ site.mode = .armed ∧ (List.replicate 12 0#8).length = 12 ∧
      (List.replicate 30 0#8).length = 30 ∧ (List.replicate 13 0#8).length = 13 ∧
      (List.replicate 34 0#8).length = 34 ∧ (List.replicate 4 0#8).length = 4 ∧
      (3 ≤ (List.replicate 3 0#8).length ∧ ((List.replicate 3 0#8).length - 3) % 7 = 0)) := by decide

theorem test_meets_SiteParametersWritten :
    quiet config = true ∧ config.mode = .config ∧
    (SiteParams.InRange ⟨1000, 2, 10, 2, 1, 1⟩ ∧ SiteParams.InRange ⟨400000, 1000, 6000, 1000, 100, 255⟩) ∧
    ¬ SiteParams.InRange ⟨999, 2, 10, 2, 1, 1⟩ ∧ ¬ SiteParams.InRange ⟨1000, 2, 10, 2, 101, 1⟩ := by
  unfold SiteParams.InRange; decide

theorem test_meets_EventMask :
    quiet site = true ∧ ({ site with mask := 0 } : State).reports .lift = false ∧ site.reports .lift = true ∧
    ({ sending with events := List.replicate 31 (startedRecord .pin) } : State).events.length < 32 ∧
    (32 ≤ ({ sending with events := List.replicate 32 (startedRecord .pin) } : State).events.length ∧
      quiet { sending with events := List.replicate 32 (startedRecord .pin) } = true) ∧
    steps { config with pending := [.writeSite 1 []] } = true := by decide +kernel

theorem test_meets_patterns :
    quiet config = true ∧ config.mode = .config ∧
    (BeaconPattern.InRange ⟨255, 0, 128⟩ ∧ BeaconPattern.InRange ⟨0, 255, 1⟩ ∧ ¬ BeaconPattern.InRange ⟨1, 1, 3⟩) ∧
    5 < 6 ∧ 255 < 256 := by
  unfold BeaconPattern.InRange; decide

theorem test_meets_ProfileWritten :
    quiet config = true ∧ config.mode = .config ∧ profile.InRange ∧
    (¬ WindProfile.unwritten.InRange ∧ WindProfile.unwritten.Fits) ∧
    ¬ ({ profile with alertOff := 120 } : WindProfile).InRange ∧
    (3 < 4 ∧ 255 < 256 ∧ (List.replicate 33 0#8).length = 33) ∧ (fresh.crane 0).profile = 0 := by
  unfold WindProfile.InRange WindProfile.Fits
  refine ⟨?_, ?_, ?_, ?_, ?_, ?_, ?_⟩ <;> decide

theorem test_meets_CraneWritten :
    quiet config = true ∧ config.mode = .config ∧ crane.InRange ∧
    (({ crane with slewOffset := -4096, jib := 100, parkRadius := 100 } : CraneRecord).InRange ∧
      ({ crane with slewOffset := 4095, jib := 1000, pick := 8000, setDown := 7999 } : CraneRecord).InRange) ∧
    (¬ ({ crane with parkRadius := 601 } : CraneRecord).InRange ∧
      ({ crane with parkRadius := 601 } : CraneRecord).Fits ∧ crane.present = true) ∧
    (7 < 8 ∧ (List.replicate 29 0#8).length = 29) := by
  unfold CraneRecord.InRange CraneRecord.Fits
  refine ⟨?_, ?_, ?_, ⟨?_, ?_⟩, ⟨?_, ?_, ?_⟩, ?_⟩ <;> decide

theorem test_meets_CraneMadeAbsent :
    quiet config = true ∧ config.mode = .config ∧ (config.crane 0).present = true ∧
    (config.position 0).state = .tracked ∧ config.reports .positionLost = true ∧ config.events.length < 32 ∧
    (List.replicate 28 0#8).length = 28 ∧
    (quiet fresh = true ∧ fresh.mode = .config ∧ (fresh.crane 0).present = false ∧
      (fresh.position 0).state = .none) := by
  decide

theorem test_meets_SectorWritten :
    quiet config = true ∧ config.mode = .config ∧
    (sector.InRange ∧ ({ sector with members := [0, 1, 2, 3], clearingTime := 6000, holdLimit := 3600, slice := 63 } :
      SectorRecord).InRange) ∧
    (¬ ({ sector with members := [2, 2] } : SectorRecord).InRange ∧ sector.enabled = true ∧
      ({ sector with members := [2, 2] } : SectorRecord).Fits) ∧ 15 < 16 := by
  unfold SectorRecord.InRange SectorRecord.Fits; decide

/-- A segment of the reserved kind code, and three parts of a list. -/
def reservedKind : RawSegment := { start := 0, kindCode := 3, sector := 0, rLo := 0, rHi := 1, floor := 0 }
def openSegment : RawSegment := { start := 0, kindCode := 0, sector := 0, rLo := 0, rHi := 600, floor := 0 }
def barredSegment : RawSegment :=
  { start := 8191, kindCode := 2, sector := 15, rLo := 999, rHi := 1000, floor := 3000 }
def six : List RawSegment := List.replicate 6 openSegment
def assembling : State := { config with assembly := some { crane := 0, count := 8, segments := six } }

theorem test_meets_SegmentsWritten :
    quiet config = true ∧ config.mode = .config ∧
    ((∀ g ∈ six ++ [openSegment, barredSegment], g.InRange) ∧
      (∀ g ∈ six ++ [openSegment, barredSegment], g.Fits) ∧ reservedKind.Fits ∧ ¬ reservedKind.InRange ∧
      ¬ ({ openSegment with rHi := 0 } : RawSegment).InRange) ∧
    (([] : List RawSegment).length ∈ [0, 6, 12] ∧ six.length = min 6 (8 - 0) ∧ 0 + six.length < 8) ∧
    (six.length ∈ [0, 6, 12] ∧ [openSegment, barredSegment].length = min 6 (8 - six.length) ∧
      six.length + [openSegment, barredSegment].length = 8 ∧ quiet assembling = true ∧
      assembling.assembly = some { crane := 0, count := 8, segments := six }) ∧
    ((0 : Nat) < 1 ∧ 16 < 17 ∧ 5 ∉ [0, 6, 12] ∧ 6 ≤ 6 ∧ [openSegment].length ≠ min 6 (8 - 6)) ∧
    (six ≠ [] ∧ config.assembly = none ∧ (0 : Crane) ≠ 1 ∧ (8 : Nat) ≠ 9 ∧ six.length ≠ (six ++ six).length) := by
  unfold RawSegment.InRange RawSegment.Fits
  refine ⟨?_, ?_, ?_, ?_, ?_, ?_, ?_⟩ <;> decide +kernel

/-- After device reset the first test fails, and it is the lowest. -/
theorem test_meets_ArmingTestsRefuse_first :
    quiet fresh = true ∧ fresh.mode = .config ∧ fresh.FailsTest 1 255 0 ∧
    ∀ code a b, fresh.FailsTest code a b →
      1 < code ∨ (1 = code ∧ (255 < a ∨ (255 = a ∧ 0 ≤ b))) := by
  refine ⟨by decide, by decide, ⟨rfl, rfl, by decide⟩, ?_⟩
  intro code a b h
  match code, h with
  | 0, h => exact h.elim
  | 1, h => exact .inr ⟨rfl, .inr ⟨h.1.symm, Nat.zero_le _⟩⟩
  | n + 2, _ => exact .inl (by omega)

/-- The site in CONFIG passes every test. -/
theorem test_meets_ArmingTestsRefuse_none :
    quiet config = true ∧ config.mode = .config ∧ ∀ code a b, ¬ config.FailsTest code a b := by
  have short : ∀ c, (config.zone c).length ≤ 2 := by decide +kernel
  have inside : ∀ {c b g}, (config.zone c)[b]? = some g → b = 0 ∨ b = 1 := by
    intro c b g h
    obtain ⟨hb, -⟩ := List.getElem?_eq_some_iff.mp h
    have := short c
    omega
  refine ⟨by decide, by decide, ?_⟩
  intro code a b h
  match code, h with
  | 0, h => exact h
  | 1, ⟨_, _, h⟩ => exact absurd (h 0) (by decide)
  | 2, ⟨_, c, ha, _, h⟩ => clear ha; revert c; decide +kernel
  | 3, ⟨_, c, ha, _, h⟩ => clear ha; revert c; decide +kernel
  | 4, ⟨c, _, _, g, hg, _, f, hf, hle⟩ =>
    obtain rfl | rfl := inside hg
    · contradiction
    · have : ∀ c : Crane, ∀ g ∈ (config.zone c)[1]?, ∀ f ∈ (config.zone c)[0]?, ¬ g.start ≤ f.start := by
        decide +kernel
      exact this c g hg f hf hle
  | 5, ⟨c, _, _, g, hg, h⟩ =>
    have : ∀ c : Crane, ∀ g ∈ config.zone c, ¬ (config.crane c).jib < g.rHi := by decide +kernel
    exact this c g (List.mem_of_getElem? hg) h
  | 6, ⟨c, _, _, g, hg, h, h'⟩ =>
    have : ∀ c : Crane, ∀ g ∈ config.zone c, g.kind = .shared →
        (config.sector g.sector).enabled = true ∧ c ∈ (config.sector g.sector).members := by decide +kernel
    exact h' ⟨h, this c g (List.mem_of_getElem? hg) h⟩
  | 7, ⟨_, k, ha, hk, h⟩ => clear ha; revert k; decide +kernel
  | 8, ⟨_, c, ha, _, h⟩ => clear ha; revert c; decide +kernel
  | 9, ⟨c, _, _, g, hg, ⟨h, _⟩, h', _⟩ =>
    have : ∀ c : Crane, ∀ g ∈ config.zone c, g.kind = .shared → (config.sector g.sector).clash ≠ .hook := by
      decide +kernel
    exact this c g (List.mem_of_getElem? hg) h h'
  | 10, ⟨_, k, ha, _, h⟩ => clear ha; revert k; decide +kernel

theorem test_meets_ArmAndDisarm :
    (quiet config = true ∧ config.mode = .config ∧ config.checkFailure = none) ∧
    (fresh.mode = .config ∧ fresh.checkFailure = some 511) ∧ site.mode = .armed ∧
    (∀ c, (site.crane c).present = true →
      (site.windOf c).state ≠ .vanePending ∧ (site.windOf c).state ≠ .vane) ∧
    ((blown { wind with state := .vane }).mode = .armed ∧
      ((blown { wind with state := .vane }).windOf 0).state = .vane) := by decide +kernel

theorem test_meets_Reads :
    quiet site = true ∧
    ({ site with bookings := [booking] } : State).bookings = [booking] ∧ ([booking].map (·.id)).Nodup ∧
    (∀ b ∈ [booking], b.id ≠ 72) := by decide

theorem test_meets_BookAdd :
    quiet site = true ∧ ((site.crane 4).present = true ∧ site.isMember 0 4 = true) ∧ booking.InRange ∧
    (({ booking with stop := 10085 } : Booking).InRange ∧ ¬ ({ booking with stop := 10086 } : Booking).InRange) ∧
    ¬ ({ booking with id := 0 } : Booking).InRange ∧ booking.Fits ∧
    site.isMember 0 5 = false ∧ (site.clockSet = true ∧ site.clock.toNat / 60 < booking.stop) ∧
    ({ booking with stop := 10 } : Booking).stop ≤ site.clock.toNat / 60 ∧
    64 ≤ (List.replicate 64 booking).length ∧
    (7 < 8 ∧ 15 < 16 ∧ 1 < 2 ∧ [1#8, 0#8].length = 2 ∧ (List.replicate 12 0#8).length = 12) := by
  unfold Booking.InRange Booking.Fits; decide

theorem test_meets_bookings :
    quiet site = true ∧ ([booking].map (·.id)).Nodup ∧
    (¬ terminal booking.state ∧ terminal ({ booking with state := .expired } : Booking).state) ∧
    claimantOf [booking] 0 = some booking ∧ (∀ b ∈ [booking], b.id ≠ 72) ∧ [booking].length ≤ 64 ∧
    (booking.state = .active ∧ min (booking.done + 1) 65535 = booking.quota ∧ booking.quota ≠ 0) ∧
    (({ booking with quota := 0 } : Booking).quota = 0 ∧ min (0 + 1) 65535 ≠ booking.quota) ∧
    (({ booking with state := .waiting } : Booking).state ≠ .active) := by
  unfold terminal; decide

theorem test_meets_WindowsEvaluated :
    quiet site = true ∧ site.clockSet = true ∧ fresh.clockSet = false ∧ quiet fresh = true := by decide

theorem test_meets_ClaimantComesFirst :
    ([booking, { booking with id := 70, cls := .critical }].map (·.id)).Nodup ∧
    claimantOf [booking, { booking with id := 70, cls := .critical }] 0 =
      some { booking with id := 70, cls := .critical } ∧ claimantOf [booking] 1 = none := by decide

/-- The states of sector 0 in which an event meets it. -/
theorem test_meets_sectorStates :
    (quiet (at0 free) = true ∧ running (at0 free) = true ∧ (at0 free).sectorState 0 = .free) ∧
    (quiet (at0 held) = true ∧ running (at0 held) = true ∧ (at0 held).sectorState 0 = .held ∧
      ((at0 held).entry 0).base = .held 2 grant) ∧
    (quiet (at0 clearing) = true ∧ running (at0 clearing) = true ∧ (at0 clearing).sectorState 0 = .clearing ∧
      ((at0 clearing).entry 0).base = .clearing 2 grant 200) ∧
    (quiet (at0 contested) = true ∧ running (at0 contested) = true ∧ (at0 contested).sectorState 0 = .contested ∧
      2 ≤ ((at0 contested).entry 0).presence.length) ∧
    (quiet (at0 locked) = true ∧ running (at0 locked) = true ∧ (at0 locked).sectorState 0 = .locked ∧
      ownerOf ((at0 locked).entry 0) = none) ∧
    (quiet (at0 closed) = true ∧ running (at0 closed) = true ∧ (at0 closed).sectorState 0 = .closed ∧
      ownerOf ((at0 closed).entry 0) = none) ∧
    (quiet config = true ∧ (config.sector 0).enabled = true ∧ config.mode = .config ∧
      config.sectorState 0 = .free ∧ ownerOf (config.entry 0) = none) ∧
    (quiet fresh = true ∧ (fresh.sector 0).enabled = false) := by decide +kernel

/-- Each of those states keeps its state, but FREE. -/
theorem test_meets_KeepsState :
    (at0 held).KeepsState 0 ∧ (at0 clearing).KeepsState 0 ∧ (at0 contested).KeepsState 0 ∧
    (at0 locked).KeepsState 0 ∧ (at0 closed).KeepsState 0 := by
  unfold State.KeepsState; decide +kernel

theorem test_meets_PresenceReports :
    (PresenceChange.leave ∈ [PresenceChange.leave, .obstruct, .obstructLeave]) ∧
    (PresenceChange.enter ∉ [PresenceChange.leave, .obstruct, .obstructLeave]) ∧ (3 : Crane) ≠ 2 := by decide

theorem test_meets_Knock :
    (3 ∈ (site.sector 0).members ∧ 5 ∉ (site.sector 0).members ∧ holderOf held = some 2 ∧ 4 ∈ locked.locks) ∧
    (ownerOf clearing = some 2 ∧ clearing.queue = [] ∧ clearing.claimant = none) ∧
    (queued { held with queue := [waiting 3] } 3 = true ∧ queued held 3 = false) ∧
    3 ≤ [waiting 1, waiting 0, waiting 4].length ∧
    (hasWaiter { held with queue := [waiting 4] } = true ∧ grantOf free = none) ∧
    (hasWaiter held = false ∧ ownerOf held = some 2 ∧ grantOf held = some grant) ∧
    (queued { free with obstruction := [4], queue := [waiting 3] } 3 = true ∧
      (at0 { free with obstruction := [4], queue := [waiting 3] }).sectorState 0 = .free) := by decide +kernel

theorem test_meets_ClaimantChange :
    ((72#16, BookingState.active) ∈ [(72#16, BookingState.active)] ∧ (⟨73, 2⟩ : Claimant).crane = 2 ∧
      (⟨73, 4⟩ : Claimant).crane ≠ 2) ∧
    (ownerOf held = some 2 ∧ grantOf held = some grant ∧ grant.kind = .routine ∧
      (⟨71, 4⟩ : Claimant).crane ≠ 2 ∧ (⟨71, 2⟩ : Claimant).crane = 2) ∧
    (grantOf { held with base := .held 2 booked } = some booked ∧ booked.kind = .booked 71 ∧
      (72#16, BookingState.expired) ∉ [(71#16, BookingState.exhausted)] ∧
      ((71#16, BookingState.exhausted) ∈ [(71#16, BookingState.exhausted)])) ∧
    ({ held with base := .held 2 booked, claimant := some ⟨71, 2⟩ } : SectorEntry).claimant =
      some { booking := 71, crane := 2 } := by decide

theorem test_meets_LocksAndClosures :
    (config.mode = .config ∧ (config.sector 0).enabled = true ∧ 5 ∉ (site.sector 0).members) ∧
    (held.closed = false ∧ (at0 held).locksOf 0 = [] ∧ 4 ∈ (site.sector 0).members) ∧
    ((at0 locked).locksOf 0 ≠ [] ∧ ({ locked with locks := locked.locks.filter (· != 4) } : SectorEntry).locks = []) ∧
    (({ locked with locks := [4, 3] } : SectorEntry).locks.filter (· != 4) ≠ []) ∧
    (closed.closed = true ∧ (at0 closed).locksOf 0 = [] ∧
      (at0 { locked with closed := true }).locksOf 0 ≠ []) ∧ 15 < (16#8).toNat ∧ 15 < (255#8).toNat := by
  decide +kernel

/-- The site with crane 2 present in sector 0, whose entry is `e`. -/
def inside (e : SectorEntry) : State := (at0 e).setPosition 2 { position with present := some 0 }

theorem test_meets_LiftsAttributedAndCounted :
    (quiet site = true ∧ (site.position 2).present = none) ∧
    (quiet (inside free) = true ∧ ((inside free).position 2).present = some 0 ∧
      holderOf ((inside free).entry 0) ≠ some 2) ∧
    (((inside held).entry 0).base = .held 2 grant ∧ grant.kind = .routine ∧ grant.sliceLeft = 1 ∧
      (site.sector 0).slice ≠ 0 ∧ (inside held).mode = .armed ∧ (inside held).sectorState 0 = .held) ∧
    (hasWaiter held = false ∧ hasWaiter { held with queue := [waiting 3] } = true) ∧
    (({ grant with sliceLeft := 0 } : Grant).sliceLeft = 0) ∧ booked.kind = .booked 71 := by decide +kernel

theorem test_meets_SectorTimers :
    (queued free 2 = false ∧ queued { held with queue := [waiting 3] } 3 = true) ∧
    (grant.kind = .routine ∧ ({ grant with yielding := some .booking } : Grant).yielding = some .booking) ∧
    (grant.hold ≠ none ∧ booked.hold = none) ∧
    (hasWaiter { held with queue := [waiting 3] } = true ∧ hasWaiter held = false) := by decide

theorem test_meets_NoNewGrant :
    steps { at0 { held with obstruction := [3] } with pending := [.knock 0 4] } = true ∧
    quiet (at0 { held with obstruction := [3] }) = true ∧
    ((takeNext (at0 { held with obstruction := [3] })).entry 0).obstruction ≠ [] ∧
    holderOf { held with obstruction := [3] } = some 2 := by decide +kernel

theorem test_meets_Motion :
    quiet site = true ∧ (site.crane 0).present = true ∧ (site.position 0).seqRef = some 250 ∧
    (1 ≤ (251#8 - 250#8).toNat ∧ (251#8 - 250#8).toNat ≤ 127) ∧
    (1 ≤ (121#8 - 250#8).toNat ∧ (121#8 - 250#8).toNat ≤ 127) := by decide

theorem test_meets_StaleTimers :
    quiet site = true ∧ (site.position 0).stale ≠ none ∧ (site.windOf 0).ownStale ≠ none ∧
    (fresh.position 0).stale = none ∧ (fresh.windOf 0).ownStale = none := by decide

theorem test_meets_LoadSample :
    quiet site = true ∧ (site.detector 0).state = .unloaded ∧ site.noPick 0 = false ∧
    (149 < (site.crane 0).pick ∧ (site.crane 0).pick ≤ 150 ∧ (site.crane 0).debounce ≠ 0) ∧
    ((loaded { Detector.reset with state := .picking, run := 1 }).detector 0).state = .picking ∧
    ((loaded { Detector.reset with state := .loaded }).detector 0).state = .loaded ∧
    ((loaded { Detector.reset with state := .setting, run := 1 }).detector 0).state = .setting ∧
    (20 ≤ (site.crane 0).setDown ∧ (site.crane 0).setDown < 21) ∧
    ((site.crane 0).debounce ≤ 1 ∧ 0 < (site.crane 0).debounce) ∧
    ({ crane with debounce := 0 } : CraneRecord).debounce = 0 ∧
    (blown { wind with state := .stop }).noPick 0 = true := by decide +kernel

theorem test_meets_WindSample :
    quiet site = true ∧ (site.crane 0).present = true ∧ (site.windOf 0).seqRef = some 7 ∧
    (1 ≤ (8#8 - 7#8).toNat ∧ (134#8 - 7#8).toNat ≤ 127) ∧ profileValid (site.profileOf 0) = true ∧
    profileValid (fresh.profileOf 0) = false := by decide

theorem test_meets_Evaluation :
    (quiet site = true ∧ (site.crane 0).present = true ∧ profileValid (site.profileOf 0) = true) ∧
    ((site.windOf 0).state = .calm ∧ (site.windOf 0).source ≠ .none) ∧
    ((blown { wind with state := .alert, source := .none }).windOf 0).source = .none ∧
    ((site.profileOf 0).stopGust ≤ (blown { wind with ownGust := some 200 }).gustNumber 0 ∧
      min (1 + 1) ((site.profileOf 0).debounce + 1) = (site.profileOf 0).debounce + 1) ∧
    ((site.profileOf 0).alertOn ≤ (blown { wind with ownGust := some 120 }).gustNumber 0) ∧
    (site.gustNumber 0 ≤ (site.profileOf 0).alertOff ∧ site.meanNumber 0 ≤ (site.profileOf 0).alertOff) ∧
    (((blown { wind with state := .stop }).windOf 0).state = .stop ∧
      (blown { wind with state := .stop }).gustNumber 0 ≤ (site.profileOf 0).stopOff) ∧
    ((site.profileOf 0).stopOff < (blown { wind with state := .stop, ownGust := some 101 }).gustNumber 0) ∧
    ((site.profileOf 0).vaneMode = .auto ∧ (site.profileOf 0).vaneDelay ≠ 0 ∧
      ({ profile with vaneMode := .manual } : WindProfile).vaneMode = .manual ∧
      ({ profile with vaneDelay := 0 } : WindProfile).vaneDelay = 0) ∧
    (site.mode = .armed ∧ site.parked 0 = true ∧ (placed { position with radius := 101 }).parked 0 = false) := by
  decide +kernel

def stopped : WindRecord :=
  { wind with state := .stop, recovery := some 5, vaneDelay := some 5, vaneWait := true }

def pendingVane : WindRecord := { wind with state := .vanePending, vaneTimeout := some 5 }

/-- R127, R137: with a second left, the recovery timer of a crane whose source is NONE, whose profile is invalid, or
that is absent, stands, and that of another comes to 0. -/
theorem test_recovery_stands :
    (let second (s : State) := (((runSecondTimers s).windOf 0).recovery, (runSecondTimers s).due (.recovery 0))
     let last : WindRecord := { stopped with recovery := some 1 }
     [second (blown last), second (blown { last with source := .none }), second ((blown last).setProfile 0 .unwritten),
       second ((blown last).setCrane 0 .absent)]) =
      [(some 0, true), (some 1, false), (some 1, false), (some 1, false)] := by decide +kernel

theorem test_meets_WindTimers :
    (quiet (blown stopped) = true ∧ (blown stopped).RecoveryRuns 0 ∧ ((blown stopped).windOf 0).recovery ≠ none ∧
      ((blown stopped).windOf 0).vaneDelay ≠ none ∧ ((blown stopped).windOf 0).vaneWait = true ∧
      (blown stopped).mode = .armed ∧ (blown stopped).parked 0 = true) ∧
    ((site.windOf 0).recovery = none ∧ (site.windOf 0).vaneDelay = none ∧ (site.windOf 0).vaneTimeout = none) ∧
    (¬ (blown { stopped with source := .none }).RecoveryRuns 0 ∧
      ¬ ((blown stopped).setProfile 0 .unwritten).RecoveryRuns 0 ∧
      (((blown stopped).setCrane 0 .absent).crane 0).present = false) ∧
    (((blown pendingVane).windOf 0).vaneTimeout ≠ none ∧ ∀ k, ¬ (blown pendingVane).BlocksVane 0 k) ∧
    ((site.setWind 2 pendingVane).BlocksVane 2 0 ∧ 2 ∉ (site.setWind 2 pendingVane).locksOf 0) ∧
    (((at0 { locked with presence := [2] }).BlocksVane 4 0) ∧ 4 ∈ (at0 { locked with presence := [2] }).locksOf 0 ∧
      2 ∈ ((at0 { locked with presence := [2] }).entry 0).presence ∧
      2 ∉ (at0 { locked with presence := [2] }).locksOf 0 ∧
      ∀ e ∈ ((at0 { locked with presence := [2] }).entry 0).presence, 2 ≤ e) := by
  unfold State.RecoveryRuns
  refine ⟨?_, ?_, ?_, ⟨?_, ?_⟩, ⟨?_, ?_⟩, ⟨?_, ?_⟩⟩ <;> decide +kernel

theorem test_meets_VaneAndResume :
    (quiet (blown stopped) = true ∧ ((blown stopped).windOf 0).state = .stop ∧ (blown stopped).parked 0 = true) ∧
    ((blown pendingVane).gustNumber 0 ≤ (site.profileOf 0).stopOff ∧
      (blown pendingVane).meanNumber 0 ≤ (site.profileOf 0).stopOff ∧
      ((blown pendingVane).windOf 0).source ≠ .none) ∧
    (site.profileOf 0).stopOff < (blown { pendingVane with ownGust := some 101 }).gustNumber 0 ∧
    (7 < (8#8).toNat ∧ (fresh.crane 0).present = false ∧ (config.crane 0).present = true ∧
      (site.windOf 0).state = .calm) := by decide +kernel

/-- In `inside held` crane 2 holds sector 0 and is present in it; crane 3's entry intrudes. -/
theorem test_meets_SectorChangesNotified :
    quiet (inside held) = true ∧ ((inside held).sector 0).enabled = true ∧ ((inside held).position 2).present = some 0 ∧
    ownerOf ((inside held).entry 0) = some 2 ∧
    intruded ((after { inside held with pending := [.presenceReport 0 3 .enter] }).entry 0) = some 2 := by
  decide +kernel

/-- A gale over cranes whose vane delay is 0 and whose debounce is over. -/
def gale : State :=
  (blown { wind with ownGust := some 200, stopCount := 1 }).setProfile 0 { profile with vaneDelay := 0 }

theorem test_meets_VaneIsLeftByResume :
    (((blown pendingVane).windOf 0).state = .vanePending ∧
      steps { blown pendingVane with pending := [.tick false] } = true ∧
      ((after { blown pendingVane with pending := [.resume 1 (octet1 0)] }).windOf 0).state = .alert ∧
      ((after { blown pendingVane with inFlight := [.frame (.request 1 0x33#8 (octet1 0))] }).windOf 0).state = .alert) ∧
    (quiet gale = true ∧ (gale.windOf 0).state = .calm ∧
      ((after { gale with pending := [.evaluation 0] }).windOf 0).state = .vane) ∧
    (quiet (blown stopped) = true ∧ ((blown stopped).windOf 0).state ≠ .vane ∧
      ((after { blown stopped with pending := [.vaneDelayExpiry 0] }).windOf 0).state = .vane) ∧
    (((site.setWind 2 stopped).windOf 2).state ≠ .vanePending ∧
      ((after { site.setWind 2 stopped with pending := [.vaneDelayExpiry 2] }).windOf 2).state = .vanePending) := by
  decide +kernel

/-- The site with crane 3 at an angle, in the shared arc from 1000 to 1999 or outside it, and sector 0 free. -/
def turned (angle : Nat) : State := (at0 free).setPosition 3 { position with angle := angle }

def sharedArc : Segment := { start := 1000, kind := .shared, sector := 0, rLo := 100, rHi := 600, floor := 0 }
def openArc : Segment := { start := 2000, kind := .own, sector := 0, rLo := 100, rHi := 600, floor := 0 }

/-- The site with crane 0 alone under one barred segment. -/
def barred (floor : Nat) : State :=
  { site with
    zones := site.zones.write 0 [{ start := 0, kind := .barred, sector := 0, rLo := 100, rHi := 600, floor := floor }] }

def barredArc (floor : Nat) : Segment :=
  { start := 0, kind := .barred, sector := 0, rLo := 100, rHi := 600, floor := floor }

/-- Crane 3 stands in the open arc, which passes through angle 0, and the shared arc bars it either way; at 728 the
distance of section 3.4, 272, gives 601. -/
theorem test_meets_ZoneHoldsBack_slew :
    (turned 728).StandsIn 3 1 openArc ∧ ¬ (turned 728).ExitsFrom 3 openArc ∧
    (turned 728).FirstBarrier 3 1 true 0 sharedArc ∧ (turned 728).FirstBarrier 3 1 false 0 sharedArc ∧
    ((turned 728).crane 3).slew.Ramps ((1000 + 8192 - 728) % 8192) 601 ∧ ((turned 728).zoneLimits 3).slewPos = 601 := by
  have bars : (turned 728).Bars 3 sharedArc := by simp only [State.Bars, sharedArc]; decide +kernel
  refine ⟨⟨by decide +kernel, by decide +kernel, .inr ⟨by decide +kernel, by decide +kernel⟩⟩, fun h => h.1,
    ⟨1, by decide, by decide +kernel, by decide +kernel, by decide +kernel, bars, by omega⟩,
    ⟨1, by decide, by decide +kernel, by decide +kernel, by decide +kernel, bars, by omega⟩, ?_, by decide +kernel⟩
  unfold AxisParams.Ramps; decide +kernel

/-- Below a barred band and beyond it the trolley is held back, above its floor the hoist. -/
theorem test_meets_ZoneHoldsBack_band :
    ((barred 0).StandsIn 0 0 (barredArc 0) ∧ ¬ (barred 0).ExitsFrom 0 (barredArc 0) ∧ 80 < 100 ∧
      ((barred 0).position 0).radius = 80 ∧ (∀ forward j b, ¬ (barred 0).FirstBarrier 0 0 forward j b)) ∧
    (((barred 0).setPosition 0 { position with radius := 601 }).position 0).radius = 601 ∧
    (¬ ((barred 250).setPosition 0 { position with radius := 100 }).Bars 0 (barredArc 250) ∧
      ((barred 250).setPosition 0 { position with radius := 100 }).StandsIn 0 0 (barredArc 250) ∧
      ((barred 250).position 0).height = 250) := by
  have bars : ¬ (barred 0).Bars 0 (barredArc 0) := by simp only [State.Bars, barredArc]; decide +kernel
  have bars' : ¬ ((barred 250).setPosition 0 { position with radius := 100 }).Bars 0 (barredArc 250) := by
    simp only [State.Bars, barredArc]; decide +kernel
  have last : ∀ {s : State} {f}, (s.zone 0).length = 1 → ∀ j g', 0 < j → (s.zone 0)[j]? = some g' → f < g'.start := by
    intro s f hl j g' hj hg
    obtain ⟨h, -⟩ := List.getElem?_eq_some_iff.mp hg
    omega
  refine ⟨⟨⟨by decide +kernel, by decide +kernel, .inl ⟨by decide +kernel, last (by decide +kernel)⟩⟩,
    fun h => bars h.1, by decide, by decide +kernel, ?_⟩, by decide +kernel,
    ⟨bars', ⟨by decide +kernel, by decide +kernel, .inl ⟨by decide +kernel, last (by decide +kernel)⟩⟩,
      by decide +kernel⟩⟩
  rintro forward j b ⟨m, hm, hl, -⟩
  have : ((barred 0).zone 0).length = 1 := by decide +kernel
  omega

/-- Crane 3 stands in the shared arc without a grant: it is an exit crane, nearer the arc's beginning at 1292 and its
end at 1500. -/
theorem test_meets_ExitLeadsOut :
    (turned 1292).StandsIn 3 0 sharedArc ∧ (turned 1292).ExitsFrom 3 sharedArc ∧
    (¬ ∃ k, holderOf ((turned 1292).entry k) = some 3 ∧ ∃ d ∈ ((turned 1292).entry k).presence, d ≠ 3) ∧
    (0 + 1 < ((turned 1292).zone 3).length ∧ ((turned 1292).zone 3)[1]? = some openArc ∧
      ¬ (turned 1292).Bars 3 openArc ∧ (2000 + 8192 - 1292) % 8192 = 708 ∧ (1292 + 8192 - 1000) % 8192 + 1 = 293) ∧
    ((2000 + 8192 - 1500) % 8192 = 500 ∧ (1500 + 8192 - 1000) % 8192 + 1 = 501) ∧
    (∃ k, holderOf ((at0 { held with presence := [2, 3] }).entry k) = some 2 ∧
      ∃ d ∈ ((at0 { held with presence := [2, 3] }).entry k).presence, d ≠ 2) := by
  have bars : (turned 1292).Bars 3 sharedArc := by simp only [State.Bars, sharedArc]; decide +kernel
  refine ⟨⟨by decide +kernel, by decide +kernel, .inl ⟨by decide +kernel, ?_⟩⟩, ⟨bars, by decide +kernel⟩,
    by decide +kernel, ⟨by decide +kernel, by decide +kernel, id, by decide, by decide⟩, by decide,
    ⟨0, by decide +kernel, 3, by decide +kernel, by decide⟩⟩
  intro j g' hj hg
  obtain ⟨h, -⟩ := List.getElem?_eq_some_iff.mp hg
  have two : ((turned 1292).zone 3).length = 2 := by decide +kernel
  obtain rfl : j = 1 := by omega
  have : ∀ g' ∈ ((turned 1292).zone 3)[1]?, ((turned 1292).position 3).angle < g'.start := by decide +kernel
  exact this g' hg

/-- A held grant in overstay, and crane 2 in it; a booked grant with its load over the booking's. -/
def late : State := inside { held with base := .held 2 { grant with overstay := true } }
def heavy : State :=
  { (inside { held with base := .held 2 booked }).setPosition 2 { position with present := some 0, load := 401 } with
    bookings := [booking], detectors := site.detectors.write 2 { Detector.reset with state := .picking, run := 1 } }

theorem test_meets_LimitsAreTheLowest :
    (site.mode = .armed ∧ site.hold = false ∧ (site.position 0).state = .tracked ∧ (site.windOf 0).state = .calm) ∧
    (late.UnderNoPick 2 ∧ (blown stopped).UnderNoPick 0 ∧ (turned 1292).noPick 3 = true) ∧
    (∃ k g, (late.entry k).base = .held 2 g ∧ g.overstay = true) ∧
    ((heavy.detector 2).state = .picking ∧ (heavy.entry 0).base = .held 2 booked ∧ booked.kind = .booked 71 ∧
      heavy.bookings.find? (fun b => b.id == 71) = some booking ∧ 0 < booking.maxLoad ∧
      booking.maxLoad < (heavy.position 2).load ∧ (heavy.bookLimits 2).hoistPos = 0) := by
  refine ⟨by decide, ⟨.inr (.inl ⟨0, _, by decide +kernel, rfl, .inr rfl⟩), .inl (by decide +kernel),
    by decide +kernel⟩, ⟨0, _, rfl, rfl⟩, by decide +kernel⟩

/-- Crane 3 is present in the JIB sector of its shared arc, and crane 2's load is over its booking's. -/
theorem test_meets_CraneTermsMean :
    (profileValid profile = true ∧ profileValid .unwritten = false) ∧
    ((turned 1292).StandsIn 3 0 sharedArc ∧ (turned 1292).presenceOf 3 = some 0 ∧ (turned 728).presenceOf 3 = none) ∧
    (site.parked 0 = true ∧ site.lineDriver 0 = some 7 ∧ site.lineDriver 1 = none) ∧
    ((site.setPosition 2 { position with state := .lost }).obstructedBy 2 = [0] ∧ site.obstructedBy 2 = []) ∧
    ((blown { wind with source := .none }).beaconCondition 0 = .fault ∧ site.beaconCondition 0 = .off) ∧
    ((blown { wind with source := .borrowed 1, ownGust := none }).gustNumber 0 = 80 ∧ site.meanNumber 0 = 70) ∧
    heavy.overloadedSector 2 401 = some (0, 71, 400) ∧ heavy.overloadedSector 2 400 = none := by
  refine ⟨by decide +kernel, ⟨test_meets_ExitLeadsOut.1, by decide +kernel, by decide +kernel⟩, by decide +kernel,
    by decide +kernel, by decide +kernel, by decide +kernel, by decide +kernel, by decide +kernel⟩

theorem test_meets_SectorTermsMean :
    (stateOf .jib { held with closed := true } = .closed ∧ stateOf .hook locked = .locked ∧
      stateOf .jib held = .held ∧ stateOf .jib clearing = .clearing ∧ stateOf .jib contested = .contested ∧
      stateOf .jib free = .free) ∧
    (lockSet .jib { locked with locks := [4, 3] } = [4] ∧ lockSet .hook { locked with locks := [4, 3] } = [4, 3]) ∧
    (hasWaiter { held with claimant := some ⟨71, 4⟩ } = true ∧ hasWaiter { held with claimant := some ⟨71, 2⟩ } = false) ∧
    (intruded { held with presence := [2, 3] } = some 2 ∧ intruded held = none ∧ grantOf free = none) := by decide

/-- In CONFIG the first condition of the table holds; in `late` the holder is told to end its grant. -/
theorem test_meets_AdviceIsTheFirst :
    config.mode = .config ∧ config.advice 0 = (.hold, none) ∧
    (∃ g, (late.entry 0).base = .held 2 g ∧ g.overstay = true) ∧ late.advice 2 = (.overstay, some 0) := by
  refine ⟨rfl, by decide +kernel, ⟨_, rfl, rfl⟩, by decide +kernel⟩

theorem test_meets_SpeedsStayWithinLimits :
    (permitted { permit with demand := ⟨1000, -1000, 0⟩ }).permit 0 = { permit with demand := ⟨1000, -1000, 0⟩ } ∧
    ((1000 : Int).natAbs ≤ 1000 ∧ (-1000 : Int).natAbs ≤ 1000 ∧ (0 : Int).natAbs ≤ 1000) ∧
    (config.mode = .config ∧
      (({ permitted { permit with demand := ⟨1000, -1000, 0⟩ } with mode := .config } : State).compute 0).reasons =
        ⟨.site, .site, .none⟩) ∧
    State.reset.located 0 = false := by decide +kernel

theorem test_meets_PermitsIssued :
    quiet site = true ∧ (site.crane 0).present = true ∧ (site.permit 0).seqRef = some 39 ∧
    (1 ≤ (40#8 - 39#8).toNat ∧ (166#8 - 39#8).toNat ≤ 127) ∧
    ((site.permit 0).refresh ≠ none ∧ (site.permit 0).timeout ≠ none) ∧
    ((fresh.permit 0).refresh = none ∧ (fresh.permit 0).timeout = none ∧ (fresh.crane 0).present = false) ∧
    ((site.permit 0).last = ⟨0, 0, 0⟩ ∧
      ((({ permitted { permit with last := ⟨700, 0, 0⟩ } with hold := true } : State).compute 0).limits.get
        .slew true) < 700) := by decide +kernel

theorem test_meets_TimebaseAdvances :
    quiet site = true ∧ 100 ≤ ({ site with ticks := 99 } : State).ticks + 1 ∧ site.ticks + 1 < 100 ∧
    (site.RecoveryRuns 0 ∧ ¬ fresh.RecoveryRuns 0 ∧ (site.crane 0).present = true ∧ (fresh.crane 0).present = false) ∧
    site.hold = false ∧ ({ site with hold := true } : State).hold = true ∧
    ((at0 clearing).entry 0).base = .clearing 2 grant 200 := by
  unfold State.RecoveryRuns; decide +kernel

/-- The site with line 0, driven by crane 7, flashing in phase OFF at a count. -/
def flashing (left : Nat) : State :=
  { site.setGenerator 0 { driver := some 7, condition := .off, phase := .off, left := some left, cutShort := false } with
    patterns := setPattern site.patterns .stop { on := 1, off := 2, scale := 1 } }

theorem test_meets_BeaconLinesRun :
    quiet site = true ∧ (site.generator 0).left ≠ none ∧ (site.generator 0).cutShort = false ∧
    (site.generator 0).phase = .on ∧ (site.generator 1).left = none ∧ ((flashing 3).generator 0).phase = .off ∧
    (quiet (flashing 1) = true ∧ ((flashing 1).generator 0).driver = some 7 ∧
      ((flashing 1).generator 0).condition ≠ .stop ∧ ((flashing 1).generator 0).left = some 1 ∧
      ((flashing 1).generator 0).cutShort = false) ∧
    (((flashing 1).showCondition 7 .stop).generator 0).cutShort = true := by decide

/-- R171: a restart at the last count of a phase and the tick that ends the phase leave the start of phase ON, here of one
tick, whichever is taken first; a restart at another count, and one that the tick before has brought, are followed by a
tick that counts. -/
theorem test_restart_at_phase_end :
    let shown (s : State) := ((s.generator 0).phase, (s.generator 0).left)
    shown (takeTick false ((flashing 1).showCondition 7 .stop)) = (.on, some 1) ∧
    shown (((flashing 1).endPhase 0).showCondition 7 .stop) = (.on, some 1) ∧
    shown (takeTick false ((flashing 3).showCondition 7 .stop)) = (.on, some 0) ∧
    shown (takeTick false ((takeTick false (flashing 2)).showCondition 7 .stop)) = (.on, some 0) := by decide +kernel

end Sys2Proof.Tests
end

/-! ## What an operation can do (R158, R159) -/

section
namespace Sys2Proof.Machine

/-- R13, R3: a profile stored, with the counting of the cranes whose records name it started afresh. -/
def storeProfile (n : ProfileNo) (p : WindProfile) (s : State) : State :=
  (allCranes.filter (fun c => (s.crane c).profile == n)).foldl
    (fun t c => t.setWind c (restartCounting (t.windOf c))) (s.setProfile n p)

/-- Everything that an operation of the operations table can make of the state, with what its checks have established. -/
inductive Operates (s : State) : State → Prop
  | same : Operates s s
  | site (p : SiteParams) (hm : s.mode = .config) : Operates s { s with site := p }
  | absent (c : Crane) (hm : s.mode = .config) : Operates s (makeAbsent c s)
  | present (c : Crane) (fields : List Nat) (r : CraneRecord) (hm : s.mode = .config)
      (hr : readCraneRecord fields = some r) : Operates s (makePresent c r s)
  | assembly (a : Option Assembly) : Operates s { s with assembly := a }
  | zone (c : Crane) (z : List Segment) (hm : s.mode = .config) :
      Operates s (recomputePresence c none (({ s with assembly := none } : State).setZone c z))
  | sector (k : Sector) (r : SectorRecord) (hm : s.mode = .config) : Operates s (putSector k r s)
  | profile (n : ProfileNo) (p : WindProfile) (hm : s.mode = .config) : Operates s (storeProfile n p s)
  | pattern (cond : BeaconCondition) (p : BeaconPattern) (hm : s.mode = .config) :
      Operates s (({ s with patterns := setPattern s.patterns cond p } : State).restartShowing cond)
  | arm (hm : s.mode ≠ .armed) (hc : s.checkFailure = none) : Operates s (armSite s)
  | disarm (hm : s.mode ≠ .config) (hv : s.vaning = false) : Operates s (disarmSite s)
  | clock (seconds : Nat) : Operates s (setClock seconds s)
  | mask (m : BitVec 22) : Operates s { s with mask := m }
  | book (b : Booking) (hn : s.bookings.any (fun x => x.id == b.id) = false)
      (hl : s.bookings.length < Config.bookingCapacity) (fields : Nat × Nat × Nat × Nat × Nat × Nat)
      (hr : readBooking fields.1 b.crane b.sector fields.2.1 fields.2.2.1 fields.2.2.2.1 fields.2.2.2.2.1
        fields.2.2.2.2.2 = some b) : Operates s (addBooking b s)
  | cancel (id : Half) : Operates s (cancelBooking id s)
  | purge : Operates s { s with bookings := s.bookings.filter (fun b => liveBooking b.state) }
  | close (k : Sector) (hm : s.mode ≠ .config) : Operates s (closeSector k s)
  | openUp (k : Sector) (hm : s.mode ≠ .config) : Operates s (openSector k s)
  | vane (c : Crane) (hm : s.mode ≠ .config) (hp : (s.crane c).present = true) (hw : (s.windOf c).state = .stop)
      (hk : s.parked c = true) : Operates s (enterVanePending c .vaneCommand s)
  | resume (c : Crane) (hm : s.mode ≠ .config) (hp : (s.crane c).present = true) : Operates s (resumeCrane c s)

variable {s : State}

theorem tableWrite_operates {ws : List Nat} {ops : List Byte} {f : List Nat → State → Answer}
    (h : s.mode = .config → ∀ fs, Operates s (f fs s).state) : Operates s (tableWrite ws ops f s).state := by
  unfold tableWrite
  split
  · exact .same
  · split
    · next hm => exact h hm _
    · exact .same

theorem withOperands_operates {ws : List Nat} {ops : List Byte} {f : List Nat → State → Answer}
    (h : ∀ fs, Operates s (f fs s).state) : Operates s (withOperands ws ops f s).state := by
  unfold withOperands
  split
  · exact h _
  · exact .same

theorem writeSite_operates (ops : List Byte) : Operates s (writeSite ops s).state :=
  tableWrite_operates fun hm _ => by
    split
    · exact .same
    · exact .site _ hm

theorem writeCrane_operates (ops : List Byte) : Operates s (writeCrane ops s).state := by
  refine tableWrite_operates fun hm fs => ?_
  split
  · split
    · exact .same
    · split
      · rw [accept_state]; exact .absent _ hm
      · split
        · split
          · split
            · exact .same
            · next hr => rw [accept_state]; exact .present _ _ _ hm hr
          · exact .same
        · exact .same
  · exact .same

theorem writeSector_operates (ops : List Byte) : Operates s (writeSector ops s).state := by
  refine tableWrite_operates fun hm fs => ?_
  split
  · split
    · exact .same
    · split
      · rw [accept_state]; exact .sector _ _ hm
      · split
        · split
          · exact .same
          · rw [accept_state]; exact .sector _ _ hm
        · exact .same
  · exact .same

theorem writeProfile_operates (ops : List Byte) : Operates s (writeProfile ops s).state := by
  refine tableWrite_operates fun hm fs => ?_
  repeat' split
  · exact .same
  · exact .same
  · exact .profile _ _ hm

theorem writePattern_operates (ops : List Byte) : Operates s (writePattern ops s).state := by
  refine tableWrite_operates fun hm fs => ?_
  repeat' split
  · exact .same
  · exact .same
  · rw [accept_state]; exact .pattern _ _ hm

theorem takePart_operates (hm : s.mode = .config) (c : Crane) (count first : Nat) (part : List RawSegment) :
    Operates s (takePart c count first part s).state := by
  unfold takePart completeZone
  dsimp only
  split
  · exact .assembly _
  · split
    · split
      · exact .assembly _
      · rw [accept_state]; exact .zone c _ hm
    · exact .assembly _

theorem writeSegments_operates (ops : List Byte) : Operates s (writeSegments ops s).state := by
  unfold writeSegments
  split
  · split
    · exact .same
    · split
      · exact .assembly _
      · next hm =>
        split
        · exact .assembly _
        · split
          · exact takePart_operates (not_not.mp hm) _ _ _ _
          · exact .assembly _
  · exact .same

theorem arm_operates (ops : List Byte) : Operates s (Machine.arm ops s).state := by
  unfold Machine.arm noOperands
  split
  · dsimp only
    split
    · exact .same
    · next hm =>
      split
      · exact .same
      · next hc => exact .arm hm hc
  · exact .same

theorem disarm_operates (ops : List Byte) : Operates s (Machine.disarm ops s).state := by
  unfold Machine.disarm noOperands
  split
  · dsimp only
    split
    · exact .same
    · next hm =>
      split
      · exact .same
      · next hv => exact .disarm hm (by simpa using hv)
  · exact .same

/-- A booking read from fields names the crane and the sector it was read with. -/
theorem readBooking_names {id start stop quota cls maxLoad : Nat} {c : Crane} {k : Sector} {b : Booking}
    (h : readBooking id c k start stop quota cls maxLoad = some b) : b.crane = c ∧ b.sector = k := by
  unfold readBooking at h
  split at h
  · cases h; exact ⟨rfl, rfl⟩
  · cases h

theorem bookAdd_operates (ops : List Byte) : Operates s (bookAdd ops s).state := by
  unfold bookAdd
  split
  · dsimp only
    split
    · exact .same
    · split
      · exact .same
      · split
        · exact .same
        · next b hb =>
          split
          · exact .same
          · next hdup =>
            split
            · exact .same
            · split
              · exact .same
              · next hfull =>
                obtain ⟨hc, hk⟩ := readBooking_names hb
                rw [accept_state]
                exact .book b (Bool.not_eq_true _ ▸ hdup) (Nat.lt_of_not_le hfull) (_, _, _, _, _, _)
                  (by rw [hc, hk]; exact hb)
  · exact .same

theorem bookCancel_operates (ops : List Byte) : Operates s (bookCancel ops s).state := by
  unfold bookCancel
  split
  · dsimp only
    split
    · exact .same
    · split
      · rw [accept_state]; exact .cancel _
      · exact .same
  · exact .same

theorem bookPurge_operates (ops : List Byte) : Operates s (bookPurge ops s).state := by
  unfold bookPurge
  split
  · exact .purge
  · exact .same

theorem sectorCommand_operates (ops : List Byte) (f : Sector → State → State)
    (h : s.mode ≠ .config → ∀ k, Operates s (f k s)) : Operates s (sectorCommand ops f s).state := by
  refine withOperands_operates fun fs => ?_
  dsimp only
  split
  · exact .same
  · split
    · exact .same
    · next hm => exact h hm _

theorem craneCommand_operates (ops : List Byte) (f : Crane → State → Answer)
    (h : s.mode ≠ .config → ∀ c, (s.crane c).present = true → Operates s (f c s).state) :
    Operates s (craneCommand ops f s).state := by
  refine withOperands_operates fun fs => ?_
  dsimp only
  split
  · exact .same
  · next hc =>
    split
    · exact .same
    · next hm => exact h hm _ (by rw [not_or, not_not] at hc; exact hc.2)

theorem vaneCrane_operates (ops : List Byte) : Operates s (vaneCrane ops s).state := by
  refine craneCommand_operates ops _ fun hm c hp => ?_
  split
  · exact .same
  · next hw =>
    split
    · exact .same
    · next hk => exact .vane c hm hp (not_not.mp hw) (not_not.mp hk)

theorem resumeOp_operates (ops : List Byte) : Operates s (resumeOp ops s).state := by
  refine craneCommand_operates ops _ fun hm c hp => ?_
  repeat' split
  · exact .same
  · exact .same
  · exact .resume c hm hp

/-- An answer that keeps the state. -/
theorem Operates.of_eq {t : State} (h : t = s) : Operates s t := h ▸ .same

theorem readCrane_state (ops : List Byte) : (readCrane ops s).state = s := by
  unfold readCrane
  dsimp only
  repeat' split
  all_goals rfl

theorem readSector_state (ops : List Byte) : (readSector ops s).state = s := by
  unfold readSector
  repeat' split
  all_goals rfl

theorem readBookingOp_state (ops : List Byte) : (readBookingOp ops s).state = s := by
  unfold readBookingOp
  repeat' split
  all_goals rfl

theorem readRing_state {n : Nat} [NeZero n] (c : Crane) (r : Ring n) (o : Nat) : (readRing s c r o).state = s := by
  unfold readRing
  repeat' split
  all_goals rfl

theorem readWind_state (ops : List Byte) : (readWind ops s).state = s := by
  unfold readWind
  dsimp only
  repeat' split
  · rfl
  · exact readRing_state _ _ _
  · exact readRing_state _ _ _
  · rfl
  · rfl

theorem readStatus_state (ops : List Byte) : (readStatus ops s).state = s := by
  unfold readStatus
  repeat' split
  all_goals rfl

/-- Whatever an operation of the table answers, the state it leaves is one of those that `Operates` lists. -/
theorem operationOf_operates {code : Byte} {f : List Byte → State → Answer} (h : operationOf code = some f)
    (ops : List Byte) : Operates s (f ops s).state := by
  unfold operationOf at h
  split at h <;> cases h
  · exact writeSite_operates _
  · exact writeCrane_operates _
  · exact writeSegments_operates _
  · exact writeSector_operates _
  · exact writeProfile_operates _
  · exact writePattern_operates _
  · exact arm_operates _
  · exact disarm_operates _
  · exact withOperands_operates fun fs => .clock _
  · exact withOperands_operates fun fs => .mask _
  · exact bookAdd_operates _
  · exact bookCancel_operates _
  · exact bookPurge_operates _
  · exact sectorCommand_operates _ _ fun hm k => .close k hm
  · exact sectorCommand_operates _ _ fun hm k => .openUp k hm
  · exact vaneCrane_operates _
  · exact resumeOp_operates _
  · exact .of_eq (readCrane_state _)
  · exact .of_eq (readSector_state _)
  · exact .of_eq (readBookingOp_state _)
  · exact .of_eq (readWind_state _)
  · exact .of_eq (readStatus_state _)

/-- What a request leaves: the state as it was, or what its operation made of it with the reply appended. -/
theorem takeRequest_cases (tag code : Byte) (ops : List Byte) (s : State) :
    takeRequest tag code ops s = s ∨
      ∃ t reply, Operates s t ∧ takeRequest tag code ops s = { t with replies := t.replies ++ [reply] } := by
  unfold takeRequest answerRequest
  split
  · refine .inr ⟨_, _, ?_, rfl⟩
    cases h : operationOf code with
    | none => exact .same
    | some f => exact operationOf_operates h ops
  · exact .inl rfl

end Sys2Proof.Machine
end

/-! ## What a command can do -/

section
namespace Sys2Proof.Machine

/-- Everything that a command can make of the state it meets: a frame or a request taken, a notice or an expiry taken,
a discard counted and its octets looked through again, a sending begun or completed, a posting, a lift attributed, a
tick, or a reset begun or ended. -/
inductive Acts (s : State) : State → Prop
  | frame (f : GoodFrame) : Acts s (takeFrame f (s.setReceiver f.link .hunting))
  | unknown (tag code : Byte) : Acts s (request tag code (fun u => refuse u .badValue) s)
  | notice (n : Notice) (hf : ∀ f, n ≠ .frame f) (he : ∀ e, n ≠ .expiry e) : Acts s (takeNotice n s)
  | expiry (e : Expiry) : Acts s (expire e s)
  | misdirected (l : Link) : Acts s (discardMisdirected l s)
  | length (l : Link) (kind len : Byte) : Acts s (discardLength l kind len s)
  | crc (l : Link) (octets : List Byte) : Acts s (discardCrc l octets s)
  | permitSent (c : Crane) : Acts s (completePermit c s)
  | begins : Acts s (beginSending s)
  | replySent : Acts s (completeReply s)
  | eventSent : Acts s (completeEvent s)
  | posting (b : EventBody) : Acts s (s.post b)
  | lift (c : Crane) : Acts s (attributeLift c s)
  | tick (holdLow : Bool) : Acts s (takeTick holdLow s)
  | reset (trigger : ResetTrigger) : Acts s (takeReset trigger s)
  | resetEnd : Acts s (endReset s)

theorem Acts.of_notice {s : State} (n : Notice) (hf : ∀ f, n ≠ .frame f := by intro _ h; cases h)
    (he : ∀ e, n ≠ .expiry e := by intro _ h; cases h) : Acts s (takeNotice n s) := .notice n hf he

/-- The effect of every command is one of those that `Acts` lists. -/
theorem effect_acts (i : Instr) (s : State) : Acts s (effect i s) := by
  cases i with
  | motion c f => exact .frame (.motion c f)
  | wind c f => exact .frame (.wind c f)
  | demand c f => exact .frame (.demand c f)
  | misdirectedFrame l => exact .misdirected l
  | lengthError l kind len => exact .length l kind len
  | crcError l octets => exact .crc l octets
  | writeSite tag ops => exact .frame (.request tag 0x01#8 ops)
  | writeCrane tag ops => exact .frame (.request tag 0x02#8 ops)
  | writeSegments tag ops => exact .frame (.request tag 0x03#8 ops)
  | writeSector tag ops => exact .frame (.request tag 0x04#8 ops)
  | writeProfile tag ops => exact .frame (.request tag 0x05#8 ops)
  | writePattern tag ops => exact .frame (.request tag 0x06#8 ops)
  | arm tag ops => exact .frame (.request tag 0x10#8 ops)
  | disarm tag ops => exact .frame (.request tag 0x11#8 ops)
  | timeSet tag ops => exact .frame (.request tag 0x12#8 ops)
  | setMask tag ops => exact .frame (.request tag 0x13#8 ops)
  | bookAdd tag ops => exact .frame (.request tag 0x20#8 ops)
  | bookCancel tag ops => exact .frame (.request tag 0x21#8 ops)
  | bookPurge tag ops => exact .frame (.request tag 0x22#8 ops)
  | sectorClose tag ops => exact .frame (.request tag 0x30#8 ops)
  | sectorOpen tag ops => exact .frame (.request tag 0x31#8 ops)
  | vane tag ops => exact .frame (.request tag 0x32#8 ops)
  | resume tag ops => exact .frame (.request tag 0x33#8 ops)
  | readCrane tag ops => exact .frame (.request tag 0x40#8 ops)
  | readSector tag ops => exact .frame (.request tag 0x41#8 ops)
  | readBooking tag ops => exact .frame (.request tag 0x42#8 ops)
  | readWind tag ops => exact .frame (.request tag 0x43#8 ops)
  | readStatus tag ops => exact .frame (.request tag 0x44#8 ops)
  | permitSendCompletion c => exact .permitSent c
  | siteTransmitBegin => exact .begins
  | replyFrameCompletion => exact .replySent
  | eventFrameCompletion => exact .eventSent
  | eventPosting b => exact .posting b
  | presenceReport k c change => exact .of_notice (.presence k c change)
  | knock k c => exact .of_notice (.knock k c)
  | bookedClaimantChange k left cl => exact .of_notice (.claimant k left cl)
  | lockRequest k c => exact .of_notice (.lock k c)
  | unlock k c => exact .of_notice (.unlock k c)
  | liftAttribution c => exact .lift c
  | bookedLiftCount id => exact .of_notice (.liftCount id)
  | loadSample c x => exact .of_notice (.loadSample c x)
  | motionFrameNotice c => exact .of_notice (.motionTaken c)
  | limitNotice c => exact .of_notice (.limit c)
  | evaluation c => exact .of_notice (.evaluation c)
  | craneConditionChange c => exact .of_notice (.craneCondition c)
  | handshakeReport k => exact .of_notice (.handshake k)
  | beaconConditionChange c cond => exact .of_notice (.beacon c cond)
  | positionStaleExpiry c => exact .expiry (.positionStale c)
  | windStaleExpiry c => exact .expiry (.windStale c)
  | demandTimeoutExpiry c => exact .expiry (.demandTimeout c)
  | refreshExpiry c => exact .expiry (.refresh c)
  | keepTimerExpiry k c => exact .expiry (.keep k c)
  | clearingExpiry k => exact .expiry (.clearing k)
  | holdTimerExpiry k => exact .expiry (.hold k)
  | recoveryExpiry c => exact .expiry (.recovery c)
  | vaneDelayExpiry c => exact .expiry (.vaneDelay c)
  | vaneTimeoutExpiry c => exact .expiry (.vaneTimeout c)
  | beaconPhaseEnd n => exact .expiry (.phaseEnd n)
  | tick holdLow => exact .tick holdLow
  | siteClockAdvance => exact .of_notice .clockAdvance
  | minuteBoundary => exact .of_notice .minuteBoundary
  | siteHoldAsserted => exact .of_notice .holdAsserted
  | siteHoldReleased => exact .of_notice .holdReleased
  | deviceReset trigger => exact .reset trigger
  | resetEnd => exact .resetEnd
  | unknownOperationCode tag operation ops => exact .unknown tag operation

/-- A rescan sends frames, counts discards and leaves its receiver; it touches nothing else. -/
theorem rescanOctets_frame (l : Link) (stored : List Byte) (s : State) :
    rescanOctets l stored s = { s with
      receivers := (rescanOctets l stored s).receivers, counters := (rescanOctets l stored s).counters,
      inFlight := (rescanOctets l stored s).inFlight } := by
  have heard : ∀ (hs : List Heard) (s : State),
      ∃ cs ns, hs.foldl (hear l) s = { s with counters := cs, inFlight := ns } := by
    intro hs
    induction hs with
    | nil => exact fun s => ⟨_, _, rfl⟩
    | cons h hs ih =>
      intro s
      obtain ⟨cs, ns, e⟩ := ih (hear l s h)
      rw [List.foldl_cons, e]
      cases h with
      | lengthError => exact ⟨_, _, rfl⟩
      | crcError => exact ⟨_, _, rfl⟩
      | misdirected => exact ⟨_, _, rfl⟩
      | good f => exact ⟨_, _, rfl⟩
  obtain ⟨cs, ns, e⟩ := heard (rescan l stored).1 s
  simp only [rescanOctets, e]
  rfl

end Sys2Proof.Machine
end

/-! ## O13: the detector records stay sound (R79 to R87) -/

section
namespace Sys2Proof.Machine

/-! ### What the detectors' soundness reads -/

/-- What `State.DetectorsSound` reads: the crane records and the detectors. -/
def State.loadView (s : State) : Bank 8 CraneRecord × Bank 8 Detector := (s.cranes, s.detectors)

theorem loadView_of_butEntries {s t : State} (h : t.butEntries = s.butEntries) : t.loadView = s.loadView := by
  have := congrArg State.loadView h; exact this
theorem loadView_of_butWinds {s t : State} (h : t.butWinds = s.butWinds) : t.loadView = s.loadView := by
  have := congrArg State.loadView h; exact this
theorem loadView_of_butBookings {s t : State} (h : t.butBookings = s.butBookings) : t.loadView = s.loadView := by
  have := congrArg State.loadView h; exact this
theorem loadView_of_butArming {s t : State} (h : t.butArming = s.butArming) : t.loadView = s.loadView := by
  have := congrArg State.loadView h; exact this
theorem loadView_of_butPositions {s t : State} (h : t.butPositions = s.butPositions) : t.loadView = s.loadView := by
  have := congrArg State.loadView h; exact this
theorem loadView_of_butPermits {s t : State} (h : t.butPermits = s.butPermits) : t.loadView = s.loadView := by
  have := congrArg State.loadView h; exact this
theorem loadView_of_butGenerators {s t : State} (h : t.butGenerators = s.butGenerators) :
    t.loadView = s.loadView := by
  have := congrArg State.loadView h; exact this

@[simp] theorem post_loadView (s : State) (b : EventBody) : (s.post b).loadView = s.loadView := by
  simp [State.loadView]

@[simp] theorem send_loadView (s : State) (ns : List Notice) : (s.send ns).loadView = s.loadView := rfl

theorem loadView_detector {s t : State} (h : t.loadView = s.loadView) (c : Crane) : t.detector c = s.detector c :=
  congrArg (fun v => v.2.read c) h
theorem loadView_crane {s t : State} (h : t.loadView = s.loadView) (c : Crane) : t.crane c = s.crane c :=
  congrArg (fun v => v.1.read c) h

/-- States with the same crane records and detectors are sound together. -/
theorem State.DetectorsSound.of_loadView {s t : State} (h : s.DetectorsSound) (hv : t.loadView = s.loadView) :
    t.DetectorsSound := fun c => by
  rw [loadView_crane hv, loadView_detector hv]; exact h c

/-! ### One sample (R81 to R87) -/

/-- A detector record sound but for its overload. -/
def Detector.CycleSound (d : Detector) : Prop :=
  d.run ≤ 16 ∧ (d.state = .unloaded → d.run = 0 ∧ d.peak = 0 ∧ d.reported = false) ∧ (d.state = .loaded → d.run = 0)

theorem Detector.Sound.cycleSound {d : Detector} (h : d.Sound) : d.CycleSound := ⟨h.1, h.2.1, h.2.2.1⟩

/-- Without the overload, a record whose cycle is sound is sound. -/
theorem Detector.CycleSound.sound {d : Detector} (h : d.CycleSound) : ({ d with overload := false } : Detector).Sound :=
  ⟨h.1, h.2.1, h.2.2, nofun⟩

/-- R87: with the overload standing, a record whose cycle is sound is sound in PICKING and LOADED. -/
theorem Detector.CycleSound.overloaded {d : Detector} (h : d.CycleSound) (hs : d.state = .picking ∨ d.state = .loaded) :
    ({ d with overload := true, reported := true } : Detector).Sound := by
  refine ⟨h.1, fun hu => ?_, h.2.2, fun _ => ⟨hs, rfl⟩⟩
  have hu' : d.state = .unloaded := hu
  rcases hs with hs | hs <;> rw [hu'] at hs <;> cases hs

/-- R85: a peak raised outside UNLOADED leaves the cycle sound. -/
theorem raisePeak_cycleSound {d : Detector} (h : d.CycleSound) (x : Nat) : (raisePeak x d).CycleSound := by
  unfold raisePeak
  split
  · exact h
  · next hs => exact ⟨h.1, fun hu => absurd hu hs, h.2.2⟩

theorem pickingTest_cycleSound (r : CraneRecord) (noPick : Bool) {d : Detector} (h : d.run ≤ 16) :
    (pickingTest r noPick d).CycleSound := by
  unfold pickingTest
  split
  · exact ⟨Nat.zero_le _, nofun, fun _ => rfl⟩
  · exact ⟨h, nofun, nofun⟩

/-- R84: SETTING ends the lift, or its run stays below the debounce. -/
theorem settingTest_cases {r : CraneRecord} (hr : r.debounce ≤ 15) (d : Detector) :
    (settingTest r d).2 = true ∨ (settingTest r d).2 = false ∧ (settingTest r d).1.CycleSound := by
  unfold settingTest
  split
  · exact .inl rfl
  · next h => exact .inr ⟨rfl, by show d.run ≤ 16; omega, nofun, nofun⟩

/-- R81 to R84: a sample's transition completes a lift, or leaves the cycle sound. -/
theorem applySample_cases {r : CraneRecord} (hr : r.debounce ≤ 15) (noPick : Bool) (x : Nat) {d : Detector}
    (h : d.CycleSound) :
    (applySample r noPick x d).2 = true ∨
      (applySample r noPick x d).2 = false ∧ (applySample r noPick x d).1.CycleSound := by
  unfold applySample
  split
  · next hs =>
    split
    · exact .inr ⟨rfl, pickingTest_cycleSound _ _ (by show 1 ≤ 16; decide)⟩
    · refine .inr ⟨rfl, Nat.zero_le _, fun _ => ⟨rfl, rfl, (h.2.1 hs).2.2⟩, fun _ => rfl⟩
  · split
    · exact .inr ⟨rfl, pickingTest_cycleSound _ _ (by show min _ _ ≤ 16; omega)⟩
    · exact .inr ⟨rfl, Nat.zero_le _, fun _ => ⟨rfl, rfl, rfl⟩, nofun⟩
  · split
    · exact settingTest_cases hr _
    · exact .inr ⟨rfl, h⟩
  · split
    · exact settingTest_cases hr _
    · exact .inr ⟨rfl, Nat.zero_le _, nofun, fun _ => rfl⟩

/-- R84: only SETTING that ends in UNLOADED completes a lift. -/
theorem applySample_completed {r : CraneRecord} {noPick : Bool} {x : Nat} {d : Detector}
    (h : (applySample r noPick x d).2 = true) : (applySample r noPick x d).1.state = .unloaded := by
  have setting : ∀ e, (settingTest r e).2 = true → (settingTest r e).1.state = .unloaded := by
    intro e he
    unfold settingTest at he ⊢
    split at he
    · next hd => rw [if_pos hd]
    · cases he
  unfold applySample at h ⊢
  split at h
  · split at h <;> cases h
  · split at h <;> cases h
  · split at h
    · next hx => rw [if_pos hx]; exact setting _ h
    · cases h
  · split at h
    · next hx => rw [if_pos hx]; exact setting _ h
    · cases h

/-- The attribution of a lift leaves the detectors. -/
@[simp] theorem attributeLift_detector (c d : Crane) (s : State) : (attributeLift c s).detector d = s.detector d :=
  loadView_detector (loadView_of_butEntries (attributeLift_butEntries c s)) d

/-- R86: a completed lift puts the crane's record at rest and leaves the others. -/
theorem completeLift_detector (c d : Crane) (s : State) :
    (completeLift c s).detector d =
      if d = c then
        { s.detector c with lifts := (s.detector c).lifts + 1, peak := 0, run := 0, overload := false, reported := false,
                            lastLift := some { peak := (s.detector c).peak, attribution := liftAnswer s c } }
      else s.detector d := by
  simp only [completeLift, State.post_detector, State.setDetector_detector, attributeLift_detector]
  split <;> rfl

/-- R87: the test leaves the crane's record with the overload off, or on and marked in PICKING or LOADED. -/
theorem testOverload_detector (c : Crane) (x : Nat) (s : State) :
    ((testOverload c x s).detector c = { s.detector c with overload := false } ∨
      ((s.detector c).state = .picking ∨ (s.detector c).state = .loaded) ∧
        (testOverload c x s).detector c = { s.detector c with overload := true, reported := true }) ∧
    ∀ d, d ≠ c → (testOverload c x s).detector d = s.detector d := by
  unfold testOverload
  dsimp only
  split
  · exact ⟨.inl (by simp), fun d hd => by simp [hd]⟩
  · next k id m hb =>
    have hs : (s.detector c).state = .picking ∨ (s.detector c).state = .loaded := by
      by_contra hn
      simp [State.bookedOverload, hn] at hb
    split
    · exact ⟨.inr ⟨hs, by simp⟩, fun d hd => by simp [hd]⟩
    · exact ⟨.inr ⟨hs, by simp⟩, fun d hd => by simp [hd]⟩

/-- R87: the test makes a record sound whose cycle is. -/
theorem testOverload_sound (c : Crane) (x : Nat) {s : State} (h : (s.detector c).CycleSound) :
    ((testOverload c x s).detector c).Sound := by
  rcases (testOverload_detector c x s).1 with he | ⟨hs, he⟩
  · rw [he]; exact h.sound
  · rw [he]; exact h.overloaded hs

/-- R80: a load sample keeps every detector sound. -/
theorem takeSample_keepsDetectors (c : Crane) (x : Nat) {s : State} (h : s.DetectorsSound) :
    (takeSample c x s).DetectorsSound := by
  have hcranes : ∀ d, (takeSample c x s).crane d = s.crane d := fun d => by
    have := congrArg (State.crane · d) (takeSample_butDetectors c x s)
    exact this
  intro d
  rw [hcranes]
  refine ⟨(h d).1, ?_⟩
  set t := applySample (s.crane c) (s.noPick c) x (raisePeak x (s.detector c)) with ht
  set u := if t.2 then completeLift c (s.setDetector c t.1) else s.setDetector c t.1 with hu
  show ((testOverload c x u).detector d).Sound
  by_cases hd : d = c
  · subst hd
    apply testOverload_sound
    rcases applySample_cases (h d).1 (s.noPick d) x (raisePeak_cycleSound (h d).2.cycleSound x) with hc | ⟨hc, hs⟩
    · rw [hu, if_pos hc, completeLift_detector, if_pos rfl]
      refine ⟨Nat.zero_le _, fun _ => ⟨rfl, rfl, rfl⟩, fun hl => ?_⟩
      have hst : t.1.state = .loaded := by simpa using hl
      exact absurd ((applySample_completed hc).symm.trans hst) (by decide)
    · rw [hu, if_neg (by rw [hc]; decide), State.setDetector_detector_self]
      exact hs
  · have hud : u.detector d = s.detector d := by
      rw [hu]
      split
      · rw [completeLift_detector, if_neg hd, State.setDetector_detector_ne _ _ hd]
      · rw [State.setDetector_detector_ne _ _ hd]
    rw [(testOverload_detector c x u).2 d hd, hud]
    exact (h d).2

/-! ### Crane records (R4, R89) -/

/-- R4: the load debounce of a record that WRITE_CRANE accepts is at most 15. -/
theorem readCraneRecord_debounce {fields : List Nat} {r : CraneRecord} (h : readCraneRecord fields = some r) :
    r.debounce ≤ 15 := by
  unfold readCraneRecord at h
  split at h
  · dsimp only at h
    split at h
    · cases h
    · split at h
      · next hv =>
        cases h
        simp only [Bool.and_eq_true, within, decide_eq_true_eq] at hv
        exact hv.2.2
      · cases h
  · cases h

/-- A crane record replaced by one with a debounce in range, and its detector's run restarted or kept. -/
theorem State.DetectorsSound.setCrane {s t : State} (h : s.DetectorsSound) {c : Crane} {r : CraneRecord}
    {ds : Bank 8 Detector} (hr : r.debounce ≤ 15) (hv : t.loadView = (s.cranes.write c r, ds))
    (hd : ds = s.detectors ∨ ds = s.detectors.write c { s.detector c with run := 0 }) : t.DetectorsSound := by
  obtain ⟨hc, ht⟩ := Prod.mk.inj hv
  subst ht
  intro d
  constructor
  · show (t.cranes.read d).debounce ≤ 15
    rw [hc, Bank.read_write]
    split
    · exact hr
    · exact (h d).1
  · show (t.detectors.read d).Sound
    rcases hd with hd | hd
    · rw [hd]; exact (h d).2
    · rw [hd, Bank.read_write]
      split
      · obtain ⟨-, hu, -, ho⟩ := (h c).2
        exact ⟨Nat.zero_le _, fun he => ⟨rfl, (hu he).2⟩, fun _ => rfl, ho⟩
      · exact (h d).2

theorem makeAbsent_loadView (c : Crane) (s : State) :
    (makeAbsent c s).loadView = (s.cranes.write c .absent, s.detectors) := by
  unfold makeAbsent
  dsimp only
  rw [loadView_of_butGenerators (State.refreshLines_butGenerators _)]
  have hp : (recomputePresence c none (loseAbsent c (s.setCrane c .absent))).loadView =
      (s.cranes.write c .absent, s.detectors) := by
    rw [loadView_of_butPositions (recomputePresence_butPositions _ _ _),
      loadView_of_butPositions (loseAbsent_butPositions _ _)]; rfl
  generalize recomputePresence c none (loseAbsent c (s.setCrane c .absent)) = u at hp ⊢
  cases (s.crane c).present with
  | true => exact (loadView_of_butWinds (selectSources_butWinds _ _)).trans hp
  | false => exact hp

theorem makePresent_loadView (c : Crane) (r : CraneRecord) (s : State) :
    (makePresent c r s).loadView =
      (s.cranes.write c r, s.detectors.write c { s.detector c with run := 0 }) := by
  unfold makePresent
  dsimp only
  rw [loadView_of_butGenerators (State.refreshLines_butGenerators _)]
  split
  · rfl
  · rw [loadView_of_butWinds (selectSources_butWinds _ _)]; rfl

/-! ### Operations, notices and commands -/

/-- No operation breaks the detectors' soundness. -/
theorem Operates.keepsDetectors {s t : State} (h : Operates s t) (hs : s.DetectorsSound) : t.DetectorsSound := by
  cases h with
  | absent c =>
    exact hs.setCrane (Nat.zero_le 15) (makeAbsent_loadView c s) (.inl rfl)
  | present c fields r _ hr =>
    exact hs.setCrane (readCraneRecord_debounce hr) (makePresent_loadView c r s) (.inr rfl)
  | same => exact hs
  | site => exact hs
  | assembly => exact hs
  | zone c z => exact hs.of_loadView ((loadView_of_butPositions (recomputePresence_butPositions _ _ _)).trans rfl)
  | sector k r =>
    refine hs.of_loadView ?_
    have members (skip : Option Sector) :
        (recomputeMembers k (s.sector k).members skip (s.setSector k r)).loadView = s.loadView :=
      (loadView_of_butPositions (recomputeMembers_butPositions _ _ _ _)).trans rfl
    unfold putSector
    dsimp only
    split
    · exact members _
    · exact members _
  | profile n p =>
    exact hs.of_loadView (foldl_keeps State.loadView (fun t c => t.setWind c (restartCounting (t.windOf c)))
      (fun _ _ => rfl) _ _)
  | pattern cond p =>
    exact hs.of_loadView ((loadView_of_butGenerators (State.restartShowing_butGenerators _ _)).trans rfl)
  | arm =>
    refine hs.of_loadView ?_
    rw [armSite, post_loadView, loadView_of_butArming (armBookings_butArming _),
      loadView_of_butEntries (setUpSectors_butEntries _)]; rfl
  | disarm =>
    refine hs.of_loadView ?_
    rw [disarmSite, post_loadView, loadView_of_butPermits (issueAll_butPermits _),
      loadView_of_butArming (disarmBookings_butArming _), loadView_of_butEntries (clearSectors_butEntries _)]; rfl
  | clock n => exact hs.of_loadView ((loadView_of_butBookings (evaluateWindows_butBookings _ _)).trans rfl)
  | mask => exact hs
  | book b => exact hs.of_loadView (loadView_of_butBookings (addBooking_butBookings _ _))
  | cancel id => exact hs.of_loadView (loadView_of_butBookings (cancelBooking_butBookings _ _))
  | purge => exact hs
  | close k => exact hs.of_loadView (loadView_of_butEntries (closeSector_butEntries _ _))
  | openUp k => exact hs.of_loadView (loadView_of_butEntries (openSector_butEntries _ _))
  | vane c => exact hs.of_loadView (loadView_of_butWinds (enterVanePending_butWinds _ _ _))
  | resume c => exact hs.of_loadView (loadView_of_butWinds (resumeCrane_butWinds _ _))

/-- A good frame keeps the detectors sound: on a crane link it changes no detector. -/
theorem takeFrame_keepsDetectors (f : GoodFrame) {s : State} (hs : s.DetectorsSound) :
    (takeFrame f s).DetectorsSound := by
  have handed : ∀ (c : Crane) (g : State → State), (g s).loadView = s.loadView → (handOn c g s).DetectorsSound := by
    intro c g hg
    unfold handOn
    split
    · exact hs.of_loadView hg
    · exact hs
  cases f with
  | motion c m => exact handed _ _ (loadView_of_butPositions (takeMotion_butPositions _ _ _))
  | wind c w => exact handed _ _ (loadView_of_butWinds (takeWind_butWinds _ _ _))
  | demand c d => exact handed _ _ (loadView_of_butPermits (takeDemand_butPermits _ _ _))
  | request tag code ops =>
    rcases takeRequest_cases tag code ops s with h | ⟨t, reply, ht, h⟩
    · exact hs.of_loadView (congrArg State.loadView h)
    · have := ht.keepsDetectors hs
      exact this.of_loadView ((congrArg State.loadView h).trans rfl)

theorem expire_loadView (e : Expiry) (s : State) : (expire e s).loadView = s.loadView := by
  cases e with
  | positionStale c => exact loadView_of_butPositions (expirePosition_butPositions _ _)
  | windStale c => exact loadView_of_butWinds (expireWindStale_butWinds _ _)
  | demandTimeout c => exact loadView_of_butPermits (expireDemand_butPermits _ _)
  | refresh c => exact loadView_of_butPermits (expireRefresh_butPermits _ _)
  | keep k c => exact loadView_of_butEntries (expireKeep_butEntries _ _ _)
  | clearing k => exact loadView_of_butEntries (expireClearing_butEntries _ _)
  | hold k => exact loadView_of_butEntries (expireHold_butEntries _ _)
  | recovery c => exact loadView_of_butWinds (expireRecovery_butWinds _ _)
  | vaneDelay c => exact loadView_of_butWinds (expireVaneDelay_butWinds _ _)
  | vaneTimeout c => exact loadView_of_butWinds (expireVaneTimeout_butWinds _ _)
  | phaseEnd n => exact loadView_of_butGenerators (State.endPhase_butGenerators _ _)

/-- No notice breaks the detectors' soundness; only a load sample changes a detector. -/
theorem takeNotice_keepsDetectors (n : Notice) (s : State) (hs : s.DetectorsSound) :
    (takeNotice n s).DetectorsSound := by
  cases n with
  | loadSample c x => exact takeSample_keepsDetectors c x hs
  | frame f => exact takeFrame_keepsDetectors f hs
  | presence k c ch => exact hs.of_loadView (loadView_of_butEntries (reportPresence_butEntries _ _ _ _))
  | knock k c => exact hs.of_loadView (loadView_of_butEntries (knockSector_butEntries _ _ _))
  | claimant k left cl => exact hs.of_loadView (loadView_of_butEntries (changeClaimant_butEntries _ _ _ _))
  | lock k c => exact hs.of_loadView (loadView_of_butEntries (lockSector_butEntries _ _ _))
  | unlock k c => exact hs.of_loadView (loadView_of_butEntries (unlockSector_butEntries _ _ _))
  | liftCount id => exact hs.of_loadView (loadView_of_butBookings (takeLiftCount_butBookings _ _))
  | motionTaken c => exact hs.of_loadView (loadView_of_butWinds (takeMotionNotice_butWinds _ _))
  | limit c => exact hs.of_loadView (loadView_of_butPermits (takeLimitNotice_butPermits _ _))
  | evaluation c => exact hs.of_loadView (loadView_of_butWinds (takeEvaluation_butWinds _ _))
  | craneCondition c => exact hs.of_loadView (loadView_of_butBookings (takeCraneCondition_butBookings _ _))
  | handshake k => exact hs.of_loadView (loadView_of_butWinds (takeHandshake_butWinds _ _))
  | beacon c cond => exact hs.of_loadView (loadView_of_butGenerators (State.showCondition_butGenerators _ _ _))
  | expiry e =>
    simp only [takeNotice]
    split
    · exact hs.of_loadView (expire_loadView e s)
    · exact hs
  | clockAdvance => simp only [takeNotice, advanceClock]; split <;> exact hs
  | minuteBoundary => exact hs.of_loadView (loadView_of_butBookings (evaluateWindows_butBookings _ _))
  | holdAsserted =>
    simp only [takeNotice, assertHold]
    split
    · exact hs
    · refine hs.of_loadView ?_
      rw [loadView_of_butPermits (issueAll_butPermits _), post_loadView]; rfl
  | holdReleased =>
    simp only [takeNotice, releaseHold]
    split
    · exact hs.of_loadView (post_loadView _ _)
    · exact hs
  | tickDone => exact hs

theorem rescanOctets_loadView (l : Link) (stored : List Byte) (s : State) :
    (rescanOctets l stored s).loadView = s.loadView := 
  (congrArg State.loadView (rescanOctets_frame l stored s)).trans rfl

theorem sampleHold_loadView (low : Bool) (s : State) : (sampleHold low s).loadView = s.loadView := by
  unfold sampleHold
  dsimp only
  repeat' split
  all_goals rfl

theorem takeTick_loadView (holdLow : Bool) (s : State) : (takeTick holdLow s).loadView = s.loadView := by
  unfold takeTick
  dsimp only
  rw [send_loadView, sampleHold_loadView]
  split
  · rw [takeSecond, send_loadView]; rfl
  · rfl

/-- A device in reset has every detector at rest (R79). -/
theorem cleared_detectorsSound {s : State} (h : s.loadView = State.cleared.loadView) : s.DetectorsSound := by
  have hc : State.cleared.DetectorsSound := fun c => by
    simp only [State.crane, State.detector, State.cleared, Bank.read_fill]
    exact ⟨by decide, by decide, fun _ => ⟨rfl, rfl, rfl⟩, nofun, nofun⟩
  exact hc.of_loadView h

theorem takeReset_keepsDetectors (trigger : ResetTrigger) {s : State} (hs : s.DetectorsSound) :
    (takeReset trigger s).DetectorsSound := by
  unfold takeReset
  dsimp only
  repeat' split
  · exact cleared_detectorsSound rfl
  · exact cleared_detectorsSound rfl
  · exact cleared_detectorsSound rfl
  · exact hs

/-- No command breaks the detectors' soundness. -/
theorem Acts.keepsDetectors {s t : State} (h : Acts s t) (hs : s.DetectorsSound) : t.DetectorsSound := by
  cases h with
  | frame f => exact takeFrame_keepsDetectors f hs
  | unknown tag code =>
    unfold request answerRequest
    split <;> exact hs
  | notice n => exact takeNotice_keepsDetectors n s hs
  | expiry e => exact hs.of_loadView (expire_loadView e s)
  | misdirected l => exact hs
  | length l kind len => exact hs.of_loadView (rescanOctets_loadView _ _ _)
  | crc l octets => exact hs.of_loadView (rescanOctets_loadView _ _ _)
  | permitSent c => exact hs.of_loadView (loadView_of_butPermits (completePermit_butPermits _ _))
  | begins =>
    unfold beginSending
    split
    · exact hs
    · split <;> exact hs
  | replySent => unfold completeReply; split <;> exact hs
  | eventSent => unfold completeEvent; split <;> exact hs
  | posting b => exact hs.of_loadView (post_loadView _ _)
  | lift c => exact hs.of_loadView (loadView_of_butEntries (attributeLift_butEntries _ _))
  | tick holdLow => exact hs.of_loadView (takeTick_loadView _ _)
  | reset trigger => exact takeReset_keepsDetectors trigger hs
  | resetEnd =>
    unfold endReset
    split
    · exact hs
    · exact cleared_detectorsSound rfl

/-- Settles O13: no notice and no command breaks the soundness of a detector, so no step does; only a load sample, a
WRITE_CRANE and a reset change one. -/
theorem detectorsStaySound : Obligations.DetectorsStaySound := fun _ _ hs h =>
  step_keeps State.DetectorsSound (fun _ _ h => h) (fun _ _ h => h) takeNotice_keepsDetectors
    (fun i s hs => (effect_acts i s).keepsDetectors hs) hs h

end Sys2Proof.Machine
end

/-! ## Requests answered and refused (R1, R158, R161): O4, O19, O20 -/

section
namespace Sys2Proof.Machine

/-! ### What a request answers -/

variable {s : State}

/-- The state with the reply OK of an operation appended (R161). -/
def State.replied (t : State) (tag code : Byte) (data : List Byte) : State :=
  { t with replies := t.replies ++ [{ tag := tag, operation := code, result := .ok, locator := 0, data := data }] }

/-- A request whose operation is carried out is answered OK. -/
theorem request_accept (h : s.Room) {tag code : Byte} {op : State → Answer} {t : State} {data : List Byte}
    (ho : op (s.hunting siteLink) = accept t data) : request tag code op s = t.replied tag code data := by
  rw [request_room h, ho]; rfl

/-- A request whose operation is refused is answered with the refusal, and nothing else changes. -/
theorem request_refuse (h : s.Room) {tag code : Byte} {op : State → Answer} {r : Result}
    (ho : op (s.hunting siteLink) = refuse (s.hunting siteLink) r) :
    request tag code op s = s.answered tag code r [] := by
  rw [request_room h, ho]; rfl

/-- Every request command gives its tag, its code and its operation of the table; only UNKNOWN_OPERATION_CODE is
answered BAD_VALUE without one. -/
theorem exec_request {i : Instr} {tag code : Byte} {ops : List Byte} (hi : asRequest i = some (tag, code, ops))
    (h : s.Ready) :
    ∃ op, exec i s = .next (request tag code op s) ∧
      ((∃ f, operationOf code = some f ∧ op = f ops) ∨ op = fun u => refuse u .badValue) := by
  cases i with
  | writeSite => cases hi; exact ⟨_, exec_writeSite h _ _, .inl ⟨_, rfl, rfl⟩⟩
  | writeCrane => cases hi; exact ⟨_, exec_writeCrane h _ _, .inl ⟨_, rfl, rfl⟩⟩
  | writeSegments => cases hi; exact ⟨_, exec_writeSegments h _ _, .inl ⟨_, rfl, rfl⟩⟩
  | writeSector => cases hi; exact ⟨_, exec_writeSector h _ _, .inl ⟨_, rfl, rfl⟩⟩
  | writeProfile => cases hi; exact ⟨_, exec_writeProfile h _ _, .inl ⟨_, rfl, rfl⟩⟩
  | writePattern => cases hi; exact ⟨_, exec_writePattern h _ _, .inl ⟨_, rfl, rfl⟩⟩
  | arm => cases hi; exact ⟨_, exec_arm h _ _, .inl ⟨_, rfl, rfl⟩⟩
  | disarm => cases hi; exact ⟨_, exec_disarm h _ _, .inl ⟨_, rfl, rfl⟩⟩
  | timeSet => cases hi; exact ⟨_, exec_timeSet h _ _, .inl ⟨_, rfl, rfl⟩⟩
  | setMask => cases hi; exact ⟨_, exec_setMask h _ _, .inl ⟨_, rfl, rfl⟩⟩
  | bookAdd => cases hi; exact ⟨_, exec_bookAdd h _ _, .inl ⟨_, rfl, rfl⟩⟩
  | bookCancel => cases hi; exact ⟨_, exec_bookCancel h _ _, .inl ⟨_, rfl, rfl⟩⟩
  | bookPurge => cases hi; exact ⟨_, exec_bookPurge h _ _, .inl ⟨_, rfl, rfl⟩⟩
  | sectorClose => cases hi; exact ⟨_, exec_sectorClose h _ _, .inl ⟨_, rfl, rfl⟩⟩
  | sectorOpen => cases hi; exact ⟨_, exec_sectorOpen h _ _, .inl ⟨_, rfl, rfl⟩⟩
  | vane => cases hi; exact ⟨_, exec_vane h _ _, .inl ⟨_, rfl, rfl⟩⟩
  | resume => cases hi; exact ⟨_, exec_resume h _ _, .inl ⟨_, rfl, rfl⟩⟩
  | readCrane => cases hi; exact ⟨_, exec_readCrane h _ _, .inl ⟨_, rfl, rfl⟩⟩
  | readSector => cases hi; exact ⟨_, exec_readSector h _ _, .inl ⟨_, rfl, rfl⟩⟩
  | readStatus => cases hi; exact ⟨_, exec_readStatus h _ _, .inl ⟨_, rfl, rfl⟩⟩
  | readBooking => cases hi; exact ⟨_, exec_readBooking h _ _, .inl ⟨_, rfl, rfl⟩⟩
  | readWind => cases hi; exact ⟨_, exec_readWind h _ _, .inl ⟨_, rfl, rfl⟩⟩
  | unknownOperationCode => cases hi; exact ⟨_, exec_unknownOperationCode h _ _ _, .inr rfl⟩
  | _ => cases hi

/-! ### Operand counts and the mode (R1, R161) -/

/-- Operands that are cut into fields are written in CONFIG. -/
theorem tableWrite_config (hm : s.mode = .config) {ws : List Nat} {ops : List Byte} {fields : List Nat}
    (hf : cutFields ws ops = some fields) (f : List Nat → State → Answer) : tableWrite ws ops f s = f fields s := by
  simp [tableWrite, hf, hm]

/-- R1: operands of the right count are refused in ARMED. -/
theorem tableWrite_armed (hm : s.mode = .armed) {ws : List Nat} {ops : List Byte} (hl : ops.length = ws.sum)
    (f : List Nat → State → Answer) : tableWrite ws ops f s = refuse s .notInConfig := by
  obtain ⟨fields, hf, -⟩ := cutFields_right hl
  simp [tableWrite, hf, hm]

/-- R161: operands of the wrong count are refused. -/
theorem tableWrite_wrong {ws : List Nat} {ops : List Byte} (hl : ops.length ≠ ws.sum)
    (f : List Nat → State → Answer) : tableWrite ws ops f s = refuse s .badValue := by
  simp [tableWrite, cutFields_wrong hl]

theorem withOperands_wrong {ws : List Nat} {ops : List Byte} (hl : ops.length ≠ ws.sum)
    (f : List Nat → State → Answer) : withOperands ws ops f s = refuse s .badValue := by
  simp [withOperands, cutFields_wrong hl]

theorem withOperands_cut {ws : List Nat} {ops : List Byte} {fields : List Nat} (hf : cutFields ws ops = some fields)
    (f : List Nat → State → Answer) : withOperands ws ops f s = f fields s := by
  simp [withOperands, hf]

theorem noOperands_wrong {ops : List Byte} (hl : ops.length ≠ 0) (f : State → Answer) :
    noOperands ops f s = refuse s .badValue := by
  cases ops with
  | nil => exact absurd rfl hl
  | cons => rfl

/-- R161: an operation of the table refuses operands of the wrong count. -/
theorem operationOf_wrongCount {code : Byte} {f : List Byte → State → Answer} {n : Nat} {ops : List Byte}
    (hf : operationOf code = some f) (hn : operandCount code = some n) (hl : ops.length ≠ n) :
    f ops s = refuse s .badValue := by
  unfold operationOf at hf
  unfold operandCount at hn
  split at hf <;> cases hf <;> simp only [*, Option.some.injEq, reduceCtorEq] at hn <;> subst hn
  · exact tableWrite_wrong (ws := siteWidths) hl _
  · exact tableWrite_wrong (ws := craneWidths) hl _
  · exact tableWrite_wrong (ws := sectorWidths) hl _
  · exact tableWrite_wrong (ws := profileWidths) hl _
  · exact tableWrite_wrong (ws := patternWidths) hl _
  · exact noOperands_wrong hl _
  · exact noOperands_wrong hl _
  · exact withOperands_wrong (ws := [4]) hl _
  · exact withOperands_wrong (ws := [4]) hl _
  · simp [bookAdd, cutFields_wrong (ws := bookingWidths) hl]
  · simp [bookCancel, cutFields_wrong (ws := [2]) hl]
  · simp [bookPurge, cutFields_wrong (ws := []) hl]
  · rw [sectorClose, sectorCommand, withOperands_wrong hl]
  · rw [sectorOpen, sectorCommand, withOperands_wrong hl]
  · rw [vaneCrane, craneCommand, withOperands_wrong hl]
  · rw [resumeOp, craneCommand, withOperands_wrong hl]
  · simp [readCrane, cutFields_wrong (ws := [1, 1]) hl]
  · simp [readSector, cutFields_wrong (ws := [1]) hl]
  · simp [readBookingOp, cutFields_wrong (ws := [2]) hl]
  · simp [readWind, cutFields_wrong (ws := [1, 1, 1]) hl]
  · simp [readStatus, cutFields_wrong (ws := [1]) hl]

/-- R158: octets of WRITE_SEGMENTS that are no whole number of segments are the wrong count. -/
theorem writeSegments_wrongCount {ops : List Byte} (h : ops.length < 3 ∨ (ops.length - 3) % 7 ≠ 0) :
    writeSegments ops s = refuse s .badValue := by
  match ops, h with
  | [], _ | [_], _ | [_, _], _ => rfl
  | _ :: _ :: _ :: bs, h =>
    have hb : bs.length % 7 ≠ 0 := by simp only [List.length_cons] at h; omega
    simp [writeSegments, hb]

/-- R1, R158: in ARMED a part of WRITE_SEGMENTS is refused and discards the assembly. -/
theorem writeSegments_armed (hm : s.mode = .armed) {ops : List Byte} (h3 : 3 ≤ ops.length)
    (h7 : (ops.length - 3) % 7 = 0) : writeSegments ops s = refusePart s .notInConfig := by
  match ops, h3, h7 with
  | _ :: _ :: _ :: bs, _, h7 =>
    have hb : bs.length % 7 = 0 := by simpa using h7
    simp [writeSegments, hb, hm]

/-- Settles O19: a request is discarded whole without room, and otherwise answered; the operations of the table refuse
operands of the wrong count, and the table writes refuse those of the right count in ARMED. -/
theorem requestsRefused : Obligations.RequestsRefused := by
  intro s tag operation operands h
  refine ⟨fun i hi hr => ?_, fun hroom => ⟨?_, fun i n hi hn hl => ?_, fun hl => ?_⟩, fun hroom hm =>
    ⟨fun hl => ?_, fun hl => ?_, fun hl => ?_, fun hl => ?_, fun hl => ?_, fun h3 h7 => ?_⟩⟩
  · obtain ⟨op, he, -⟩ := exec_request hi h
    rw [he, request_full hr]
  · rw [exec_unknownOperationCode h, request_refuse hroom rfl]
  · obtain ⟨op, he, ⟨f, hf, rfl⟩ | rfl⟩ := exec_request hi h
    · rw [he, request_refuse hroom (operationOf_wrongCount hf hn hl)]
    · rw [he, request_refuse hroom rfl]
  · rw [exec_writeSegments h, request_refuse hroom (writeSegments_wrongCount hl)]
  · rw [exec_writeSite h, request_refuse hroom (op := writeSite operands)
      (tableWrite_armed (s := s.hunting siteLink) (ws := siteWidths) hm hl _)]
  · rw [exec_writeCrane h, request_refuse hroom (op := writeCrane operands)
      (tableWrite_armed (s := s.hunting siteLink) (ws := craneWidths) hm hl _)]
  · rw [exec_writeSector h, request_refuse hroom (op := writeSector operands)
      (tableWrite_armed (s := s.hunting siteLink) (ws := sectorWidths) hm hl _)]
  · rw [exec_writeProfile h, request_refuse hroom (op := writeProfile operands)
      (tableWrite_armed (s := s.hunting siteLink) (ws := profileWidths) hm hl _)]
  · rw [exec_writePattern h, request_refuse hroom (op := writePattern operands)
      (tableWrite_armed (s := s.hunting siteLink) (ws := patternWidths) hm hl _)]
  · rw [exec_writeSegments h, request_room hroom, writeSegments_armed (s := s.hunting siteLink) hm h3 h7]
    rfl

/-! ### Site parameters and the event mask (R16, R168) -/

@[simp] theorem within_iff (lo hi n : Nat) : within lo hi n = true ↔ lo ≤ n ∧ n ≤ hi := by
  simp [within]

/-- R16: site parameters in range are read as they stand. -/
theorem readSiteParams_inRange {p : SiteParams} (h : p.InRange) :
    readSiteParams [p.tickDivisor, p.positionStale, p.windStale, p.demandTimeout, p.permitRefresh, p.keepTime] =
      some p := by
  obtain ⟨h1, h2, h3, h4, h5, h6⟩ := h
  simp [readSiteParams, h1, h2, h3, h4, h5, h6]

/-- R16: with one of them out of range none is read. -/
theorem readSiteParams_outOfRange {p : SiteParams} (h : ¬ p.InRange) :
    readSiteParams [p.tickDivisor, p.positionStale, p.windStale, p.demandTimeout, p.permitRefresh, p.keepTime] =
      none := by
  refine if_neg fun hv => h ?_
  simpa [SiteParams.InRange, and_assoc] using hv

/-- The fields of WRITE_SITE's operands. -/
theorem cutFields_siteOctets {p : SiteParams} (h1 : p.tickDivisor < 4294967296) (h2 : p.positionStale < 65536)
    (h3 : p.windStale < 65536) (h4 : p.demandTimeout < 65536) (h5 : p.permitRefresh < 256) (h6 : p.keepTime < 256) :
    cutFields siteWidths (siteOctets p) =
      some [p.tickDivisor, p.positionStale, p.windStale, p.demandTimeout, p.permitRefresh, p.keepTime] := by
  simp only [siteWidths, siteOctets, List.append_assoc, cutFields_octet4, cutFields_octet2, cutFields_octet1,
    cutFields_last1, Option.map_some, numberOf_octet4 h1, numberOf_octet2 h2, numberOf_octet2 h3, numberOf_octet2 h4,
    numberOf_octet1 h5, numberOf_octet1 h6]

theorem eventCode_lt (kind : EventKind) : eventCode kind < 22 := by cases kind <;> decide

/-- R168: bit n of a mask is for kind n. -/
theorem reports_truncate (s : State) (m : BitVec 32) (kind : EventKind) :
    ({ s with mask := m.truncate 22 } : State).reports kind = m.getLsbD (eventCode kind) := by
  simp [State.reports, eventCode_lt]

/-- R168: every kind is reported after device reset. -/
theorem reset_reports (kind : EventKind) : State.reset.reports kind = true := by
  simp only [State.reports, State.reset, State.cleared, BitVec.getLsbD_allOnes, eventCode_lt, decide_true]

/-- R168: SET_MASK loads the low 22 bits of its operand. -/
theorem setMask_octets (m : BitVec 32) : setMask (octet4 m.toNat) s = accept { s with mask := m.truncate 22 } := by
  rw [setMask, withOperands_cut (cutFields_last4 _), numberOf_octet4 m.isLt]
  simp [BitVec.ofNat_toNat]

/-- R16: WRITE_SITE never changes the mask. -/
theorem writeSite_mask (ops : List Byte) : (writeSite ops s).state.mask = s.mask := by
  unfold writeSite tableWrite
  split
  · rfl
  · split
    · dsimp only; split <;> rfl
    · rfl

theorem request_mask {tag code : Byte} {op : State → Answer}
    (ho : (op (s.setReceiver siteLink .hunting)).state.mask = s.mask) : (request tag code op s).mask = s.mask := by
  unfold request answerRequest
  split
  · exact ho
  · rfl

/-- Settles O20: six parameters in range are stored, others refused; the mask takes bit n for kind n; and the three
cases of a posting. -/
theorem siteParametersAndMaskSet : Obligations.SiteParametersAndMaskSet := by
  refine ⟨fun s tag p h hroom hm => ⟨fun hp => ?_, fun hp h1 h2 h3 h4 h5 h6 => ?_⟩, reset_reports,
    fun s tag m h hroom => ?_, reports_truncate, fun s b h hb => ?_, fun s b h hb => ⟨fun hl => ?_, fun hl => ?_⟩,
    fun s t tag ops h ht => ?_⟩
  · obtain ⟨h1, h2, h3, h4, h5, h6⟩ := id hp
    have hc := cutFields_siteOctets (p := p) (by omega) (by omega) (by omega) (by omega) (by omega) (by omega)
    rw [exec_writeSite h, request_accept hroom (t := { s.hunting siteLink with site := p }) (data := [])]
    · rfl
    · rw [writeSite, tableWrite_config (by exact hm) hc, readSiteParams_inRange hp]
  · rw [exec_writeSite h, request_refuse hroom]
    rw [writeSite, tableWrite_config (by exact hm) (cutFields_siteOctets h1 h2 h3 h4 h5 h6),
      readSiteParams_outOfRange hp]
  · rw [exec_setMask h, request_accept hroom (setMask_octets m)]
    rfl
  · rw [exec_eventPosting h, post_masked hb]
  · rw [exec_eventPosting h, post_room hb hl]
  · rw [exec_eventPosting h, post_full hb hl]
  · rw [exec_writeSite h] at ht
    cases ht
    exact request_mask (writeSite_mask ops)

/-! ### The values after device reset -/

/-- Settles O4: every bank is filled with the reset record of its kind, and every other field is written out. -/
theorem resetLeavesEveryValue : Obligations.ResetLeavesEveryValue := by
  have filled : ∀ c, State.reset.windOf c = .reset := fun c => by
    simp [State.reset, State.cleared, State.windOf]
  refine ⟨fun c => ⟨Bank.read_fill c _, Bank.read_fill c _⟩, fun k => Bank.read_fill k _, fun p => ?_,
    fun cond => by cases cond <;> rfl, rfl, fun c => Bank.read_fill c _, fun k => Bank.read_fill k _,
    fun c => Bank.read_fill c _, rfl, fun c => ?_, fun c => Bank.read_fill c _, fun c => Bank.read_fill c _,
    fun l => ⟨Bank.read_fill l _, Bank.read_fill l _⟩, rfl, rfl, rfl, rfl, rfl, reset_reports, rfl, rfl, rfl,
    fun n => ?_⟩
  · have hp : State.reset.profile p = .unwritten := Bank.read_fill p _
    rw [hp]
    exact ⟨by decide, rfl⟩
  · rw [filled]
    exact ⟨rfl, fun i => Bank.read_fill i _, fun i => Bank.read_fill i _⟩
  · have hg : State.reset.generator n = .heldOff := Bank.read_fill n _
    simp only [State.lineHigh, hg]
    exact ⟨rfl, rfl⟩

end Sys2Proof.Machine
end

/-! ## Frames discarded and found again (R151 to R154): O15 -/

section
namespace Sys2Proof.Machine

/-! ### The frame check (R151) -/

/-- The register after octets taken after others. -/
theorem crcOf_append (xs ys : List Byte) : crcOf (xs ++ ys) = ys.foldl crcOctet (crcOf xs) := by
  simp [crcOf, List.foldl_append]

/-- A register with nothing in its high octet is only shifted. -/
theorem crcShifts_low (b : Byte) : crcShifts 8 (b.zeroExtend 16) = b.zeroExtend 16 <<< 8 := by
  revert b; decide +kernel

/-- A register with its high octet taken out is its low octet. -/
theorem xor_high_octet (r : BitVec 16) :
    r ^^^ ((r.extractLsb' 8 8).zeroExtend 16 <<< 8) = (r.extractLsb' 0 8).zeroExtend 16 := by
  ext i hi
  simp only [BitVec.getElem_xor, BitVec.getElem_shiftLeft, BitVec.getElem_setWidth, BitVec.getLsbD_extractLsb']
  by_cases h8 : i < 8
  · simp [h8, BitVec.getLsbD_eq_getElem hi]
  · have : 8 + (i - 8) = i := by omega
    simp [h8, this, BitVec.getLsbD_eq_getElem hi, show i - 8 < 8 by omega]

/-- The register's own high octet leaves its low octet in the high place. -/
theorem crcOctet_high (r : BitVec 16) :
    crcOctet r (r.extractLsb' 8 8) = (r.extractLsb' 0 8).zeroExtend 16 <<< 8 := by
  rw [crcOctet, xor_high_octet, crcShifts_low]

/-- The octet in the high place of a register with nothing below it leaves nothing. -/
theorem crcOctet_self (b : Byte) : crcOctet (b.zeroExtend 16 <<< 8) b = 0#16 := by
  rw [crcOctet, BitVec.xor_self]
  decide

/-- The two octets of a number below 65536, as the extracts of its word. -/
theorem octet2_toNat (r : BitVec 16) : octet2 r.toNat = [r.extractLsb' 8 8, r.extractLsb' 0 8] := by
  simp only [octet2, List.cons.injEq, and_true]
  constructor <;> apply BitVec.eq_of_toNat_eq <;> simp [Nat.shiftRight_eq_div_pow]

/-- R151: octets followed by their CRC have CRC 0. -/
theorem crcOf_self (body : List Byte) : crcOf (body ++ octet2 (crcOf body).toNat) = 0 := by
  rw [crcOf_append, octet2_toNat]
  simp only [List.foldl_cons, List.foldl_nil]
  rw [crcOctet_high, crcOctet_self]
  rfl

/-! ### The receiver (R152) -/

/-- Octets without a SYNC among them are dropped. -/
theorem huntOctets_drops (l : Link) {bs : List Byte} (h : syncOctet ∉ bs) (fuel : Nat) :
    huntOctets l fuel bs = ([], .hunting) := by
  induction bs generalizing fuel with
  | nil => cases fuel <;> rfl
  | cons b bs ih =>
    cases fuel with
    | zero => rfl
    | succ fuel =>
      rw [List.mem_cons, not_or] at h
      simp only [huntOctets, ne_eq, Ne.symm h.1, not_false_eq_true, if_true]
      exact ih h.2 fuel

/-- Octets without a SYNC among them are dropped before what follows. -/
theorem huntOctets_skips (l : Link) {bs : List Byte} (h : syncOctet ∉ bs) (fuel : Nat) (rest : List Byte) :
    huntOctets l (bs.length + fuel) (bs ++ rest) = huntOctets l fuel rest := by
  induction bs with
  | nil => simp
  | cons b bs ih =>
    rw [List.mem_cons, not_or] at h
    rw [List.length_cons, Nat.add_right_comm, List.cons_append]
    simp only [huntOctets, ne_eq, Ne.symm h.1, not_false_eq_true, if_true]
    exact ih h.2

/-- R152: a length that is no error is at most 48. -/
theorem length_le_of_no_error {l : Link} {kind : Byte} {n : Nat} (h : lengthIsError l kind n = false) : n ≤ 48 := by
  simp only [lengthIsError, Bool.or_eq_false_iff, decide_eq_false_iff_not, Nat.not_lt] at h
  exact h.1

/-- R151, R152: a whole good frame is found, and the receiver hunts on after it. -/
theorem huntOctets_frame (l : Link) {kind : Byte} {payload : List Byte} {f : GoodFrame}
    (hk : acceptsKind l kind = true) (hl : lengthIsError l kind payload.length = false)
    (hp : readPayload l payload = some f) (fuel : Nat) (rest : List Byte) :
    huntOctets l (fuel + 1) (frameOctets kind payload ++ rest) =
      (.good f :: (huntOctets l fuel rest).1, (huntOctets l fuel rest).2) := by
  have hn : (BitVec.ofNat 8 payload.length).toNat = payload.length := by
    have := length_le_of_no_error hl
    simp; omega
  set len := BitVec.ofNat 8 payload.length with hlen
  have hcrc := crcOf_self (kind :: len :: payload)
  set check := octet2 (crcOf (kind :: len :: payload)).toNat with hcheck
  have hc2 : check.length = 2 := octet2_length _
  have hf : frameOctets kind payload ++ rest = syncOctet :: kind :: len :: (payload ++ (check ++ rest)) := by
    simp [frameOctets, ← hlen, hcheck]
  have htake : (payload ++ (check ++ rest)).take payload.length = payload := List.take_left
  have hdrop : (payload ++ (check ++ rest)).drop payload.length = check ++ rest := List.drop_left
  have hrest : (payload ++ (check ++ rest)).drop (payload.length + 2) = rest := by
    rw [← List.drop_drop, hdrop, ← hc2, List.drop_left]
  have hcheck2 : (check ++ rest).take 2 = check := by rw [← hc2, List.take_left]
  rw [hf]
  simp only [huntOctets, ne_eq, not_true_eq_false, if_false, hn, hl, Bool.false_eq_true, htake, hdrop, hrest, hcheck2,
    hk, hp, if_true, List.length_append, hc2]
  rw [if_neg (by omega), if_neg (by omega), if_neg (by simpa using hcrc)]

/-! ### Discards and drops (R5, R20, R152, R154) -/

variable {s : State}

/-- R20, R111, R140: a sequence that is the reference or not newer is not accepted. -/
theorem seqAccepted_old {q x : Byte} (h : (x - q).toNat = 0 ∨ 128 ≤ (x - q).toNat) :
    seqAccepted (some q) x = false := by
  rw [Bool.eq_false_iff]
  simp only [seqAccepted, ne_eq, within_iff]
  omega

/-- R5: a good frame of an absent crane is counted as misdirected. -/
theorem handOn_absent {c : Crane} (h : (s.crane c).present = false) (g : State → State) :
    handOn c g (s.setReceiver (linkOf c) .hunting) = { s with
      receivers := s.receivers.write (linkOf c) .hunting
      counters := s.counters.write (linkOf c)
        { s.counter (linkOf c) with misdirected := min ((s.counter (linkOf c)).misdirected + 1) 65535 } } := by
  simp only [handOn, State.setReceiver_crane, h, Bool.false_eq_true, if_false]
  rfl

theorem handOn_present {c : Crane} (h : (s.crane c).present = true) (g : State → State) :
    handOn c g (s.setReceiver (linkOf c) .hunting) = g (s.setReceiver (linkOf c) .hunting) := by
  simp [handOn, h]

/-- R20: a MOTION frame that is not newer changes nothing. -/
theorem takeMotion_old {c : Crane} {m : MotionFrame} {q : Byte} (hq : (s.position c).seqRef = some q)
    (ho : (m.seq - q).toNat = 0 ∨ 128 ≤ (m.seq - q).toNat) : takeMotion c m s = s := by
  simp [takeMotion, hq, seqAccepted_old ho]

/-- R111: nor does a WIND frame. -/
theorem takeWind_old {c : Crane} {w : WindFrame} {q : Byte} (hq : (s.windOf c).seqRef = some q)
    (ho : (w.seq - q).toNat = 0 ∨ 128 ≤ (w.seq - q).toNat) : takeWind c w s = s := by
  simp [takeWind, hq, seqAccepted_old ho]

/-- R140: nor does a DEMAND frame. -/
theorem takeDemand_old {c : Crane} {d : DemandFrame} {q : Byte} (hq : (s.permit c).seqRef = some q)
    (ho : (d.seq - q).toNat = 0 ∨ 128 ≤ (d.seq - q).toNat) : takeDemand c d s = s := by
  simp [takeDemand, hq, seqAccepted_old ho]

/-- R152: what a rescan of KIND and LEN leaves. -/
theorem rescan_kind_len (l : Link) (kind len : Byte) :
    rescan l [kind, len] = ([],
      if kind = 0xC3#8 then { state := .len, store := [kind, len] }
      else if len = 0xC3#8 then { state := .kind, store := [len] }
      else { state := .hunt, store := [] }) := by
  by_cases hk : kind = syncOctet
  · simp [rescan, huntOctets, hk, show (0xC3#8 : Byte) = syncOctet from rfl]
  · by_cases hl : len = syncOctet
    · simp [rescan, huntOctets, hk, hl, show (0xC3#8 : Byte) = syncOctet from rfl]
    · simp [rescan, huntOctets, hk, hl, show (0xC3#8 : Byte) = syncOctet from rfl, Receiver.hunting]

/-- R152: octets without a C3h are all dropped by a rescan. -/
theorem rescan_drops (l : Link) {octets : List Byte} (h : 0xC3#8 ∉ octets) : rescan l octets = ([], .hunting) :=
  huntOctets_drops l h _

/-- R152: a whole good frame with no other C3h before or after it is what a rescan finds. -/
theorem rescan_frame (l : Link) {kind : Byte} {before payload after : List Byte} {f : GoodFrame}
    (hb : 0xC3#8 ∉ before) (ha : 0xC3#8 ∉ after) (hk : acceptsKind l kind = true)
    (hl : lengthIsError l kind payload.length = false) (hp : readPayload l payload = some f) :
    rescan l (before ++ frameOctets kind payload ++ after) = ([.good f], .hunting) := by
  rw [rescan, List.append_assoc, List.length_append, Nat.add_assoc, huntOctets_skips l hb,
    huntOctets_frame l hk hl hp, huntOctets_drops l ha]

/-- Settles O15: frames of absent cranes are counted, old ones dropped, and a rescan drops octets without a C3h and finds
a whole good frame among them. -/
theorem framesDiscarded : Obligations.FramesDiscarded := by
  refine ⟨fun s c m w d h => ⟨fun hp i hi => ?_, fun hp => ⟨fun q hq ho => ?_, fun q hq ho => ?_, fun q hq ho => ?_⟩⟩,
    fun s l h => ⟨?_, fun kind len => ?_, fun octets ho => ?_, fun kind before payload after f hb ha hk hl hp => ?_⟩⟩
  · simp only [List.mem_cons, List.not_mem_nil, or_false] at hi
    rcases hi with rfl | rfl | rfl
    · rw [exec_motion h, handOn_absent hp]
    · rw [exec_wind h, handOn_absent hp]
    · rw [exec_demand h, handOn_absent hp]
  · rw [exec_motion h, handOn_present hp, takeMotion_old (by exact hq) ho]
    rfl
  · rw [exec_wind h, handOn_present hp, takeWind_old (by exact hq) ho]
    rfl
  · rw [exec_demand h, handOn_present hp, takeDemand_old (by exact hq) ho]
    rfl
  · rw [exec_misdirectedFrame h]
    rfl
  · rw [exec_lengthError h, discardLength, rescanOctets, rescan_kind_len]
    rfl
  · rw [exec_crcError h, discardCrc, rescanOctets, rescan_drops l ho]
    rfl
  · rw [exec_crcError h, discardCrc, rescanOctets, rescan_frame l hb ha hk hl hp]
    simp only [List.foldl_cons, List.foldl_nil, hear, State.countCrc, State.send, State.setCounter, State.setReceiver,
      h.2.1, List.nil_append]
    rfl

end Sys2Proof.Machine
end

/-! ## Beacon lines and patterns (R15, R171): O60 -/

section
namespace Sys2Proof.Machine

variable {s : State}

/-! ### One line at a time -/

@[simp] theorem State.setGenerator_same (n : BeaconLine) : s.setGenerator n (s.generator n) = s := by
  simp [State.setGenerator, State.generator]

/-- A fold whose step sets one line's generator, from that generator and what is no generator, sets each line's once. -/
theorem foldl_setGenerator {step : State → BeaconLine → State} {F : State → BeaconLine → Generator → Generator}
    (hF : ∀ t n, step t n = t.setGenerator n (F t.butGenerators n (t.generator n))) {ns : List BeaconLine}
    (hn : ns.Nodup) (s : State) (m : BeaconLine) :
    (ns.foldl step s).generator m = if m ∈ ns then F s.butGenerators m (s.generator m) else s.generator m := by
  induction ns generalizing s with
  | nil => simp
  | cons n ns ih =>
    rw [List.nodup_cons] at hn
    rw [List.foldl_cons, ih hn.2, hF]
    by_cases hm : m = n
    · subst hm; simp [hn.1]
    · simp [hm, State.butGenerators_setGenerator]

theorem mem_allLines (n : BeaconLine) : n ∈ allLines := by revert n; decide

theorem allLines_nodup : allLines.Nodup := by decide

/-- The same fold over every line. -/
theorem foldl_allLines {step : State → BeaconLine → State} {F : State → BeaconLine → Generator → Generator}
    (hF : ∀ t n, step t n = t.setGenerator n (F t.butGenerators n (t.generator n))) (s : State) (n : BeaconLine) :
    (allLines.foldl step s).generator n = F s.butGenerators n (s.generator n) := by
  rw [foldl_setGenerator hF allLines_nodup, if_pos (mem_allLines n)]

/-- R171: what a change of crane `c`'s condition makes of a generator. -/
def State.shownBy (s : State) (c : Crane) (cond : BeaconCondition) (g : Generator) : Generator :=
  if g.driver = some c ∧ g.condition ≠ cond then g.restart s.inTick c cond (patternOf s.patterns cond) else g

/-- R15, R171: what a rewritten pattern makes of a generator. -/
def State.repatterned (s : State) (cond : BeaconCondition) (g : Generator) : Generator :=
  match g.driver with
  | some c => if g.condition = cond then g.restart s.inTick c cond (patternOf s.patterns cond) else g
  | none => g

/-- R171: what a write that may have changed its driver makes of a line's generator. -/
def State.followed (s : State) (n : BeaconLine) (g : Generator) : Generator :=
  match s.lineDriver n with
  | none => if g.driver = none then g else g.holdOff s.inTick
  | some c =>
    if g.driver = some c ∧ g.condition = s.beaconCondition c then g
    else g.restart s.inTick c (s.beaconCondition c) (patternOf s.patterns (s.beaconCondition c))

theorem State.showCondition_generator (s : State) (c : Crane) (cond : BeaconCondition) (n : BeaconLine) :
    (s.showCondition c cond).generator n = s.shownBy c cond (s.generator n) := by
  refine foldl_allLines (F := fun t _ g => t.shownBy c cond g) (fun t n => ?_) s n
  by_cases h : (t.generator n).driver = some c ∧ (t.generator n).condition ≠ cond
  · simp only [State.shownBy, if_pos h]; rfl
  · simp only [State.shownBy, if_neg h, State.setGenerator_same]

theorem State.restartShowing_generator (s : State) (cond : BeaconCondition) (n : BeaconLine) :
    (s.restartShowing cond).generator n = s.repatterned cond (s.generator n) := by
  refine foldl_allLines (F := fun t _ g => t.repatterned cond g) (fun t n => ?_) s n
  dsimp only
  split
  · next c hd =>
    by_cases hc : (t.generator n).condition = cond
    · simp only [State.repatterned, hd, if_pos hc]; rfl
    · simp only [State.repatterned, hd, if_neg hc, State.setGenerator_same]
  · next hd => simp only [State.repatterned, hd, State.setGenerator_same]

theorem State.refreshLines_generator (s : State) (n : BeaconLine) :
    s.refreshLines.generator n = s.followed n (s.generator n) := by
  refine foldl_allLines (F := fun t n g => t.followed n g) (fun t n => ?_) s n
  unfold State.refreshLine State.followed
  have hb : t.butGenerators.lineDriver n = t.lineDriver n := rfl
  rw [hb]
  cases hd : t.lineDriver n with
  | none =>
    by_cases hg : (t.generator n).driver = none
    · simp only [if_pos hg, State.setGenerator_same]
    · simp only [if_neg hg]; rfl
  | some c =>
    by_cases hg : (t.generator n).driver = some c ∧ (t.generator n).condition = t.beaconCondition c
    · have hg' : (t.generator n).driver = some c ∧ (t.generator n).condition = t.butGenerators.beaconCondition c := hg
      simp only [if_pos hg, if_pos hg', State.setGenerator_same]
    · have hg' : ¬ ((t.generator n).driver = some c ∧ (t.generator n).condition = t.butGenerators.beaconCondition c) := hg
      simp only [if_neg hg, if_neg hg']; rfl

/-- With nothing in flight nothing is left of a tick. -/
theorem inTick_of_quiet (h : s.inFlight = []) : s.inTick = false := by simp [State.inTick, h]

/-- R171: outside the work of a tick a restart is that of the statements. -/
theorem Generator.restart_eq (g : Generator) (c : Crane) (cond : BeaconCondition) (p : BeaconPattern) :
    g.restart false c cond p = g.restartedBy c cond p := by
  have hl : (g.left == some 1) = decide (g.left = some 1) := Bool.eq_iff_iff.mpr (by simp)
  simp [Generator.restart, Generator.restartedBy, Generator.cuts, hl]

/-- R171: in the work of a tick a restart cuts nothing short. -/
theorem Generator.restart_inTick (g : Generator) (c : Crane) (cond : BeaconCondition) (p : BeaconPattern) :
    g.restart true c cond p = { g.restartedBy c cond p with cutShort := g.cutShort } := by
  simp [Generator.restart, Generator.restartedBy, Generator.cuts]

/-! ### Conditions, phases and ticks -/

/-- A state that differs from a quiet one in generators is quiet. -/
theorem State.Ready.of_butGenerators {t : State} (h : s.Ready) (ht : t.butGenerators = s.butGenerators) : t.Ready := by
  rw [frame_of_butGenerators ht]; exact h

/-- R171: a change of a crane's condition, taken by a quiet device. -/
theorem showCondition_quiet (h : s.Ready) (c : Crane) (cond : BeaconCondition) (n : BeaconLine) :
    (s.showCondition c cond).generator n =
      if (s.generator n).driver = some c ∧ (s.generator n).condition ≠ cond then
        (s.generator n).restartedBy c cond (patternOf s.patterns cond)
      else s.generator n := by
  rw [State.showCondition_generator, State.shownBy, inTick_of_quiet h.2.1, Generator.restart_eq]

/-- R171: the end of a phase that nothing has cut short, in phase ON. -/
theorem endPhase_on {n : BeaconLine} (hl : (s.generator n).left ≠ none) (hc : (s.generator n).cutShort = false)
    (hp : (s.generator n).phase = .on) :
    s.endPhase n = s.setGenerator n { s.generator n with
      phase := .off
      left := some ((patternOf s.patterns (s.generator n).condition).off *
        (patternOf s.patterns (s.generator n).condition).scale) } := by
  simp [State.endPhase, hl, hc, hp]

/-- R171: the end of a phase that nothing has cut short, in phase OFF. -/
theorem endPhase_off {n : BeaconLine} (hl : (s.generator n).left ≠ none) (hc : (s.generator n).cutShort = false)
    (hp : (s.generator n).phase = .off) :
    s.endPhase n = s.setGenerator n { s.generator n with
      phase := .on
      left := some ((patternOf s.patterns (s.generator n).condition).on *
        (patternOf s.patterns (s.generator n).condition).scale) } := by
  simp [State.endPhase, hl, hc, hp]

/-- The end of a phase keeps the driver and the condition of its line. -/
theorem endPhase_shows (n : BeaconLine) :
    ((s.endPhase n).generator n).driver = (s.generator n).driver ∧
      ((s.endPhase n).generator n).condition = (s.generator n).condition := by
  unfold State.endPhase
  dsimp only
  repeat' split
  · exact ⟨rfl, rfl⟩
  · simp
  · simp

/-- R171: a tick moves each generator on by one. -/
theorem takeTick_generator (low : Bool) (s : State) (n : BeaconLine) :
    (takeTick low s).generator n = (s.generator n).tick := by
  have ticked : ∀ u : State, u.generators = s.generators.update Generator.tick →
      u.generator n = (s.generator n).tick := by
    intro u hu
    rw [State.generator, hu, Bank.read_update]; rfl
  unfold takeTick sampleHold takeSecond
  dsimp only
  repeat' split
  all_goals exact ticked _ rfl

/-! ### Patterns (R15) -/

theorem patternOf_setPattern_same (ps : BeaconPatterns) (cond : BeaconCondition) (p : BeaconPattern) :
    patternOf (setPattern ps cond p) cond = p := by cases cond <;> rfl

theorem patternOf_setPattern_ne (ps : BeaconPatterns) {cond other : BeaconCondition} (p : BeaconPattern)
    (h : other ≠ cond) : patternOf (setPattern ps cond p) other = patternOf ps other := by
  cases cond <;> cases other <;> simp [patternOf, setPattern] at h ⊢

theorem conditionOf_code (cond : BeaconCondition) : conditionOf (conditionCode cond) = some cond := by
  cases cond <;> rfl

theorem conditionCode_lt (cond : BeaconCondition) : conditionCode cond < 256 := by cases cond <;> decide

theorem conditionOf_above {code : Nat} (h : 5 < code) : conditionOf code = none := by
  match code, h with
  | n + 6, _ => rfl

theorem readPattern_inRange {p : BeaconPattern} (h : p.InRange) : readPattern [p.on, p.off, p.scale] = some p := by
  obtain ⟨h1, h2, h3⟩ := h
  refine if_pos ?_
  rw [List.contains_iff_mem.mpr h3]
  simp [h1, h2]

theorem readPattern_outOfRange {p : BeaconPattern} (h : ¬ p.InRange) : readPattern [p.on, p.off, p.scale] = none := by
  refine if_neg fun hv => h ?_
  simp only [Bool.and_eq_true, within_iff, List.contains_iff_mem] at hv
  exact ⟨hv.1.1.2, hv.1.2.2, hv.2⟩

/-- The fields of WRITE_PATTERN's operands. -/
theorem cutFields_patternOctets (code : Nat) (p : BeaconPattern) :
    cutFields patternWidths (patternOctets code p) =
      some [numberOf (octet1 code), numberOf (octet1 p.on), numberOf (octet1 p.off), numberOf (octet1 p.scale)] := by
  simp only [patternWidths, patternOctets, List.append_assoc, cutFields_octet1, cutFields_last1, Option.map_some]

/-- The scales of R15 fit an octet. -/
theorem BeaconPattern.InRange.fits {p : BeaconPattern} (h : p.InRange) : p.on < 256 ∧ p.off < 256 ∧ p.scale < 256 := by
  obtain ⟨h1, h2, h3⟩ := h
  refine ⟨by omega, by omega, ?_⟩
  have : ∀ n ∈ [1, 2, 4, 8, 16, 32, 64, 128], n < 256 := by decide
  exact this _ h3

theorem cutFields_patternOctets_fit (cond : BeaconCondition) {p : BeaconPattern}
    (h : p.on < 256 ∧ p.off < 256 ∧ p.scale < 256) :
    cutFields patternWidths (patternOctets (conditionCode cond) p) = some [conditionCode cond, p.on, p.off, p.scale] := by
  rw [cutFields_patternOctets, numberOf_octet1 (conditionCode_lt cond), numberOf_octet1 h.1, numberOf_octet1 h.2.1,
    numberOf_octet1 h.2.2]

/-- R15: WRITE_PATTERN with a pattern in range stores it and restarts the driven lines that show its condition. -/
theorem writePattern_inRange (hm : s.mode = .config) (hq : s.inFlight = []) (cond : BeaconCondition)
    {p : BeaconPattern} (h : p.InRange) :
    ∃ u, writePattern (patternOctets (conditionCode cond) p) s = accept u ∧
      u = { s with patterns := setPattern s.patterns cond p, generators := u.generators } ∧
      ∀ n, u.generator n =
        match (s.generator n).driver with
        | some c => if (s.generator n).condition = cond then (s.generator n).restartedBy c cond p else s.generator n
        | none => s.generator n := by
  refine ⟨({ s with patterns := setPattern s.patterns cond p } : State).restartShowing cond, ?_,
    frame_of_butGenerators (State.restartShowing_butGenerators _ cond), fun n => ?_⟩
  · rw [writePattern, tableWrite_config hm (cutFields_patternOctets_fit cond h.fits)]
    simp only [List.headD_cons, List.tail_cons, conditionOf_code, readPattern_inRange h]
  · rw [State.restartShowing_generator, State.repatterned, inTick_of_quiet (by exact hq), patternOf_setPattern_same]
    simp only [Generator.restart_eq]
    rfl

theorem writePattern_outOfRange (hm : s.mode = .config) (cond : BeaconCondition) {p : BeaconPattern}
    (h : ¬ p.InRange) (hf : p.on < 256 ∧ p.off < 256 ∧ p.scale < 256) :
    writePattern (patternOctets (conditionCode cond) p) s = refuse s .badValue := by
  rw [writePattern, tableWrite_config hm (cutFields_patternOctets_fit cond hf)]
  simp only [List.headD_cons, List.tail_cons, conditionOf_code, readPattern_outOfRange h]

theorem writePattern_badCode (hm : s.mode = .config) {code : Nat} (h : 5 < code) (h' : code < 256)
    (p : BeaconPattern) : writePattern (patternOctets code p) s = refuse s .badIndex := by
  rw [writePattern, tableWrite_config hm (cutFields_patternOctets code p)]
  simp only [List.headD_cons, numberOf_octet1 h', conditionOf_above h]

/-- R171: the tick that was to end a phase and a restart at its last count leave the start of phase ON, whichever comes
first. -/
theorem restart_at_phase_end (h : s.Ready) {c : Crane} {cond : BeaconCondition} {n : BeaconLine} (low : Bool)
    (hd : (s.generator n).driver = some c) (hc : (s.generator n).condition ≠ cond)
    (hl : (s.generator n).left = some 1) :
    exec (.tick low) (s.showCondition c cond) = .next (takeTick low (s.showCondition c cond)) ∧
    (takeTick low (s.showCondition c cond)).generator n =
      { (s.generator n).restartedBy c cond (patternOf s.patterns cond) with cutShort := false } ∧
    exec (.beaconPhaseEnd n) (s.showCondition c cond) = .next (s.showCondition c cond) ∧
    exec (.beaconPhaseEnd n) s = .next (s.endPhase n) ∧
    exec (.beaconConditionChange c cond) (s.endPhase n) = .next ((s.endPhase n).showCondition c cond) ∧
    ((s.endPhase n).showCondition c cond).generator n =
      ((s.endPhase n).generator n).restartedBy c cond (patternOf s.patterns cond) := by
  have hready : (s.showCondition c cond).Ready := h.of_butGenerators (State.showCondition_butGenerators _ _ _)
  have hended : (s.endPhase n).Ready := h.of_butGenerators (State.endPhase_butGenerators _ _)
  have hg : (s.showCondition c cond).generator n = (s.generator n).restartedBy c cond (patternOf s.patterns cond) := by
    rw [showCondition_quiet h, if_pos ⟨hd, hc⟩]
  have hcut : ((s.showCondition c cond).generator n).cutShort = true := by
    rw [hg]; simp [Generator.restartedBy, hl]
  have hpatterns : (s.endPhase n).patterns = s.patterns := by
    have := congrArg State.patterns (State.endPhase_butGenerators s n); exact this
  refine ⟨exec_tick hready low, ?_, ?_, exec_beaconPhaseEnd h n, exec_beaconConditionChange hended c cond, ?_⟩
  · rw [takeTick_generator, Generator.tick, hcut, if_pos rfl, hg]
  · rw [exec_beaconPhaseEnd hready, State.endPhase_of_cutShort _ _ hcut]
  · rw [showCondition_quiet hended, (endPhase_shows n).1, (endPhase_shows n).2, if_pos ⟨hd, hc⟩, hpatterns]

/-- Settles O60: conditions, phase ends and patterns act line by line, a restart at the last count meets the tick that
ends the phase, and WRITE_PATTERN stores a pattern in range. -/
theorem beaconLinesRun : Obligations.BeaconLinesRun := by
  intro s h
  refine ⟨fun c cond => ⟨_, exec_beaconConditionChange h c cond,
      frame_of_butGenerators (State.showCondition_butGenerators _ _ _), showCondition_quiet h c cond⟩,
    fun c cond n low => ?_, fun c cond n work => ?_, fun n => ⟨?_, ?_, ?_, ?_⟩,
    fun tag cond p hroom hm => ⟨fun hp => ?_, fun hp h1 h2 h3 => ?_, fun code h5 h8 => ?_⟩⟩
  · intro g p hd hc hl _
    obtain ⟨htick, htg, hend, hended, hchange, hg⟩ := restart_at_phase_end h low hd hc hl
    have hg' : (s.showCondition c cond).generator n =
        (s.generator n).restartedBy c cond (patternOf s.patterns cond) := by
      rw [showCondition_quiet h, if_pos ⟨hd, hc⟩]
    refine ⟨_, exec_beaconConditionChange h c cond, ⟨_, htick, htg⟩, hend, _, hended, _, hchange, ?_⟩
    rw [hg, hg']
    exact ⟨rfl, rfl, rfl, rfl⟩
  · intro g hd hc
    have hin : ({ s with inFlight := work ++ [.tickDone] } : State).inTick = true := by simp [State.inTick]
    show (State.showCondition _ c cond).generator n = _
    rw [State.showCondition_generator, State.shownBy, hin, Generator.restart_inTick]
    exact if_pos ⟨hd, hc⟩
  · intro hn
    rw [exec_beaconPhaseEnd h, State.endPhase, if_pos hn]
  · intro hl hc hp
    rw [exec_beaconPhaseEnd h, endPhase_on hl hc hp]
  · intro hl hc hp
    rw [exec_beaconPhaseEnd h, endPhase_off hl hc hp]
  · simp [State.lineHigh, h.1]
  · obtain ⟨u, hw, hu, hgen⟩ := writePattern_inRange (s := s.hunting siteLink) hm h.2.1 cond hp
    have hpat : u.patterns = setPattern s.patterns cond p := by rw [hu]; rfl
    refine ⟨u.replied tag 0x06#8 [], by rw [exec_writePattern h, request_accept hroom hw], by rw [hu]; rfl, ?_, fun other ho => ?_, hgen⟩
    · show patternOf u.patterns cond = p
      rw [hpat, patternOf_setPattern_same]
    · show patternOf u.patterns other = _
      rw [hpat, patternOf_setPattern_ne _ _ ho]
  · rw [exec_writePattern h, request_refuse hroom (writePattern_outOfRange (by exact hm) cond hp ⟨h1, h2, h3⟩)]
  · rw [exec_writePattern h, request_refuse hroom (writePattern_badCode (by exact hm) h5 h8 p)]

end Sys2Proof.Machine
end

/-! ## Firsts and lasts of ascending lists -/

section
namespace Sys2Proof.Machine

variable {α β : Type} [LinearOrder α] {l : List α}

/-- The first of an ascending list that meets a test. -/
theorem find?_ascending (h : l.Pairwise (· < ·)) (p : α → Bool) (a : α) :
    l.find? p = some a ↔ a ∈ l ∧ p a = true ∧ ∀ b ∈ l, b < a → p b = false := by
  induction l with
  | nil => simp
  | cons x xs ih =>
    obtain ⟨hx, hxs⟩ := List.pairwise_cons.mp h
    rw [List.find?_cons]
    cases hp : p x with
    | true =>
      constructor
      · rintro ⟨rfl⟩
        exact ⟨List.mem_cons_self, hp, fun b hb hlt => by
          rcases List.mem_cons.mp hb with rfl | hb
          · exact absurd hlt (lt_irrefl _)
          · exact absurd (hx b hb) hlt.asymm⟩
      · rintro ⟨ha, hpa, hmin⟩
        rcases List.mem_cons.mp ha with rfl | ha
        · rfl
        · rw [hmin x List.mem_cons_self (hx a ha)] at hp; cases hp
    | false =>
      simp only [ih hxs, List.mem_cons]
      constructor
      · rintro ⟨ha, hpa, hmin⟩
        exact ⟨.inr ha, hpa, fun b hb hlt => hb.elim (fun e => e ▸ hp) (fun hb => hmin b hb hlt)⟩
      · rintro ⟨rfl | ha, hpa, hmin⟩
        · rw [hp] at hpa; cases hpa
        · exact ⟨ha, hpa, fun b hb hlt => hmin b (.inr hb) hlt⟩

/-- The first value that a function gives along an ascending list. -/
theorem findSome?_ascending (h : l.Pairwise (· < ·)) (f : α → Option β) (y : β) :
    l.findSome? f = some y ↔ ∃ a ∈ l, f a = some y ∧ ∀ b ∈ l, b < a → f b = none := by
  induction l with
  | nil => simp
  | cons x xs ih =>
    obtain ⟨hx, hxs⟩ := List.pairwise_cons.mp h
    rw [List.findSome?_cons]
    cases hf : f x with
    | some z =>
      constructor
      · rintro ⟨rfl⟩
        exact ⟨x, List.mem_cons_self, hf, fun b hb hlt => by
          rcases List.mem_cons.mp hb with rfl | hb
          · exact absurd hlt (lt_irrefl _)
          · exact absurd (hx b hb) hlt.asymm⟩
      · rintro ⟨a, ha, hfa, hmin⟩
        rcases List.mem_cons.mp ha with rfl | ha
        · exact hf.symm.trans hfa
        · rw [hmin x List.mem_cons_self (hx a ha)] at hf; cases hf
    | none =>
      simp only [ih hxs, List.mem_cons]
      constructor
      · rintro ⟨a, ha, hfa, hmin⟩
        exact ⟨a, .inr ha, hfa, fun b hb hlt => hb.elim (fun e => e ▸ hf) (fun hb => hmin b hb hlt)⟩
      · rintro ⟨a, rfl | ha, hfa, hmin⟩
        · rw [hf] at hfa; cases hfa
        · exact ⟨a, ha, hfa, fun b hb hlt => hmin b (.inr hb) hlt⟩

/-- The last of an ascending list is its greatest. -/
theorem getLast?_ascending (h : l.Pairwise (· < ·)) (a : α) :
    l.getLast? = some a ↔ a ∈ l ∧ ∀ b ∈ l, b ≤ a := by
  induction l with
  | nil => simp
  | cons x xs ih =>
    obtain ⟨hx, hxs⟩ := List.pairwise_cons.mp h
    cases xs with
    | nil =>
      simp only [List.getLast?_singleton, Option.some.injEq, List.mem_singleton, forall_eq]
      exact ⟨fun e => ⟨e.symm, e.le⟩, fun e => e.1.symm⟩
    | cons y ys =>
      rw [List.getLast?_cons_cons, ih hxs]
      constructor
      · rintro ⟨ha, hmax⟩
        exact ⟨List.mem_cons_of_mem _ ha, fun b hb => by
          rcases List.mem_cons.mp hb with rfl | hb
          · exact (hx a ha).le
          · exact hmax b hb⟩
      · rintro ⟨ha, hmax⟩
        rcases List.mem_cons.mp ha with rfl | ha
        · exact absurd (hmax y (by simp)) (hx y (by simp)).not_ge
        · exact ⟨ha, fun b hb => hmax b (List.mem_cons_of_mem _ hb)⟩

/-- The last of an ascending list that meets a test. -/
theorem getLast?_filter_ascending (h : l.Pairwise (· < ·)) (p : α → Bool) (a : α) :
    (l.filter p).getLast? = some a ↔ a ∈ l ∧ p a = true ∧ ∀ b ∈ l, a < b → p b = false := by
  rw [getLast?_ascending (h.filter p)]
  simp only [List.mem_filter, and_assoc, and_imp]
  refine and_congr_right fun _ => and_congr_right fun _ => forall₂_congr fun b _ => ?_
  constructor
  · intro hb hlt
    by_contra hp
    exact absurd (hb (by simpa using hp)) hlt.not_ge
  · intro hb hp
    by_contra hlt
    rw [hb (not_le.mp hlt)] at hp; cases hp

theorem allCranes_ascending : allCranes.Pairwise (· < ·) := by decide
theorem allSectors_ascending : allSectors.Pairwise (· < ·) := by decide
theorem mem_allCranes (c : Crane) : c ∈ allCranes := by revert c; decide
theorem mem_allSectors (k : Sector) : k ∈ allSectors := by revert k; decide
theorem allSectors_eq : allSectors = List.finRange 16 := by decide

end Sys2Proof.Machine
end

/-! ## The terms of a crane (R6, R10, R13, R25 to R30, R50, R87, R109, R138, R171): O45 -/

section
namespace Sys2Proof.Machine

/-- R13: a profile is valid exactly when its fields are in range and its relations hold. -/
theorem profileValid_iff (p : WindProfile) : profileValid p = true ↔ p.InRange := by
  simp only [profileValid, WindProfile.InRange, Bool.and_eq_true, within_iff, decide_eq_true_eq, Nat.zero_le, true_and,
    and_assoc]

variable {s : State} {c : Crane}

theorem isMember_iff {k : Sector} : s.isMember k c = true ↔ (s.sector k).enabled = true ∧ c ∈ (s.sector k).members := by
  simp [State.isMember]

theorem located_iff : s.located c = true ↔ (s.position c).state = .tracked ∨ (s.position c).state = .degraded := by
  simp [State.located]

theorem parked_iff :
    s.parked c = true ↔ (s.position c).state = .tracked ∧ s.evalRadius c ≤ (s.crane c).parkRadius ∧
      (s.crane c).parkHeight ≤ s.evalHeight c ∧ (s.detector c).state = .unloaded := by
  simp [State.parked, and_assoc]

/-! ### The current segment (R8, R28, R37) -/

theorem segmentAt_of_getElem? {z : List Segment} {i : Nat} {g : Segment} (h : z[i]? = some g) : segmentAt z i = g := by
  obtain ⟨hi, -⟩ := List.getElem?_eq_some_iff.mp h
  simp [segmentAt, Nat.mod_eq_of_lt hi, List.getD_eq_getElem?_getD, h]

theorem getElem?_segmentAt {z : List Segment} {i : Nat} (h : i < z.length) : z[i]? = some (segmentAt z i) := by
  simp [segmentAt, Nat.mod_eq_of_lt h, h]

/-- R8: the last segment whose start is at most an angle, or else the last of the list. -/
theorem containing_iff (z : List Segment) (θ i : Nat) :
    containing z θ = some i ↔ ∃ g, z[i]? = some g ∧
      ((g.start ≤ θ ∧ ∀ j g', i < j → z[j]? = some g' → θ < g'.start) ∨
        (i + 1 = z.length ∧ ∀ g' ∈ z, θ < g'.start)) := by
  have starts : ∀ i, ((List.range z.length).filter (fun i => (segmentAt z i).start ≤ θ)).getLast? = some i ↔
      ∃ g, z[i]? = some g ∧ g.start ≤ θ ∧ ∀ j g', i < j → z[j]? = some g' → θ < g'.start := by
    intro i
    rw [getLast?_filter_ascending List.pairwise_lt_range]
    constructor
    · rintro ⟨hi, hs, hmax⟩
      refine ⟨_, getElem?_segmentAt (List.mem_range.mp hi), by simpa using hs, fun j g' hj hg' => ?_⟩
      have := hmax j (List.mem_range.mpr (List.getElem?_eq_some_iff.mp hg').1) hj
      rw [segmentAt_of_getElem? hg'] at this
      simpa using this
    · rintro ⟨g, hg, hs, hmax⟩
      refine ⟨List.mem_range.mpr (List.getElem?_eq_some_iff.mp hg).1, by simpa [segmentAt_of_getElem? hg] using hs,
        fun j hj hij => ?_⟩
      simpa using hmax j _ hij (getElem?_segmentAt (List.mem_range.mp hj))
  unfold containing
  split
  · next m hm =>
    obtain ⟨g, hg, hs, -⟩ := (starts m).mp hm
    rw [← hm, starts]
    refine exists_congr fun g' => and_congr_right fun _ => (or_iff_left ?_).symm
    rintro ⟨-, hall⟩
    exact absurd hs (hall g (List.mem_of_getElem? hg)).not_ge
  · next hn =>
    have hall : ∀ g ∈ z, θ < g.start := by
      intro g hg
      obtain ⟨j, hj, rfl⟩ := List.getElem_of_mem hg
      rw [List.getLast?_eq_none_iff, List.filter_eq_nil_iff] at hn
      have := hn j (List.mem_range.mpr hj)
      rw [segmentAt_of_getElem? (List.getElem?_eq_getElem hj)] at this
      simpa using this
    split
    · next hz => subst hz; simp
    · next hz =>
      have hlen := List.length_pos_iff.mpr hz
      rw [Option.some.injEq]
      constructor
      · intro hi
        exact ⟨_, getElem?_segmentAt (by omega), .inr ⟨by omega, hall⟩⟩
      · rintro ⟨g, hg, ⟨hs, -⟩ | ⟨hi, -⟩⟩
        · exact absurd hs (hall g (List.mem_of_getElem? hg)).not_ge
        · omega

/-- R37: the current segment is the one that the crane stands in. -/
theorem current_iff {i : Nat} : s.current c = some i ↔ ∃ g, s.StandsIn c i g := by
  unfold State.current State.StandsIn
  by_cases h : s.located c = true
  · rw [if_pos h, containing_iff]
    simp [located_iff.mp h]
  · rw [if_neg h]
    simp [mt located_iff.mpr h]

theorem segmentAt_of_standsIn {i : Nat} {g : Segment} (h : s.StandsIn c i g) : segmentAt (s.zone c) i = g :=
  segmentAt_of_getElem? h.2.1

theorem sharedSector_iff {g : Segment} {k : Sector} :
    s.sharedSector c g = some k ↔ g.kind = .shared ∧ g.sector = k ∧ s.isMember k c = true := by
  unfold State.sharedSector
  split
  · next h =>
    rw [Option.some.injEq]
    exact ⟨fun e => ⟨h.1, e, e ▸ h.2⟩, fun e => e.2.1⟩
  · next h =>
    refine iff_of_false nofun ?_
    rintro ⟨hk, rfl, hm⟩
    exact h ⟨hk, hm⟩

theorem inBand_iff {g : Segment} {r : Nat} : inBand g r = true ↔ g.rLo ≤ r ∧ r ≤ g.rHi := by
  simp [inBand]

/-- R28: a crane is present in the sector of the SHARED segment it stands in. -/
theorem presenceOf_iff {k : Sector} :
    s.presenceOf c = some k ↔ ∃ i g, s.StandsIn c i g ∧ g.kind = .shared ∧ g.sector = k ∧ s.isMember k c = true ∧
      ((s.sector k).clash = .jib ∨ (g.rLo ≤ s.evalRadius c ∧ s.evalRadius c ≤ g.rHi)) := by
  constructor
  · intro h
    unfold State.presenceOf at h
    split at h
    · cases h
    · next i hi =>
      obtain ⟨g, hg⟩ := current_iff.mp hi
      simp only [segmentAt_of_standsIn hg] at h
      split at h
      · cases h
      · next j hj =>
        split at h
        · next hb =>
          cases h
          obtain ⟨hk, hs, hm⟩ := sharedSector_iff.mp hj
          exact ⟨i, g, hg, hk, hs, hm, by rwa [inBand_iff] at hb⟩
        · cases h
  · rintro ⟨i, g, hg, hk, hs, hm, hb⟩
    unfold State.presenceOf
    simp only [current_iff.mpr ⟨g, hg⟩, segmentAt_of_standsIn hg, sharedSector_iff.mpr ⟨hk, hs, hm⟩, inBand_iff, if_pos hb]

/-! ### Booked overloads (R50, R87) -/

theorem holds_iff {k : Sector} : s.holds k c = true ↔ ∃ g, (s.entry k).base = .held c g := by
  unfold State.holds holderOf
  cases (s.entry k).base <;> simp

/-- R50: the max load of the booking that owns the grant under which a crane holds a sector. -/
theorem bookedMax_iff {k : Sector} {id : Half} {m : Nat} :
    s.bookedMax c k = some (id, m) ↔ ∃ g b, (s.entry k).base = .held c g ∧ g.kind = .booked id ∧
      s.bookings.find? (fun b => b.id == id) = some b ∧ b.maxLoad = m ∧ 0 < m := by
  unfold State.bookedMax
  constructor
  · intro h
    split at h
    · next hh =>
      obtain ⟨g, hg⟩ := holds_iff.mp hh
      simp only [grantOf, hg] at h
      split at h
      · next id' hk =>
        split at h
        · next b hb =>
          split at h
          · next hm =>
            cases h
            exact ⟨g, b, hg, hk, hb, rfl, hm⟩
          · cases h
        · cases h
      · cases h
    · cases h
  · rintro ⟨g, b, hg, hk, hb, rfl, hm⟩
    rw [if_pos (holds_iff.mpr ⟨g, hg⟩)]
    simp only [grantOf, hg, hk, State.booking, hb, gt_iff_lt, if_pos hm]

/-- What `State.overloadedSector` looks for in one sector. -/
def State.overloadIn (s : State) (c : Crane) (load : Nat) (k : Sector) : Option (Sector × Half × Nat) :=
  match s.bookedMax c k with
  | some (id, m) => if load > m then some (k, id, m) else none
  | none => none

theorem overloadIn_iff {load : Nat} {k : Sector} {y : Sector × Half × Nat} :
    s.overloadIn c load k = some y ↔ ∃ id m, s.bookedMax c k = some (id, m) ∧ m < load ∧ y = (k, id, m) := by
  unfold State.overloadIn
  cases hb : s.bookedMax c k with
  | none => simp
  | some x =>
    obtain ⟨id, m⟩ := x
    by_cases hm : m < load
    · simp [hm, eq_comm]
    · simp [hm]

/-- R50, R87: the overloaded sector is the lowest-numbered. -/
theorem overloadedSector_iff {load : Nat} {k : Sector} {id : Half} {m : Nat} :
    s.overloadedSector c load = some (k, id, m) ↔
      (s.bookedMax c k = some (id, m) ∧ m < load) ∧
        ∀ j < k, ∀ id m, ¬ (s.bookedMax c j = some (id, m) ∧ m < load) := by
  have hfind : s.overloadedSector c load = allSectors.findSome? (s.overloadIn c load) := rfl
  rw [hfind, findSome?_ascending allSectors_ascending]
  simp only [mem_allSectors, true_and, true_implies, Option.eq_none_iff_forall_ne_some, ne_eq, overloadIn_iff]
  constructor
  · rintro ⟨j, ⟨id', m', hb, hm, e⟩, hmin⟩
    cases e
    exact ⟨⟨hb, hm⟩, fun i hi id'' m'' h => hmin i hi _ ⟨id'', m'', h.1, h.2, rfl⟩⟩
  · rintro ⟨⟨hb, hm⟩, hmin⟩
    exact ⟨k, ⟨id, m, hb, hm, rfl⟩, fun i hi y ⟨id'', m'', hb', hm', _⟩ => hmin i hi id'' m'' ⟨hb', hm'⟩⟩

/-! ### Lines (R171) -/

/-- R171: the driver of a line is the highest-numbered present crane whose record names it. -/
theorem lineDriver_iff {n : BeaconLine} {d : Crane} :
    s.lineDriver n = some d ↔ (s.crane d).present = true ∧ (s.crane d).beaconLine = some n ∧
      ∀ e, d < e → (s.crane e).present = true → (s.crane e).beaconLine ≠ some n := by
  unfold State.lineDriver
  rw [getLast?_filter_ascending allCranes_ascending]
  simp [mem_allCranes, and_assoc]

theorem beaconCondition_fault (h : s.located c = false ∨ (s.windOf c).source = .none) :
    s.beaconCondition c = .fault := by
  refine if_pos ?_
  rcases h with h | h <;> simp [h]

/-- Settles O45: each term is read off its definition; the current segment, the first overloaded sector and the driver of
a line are firsts and lasts of ascending lists. -/
theorem craneTermsMean : Obligations.CraneTermsMean := by
  refine ⟨profileValid_iff, fun s c => ⟨rfl, fun k => isMember_iff, by rw [State.sectorsOf, allSectors_eq], parked_iff,
    fun k => presenceOf_iff, fun h => ?_, fun h => ?_, fun h => ?_, fun h => ?_, fun l h => ?_, fun h => ?_,
    fun hl hs => ?_, fun load k id m => ?_⟩, fun s n d => lineDriver_iff, by decide⟩
  · exact if_pos (located_iff.mpr h)
  · exact if_neg (mt located_iff.mp h)
  · simp [State.gustNumber, State.meanNumber, State.usedGust, State.usedMean, h]
  · simp [State.gustNumber, State.meanNumber, State.usedGust, State.usedMean, h]
  · simp [State.gustNumber, State.meanNumber, State.usedGust, State.usedMean, h]
  · exact beaconCondition_fault (h.imp_left fun h => by simpa using mt located_iff.mp h)
  · refine (if_neg ?_).trans rfl
    simp [located_iff.mpr hl, hs]
  · rw [overloadedSector_iff]
    simp only [bookedMax_iff, and_assoc, ← exists_and_right]

end Sys2Proof.Machine
end

/-! ## WRITE_PROFILE (R3, R4, R13): O21 -/

section
namespace Sys2Proof.Machine

variable {s : State}

/-! ### Wind records replaced one by one -/

/-- A fold that replaces wind records changes the bank of wind records alone. -/
theorem foldl_setWind_frame (F : State → Crane → WindRecord) (cs : List Crane) (s : State) :
    cs.foldl (fun t c => t.setWind c (F t c)) s =
      { s with winds := (cs.foldl (fun t c => t.setWind c (F t c)) s).winds } := by
  have : ∃ ws, cs.foldl (fun t c => t.setWind c (F t c)) s = { s with winds := ws } := by
    induction cs generalizing s with
    | nil => exact ⟨s.winds, rfl⟩
    | cons c cs ih =>
      obtain ⟨ws, e⟩ := ih (s.setWind c (F s c))
      exact ⟨ws, e⟩
  obtain ⟨ws, e⟩ := this
  rw [e]

/-- A fold over distinct cranes whose step works on one crane's wind record works on each once. -/
theorem foldl_setWind_windOf (F : Crane → WindRecord → WindRecord) {cs : List Crane} (hn : cs.Nodup) (s : State)
    (d : Crane) :
    (cs.foldl (fun t c => t.setWind c (F c (t.windOf c))) s).windOf d =
      if d ∈ cs then F d (s.windOf d) else s.windOf d := by
  induction cs generalizing s with
  | nil => simp
  | cons c cs ih =>
    rw [List.nodup_cons] at hn
    rw [List.foldl_cons, ih hn.2]
    by_cases hd : d = c
    · subst hd; simp [hn.1]
    · simp [hd]

theorem allCranes_nodup : allCranes.Nodup := by decide

/-! ### Operands cut into fields (R159) -/

/-- Fields written one after the other are cut at the same places. -/
theorem cutFields_flatten (xss : List (List Byte)) :
    cutFields (xss.map List.length) xss.flatten = some (xss.map numberOf) := by
  induction xss with
  | nil => rfl
  | cons xs xss ih => rw [List.map_cons, List.flatten_cons, cutFields_append, ih]; rfl

/-- Operands of the right count whose first field is one octet wide begin with that field. -/
theorem cutFields_first {ws : List Nat} {n : Nat} {others : List Byte} (hn : n < 256) (ho : others.length = ws.sum) :
    ∃ rest, cutFields (1 :: ws) (octet1 n ++ others) = some (n :: rest) ∧ rest.length = ws.length := by
  obtain ⟨rest, hr, hl⟩ := cutFields_right ho
  exact ⟨rest, by rw [cutFields_octet1, hr, numberOf_octet1 hn, Option.map_some], hl⟩

/-! ### The fields of a profile -/

/-- The code of a vane mode (R157). -/
def vaneCode : VaneMode → Nat
  | .manual => 0
  | .auto => 1

/-- The fields of WRITE_PROFILE that follow the profile's number. -/
def WindProfile.fields (p : WindProfile) : List Nat :=
  [p.gustWindow, p.blockLength, p.meanBlocks, p.alertOn, p.alertOff, p.stopGust, p.stopMean, p.stopOff, p.debounce,
   p.recovery, vaneCode p.vaneMode, p.vaneDelay, p.vaneTimeout, p.alertCaps.slew, p.alertCaps.trolley, p.alertCaps.hoist,
   p.stopCaps.slew, p.stopCaps.trolley, p.stopCaps.hoist]

/-- R13: the ranges fit the octets. -/
theorem WindProfile.InRange.fits {p : WindProfile} (h : p.InRange) : p.Fits := by
  obtain ⟨h1, h2, h3, h4, h5, h6, h7, h8, h9, h10, -⟩ := h
  refine ⟨?_, ?_, ?_, ?_, ?_⟩ <;> omega

/-- The operands of WRITE_PROFILE, field by field. -/
def profileParts (n : ProfileNo) (p : WindProfile) : List (List Byte) :=
  [octet1 n.val, octet1 p.gustWindow, octet1 p.blockLength, octet1 p.meanBlocks, octet2 p.alertOn, octet2 p.alertOff,
   octet2 p.stopGust, octet2 p.stopMean, octet2 p.stopOff, octet1 p.debounce, octet2 p.recovery,
   octet1 (vaneCode p.vaneMode), octet2 p.vaneDelay, octet2 p.vaneTimeout, octet2 p.alertCaps.slew,
   octet2 p.alertCaps.trolley, octet2 p.alertCaps.hoist, octet2 p.stopCaps.slew, octet2 p.stopCaps.trolley,
   octet2 p.stopCaps.hoist]

theorem profileOctets_parts (n : ProfileNo) (p : WindProfile) : profileOctets n p = (profileParts n p).flatten := by
  unfold profileOctets profileParts
  cases p.vaneMode with
  | manual => simp only [vaneCode, List.append_assoc, List.flatten_cons, List.flatten_nil, List.append_nil]
  | auto => simp only [vaneCode, List.append_assoc, List.flatten_cons, List.flatten_nil, List.append_nil]

theorem profileParts_widths (n : ProfileNo) (p : WindProfile) :
    (profileParts n p).map List.length = profileWidths := rfl

/-- The fields of WRITE_PROFILE's operands. -/
theorem cutFields_profileOctets (n : ProfileNo) {p : WindProfile} (h : p.Fits) :
    cutFields profileWidths (profileOctets n p) = some (n.val :: p.fields) := by
  obtain ⟨⟨h1, h2, h3, h4⟩, ⟨h5, h6, h7, h8, h9⟩, ⟨h10, h11, h12⟩, ⟨h13, h14, h15⟩, h16, h17, h18⟩ := h
  have hn : n.val < 256 := n.isLt.trans (by decide)
  have hv : vaneCode p.vaneMode < 256 := by cases p.vaneMode <;> decide
  rw [profileOctets_parts, ← profileParts_widths n p, cutFields_flatten]
  simp only [profileParts, WindProfile.fields, List.map_cons, List.map_nil, numberOf_octet1, numberOf_octet2, *]

/-- R13: the fields of a profile give it back when it is valid. -/
theorem readProfile_fields (p : WindProfile) :
    readProfile p.fields = if profileValid p = true then some p else none := by
  have hmode : (if vaneCode p.vaneMode = 0 then VaneMode.manual else .auto) = p.vaneMode := by
    cases p.vaneMode <;> rfl
  have hcode : vaneCode p.vaneMode ≤ 1 := by cases p.vaneMode <;> decide
  simp only [readProfile, WindProfile.fields, hmode, hcode, decide_true, Bool.true_and]

/-- R3: WRITE_PROFILE of a valid profile. -/
theorem writeProfile_inRange (hm : s.mode = .config) (n : ProfileNo) {p : WindProfile} (h : p.InRange) :
    writeProfile (profileOctets n p) s = accept (storeProfile n p s) := by
  rw [writeProfile, tableWrite_config hm (cutFields_profileOctets n h.fits)]
  simp only [List.headD_cons, List.tail_cons, readProfile_fields, if_pos ((profileValid_iff p).mpr h)]
  rw [if_neg (by omega), Fin.ofNat_val_eq_self]
  rfl

/-- R13: a profile that would not be valid is refused. -/
theorem writeProfile_outOfRange (hm : s.mode = .config) (n : ProfileNo) {p : WindProfile} (h : ¬ p.InRange)
    (hf : p.Fits) : writeProfile (profileOctets n p) s = refuse s .badValue := by
  rw [writeProfile, tableWrite_config hm (cutFields_profileOctets n hf)]
  simp only [List.headD_cons, List.tail_cons, readProfile_fields, if_neg (mt (profileValid_iff p).mp h)]
  rw [if_neg (by omega)]

/-- R3: a profile's number above 3. -/
theorem writeProfile_badIndex (hm : s.mode = .config) {m : Nat} (h3 : 3 < m) (h : m < 256) {others : List Byte}
    (ho : others.length = 33) : writeProfile (octet1 m ++ others) s = refuse s .badIndex := by
  obtain ⟨rest, hc, -⟩ := cutFields_first (ws := profileWidths.tail) h ho
  replace hc : cutFields profileWidths (octet1 m ++ others) = some (m :: rest) := hc
  rw [writeProfile, tableWrite_config hm hc]
  exact if_pos h3

/-- R3: which wind records a stored profile restarts. -/
theorem storeProfile_windOf (n : ProfileNo) (p : WindProfile) (s : State) (c : Crane) :
    (storeProfile n p s).windOf c =
      if (s.crane c).profile = n then restartCounting (s.windOf c) else s.windOf c := by
  unfold storeProfile
  rw [foldl_setWind_windOf (fun _ w => restartCounting w) (allCranes_nodup.filter _)]
  simp [mem_allCranes]

/-- R3, R13: a stored profile touches the profiles and the wind records. -/
theorem storeProfile_frame (n : ProfileNo) (p : WindProfile) (s : State) :
    storeProfile n p s = { s with profiles := s.profiles.write n p, winds := (storeProfile n p s).winds } :=
  foldl_setWind_frame (fun t c => restartCounting (t.windOf c)) _ _

/-- Settles O21: a valid profile is stored and the counting of the cranes that name it restarts; one that is not valid, or
of a number above 3, is refused. -/
theorem profileWritten : Obligations.ProfileWritten := by
  intro s tag n p h hroom hm
  refine ⟨fun hp => ?_, fun hp hf => ?_, fun m others h3 h8 ho => ?_⟩
  · have hu := storeProfile_frame n p (s.hunting siteLink)
    have hw := storeProfile_windOf n p (s.hunting siteLink)
    refine ⟨(storeProfile n p (s.hunting siteLink)).replied tag 0x05#8 [], ?_, ?_, hw⟩
    · rw [exec_writeProfile h, request_accept hroom (writeProfile_inRange (by exact hm) n hp)]
    · rw [hu]; rfl
  · rw [exec_writeProfile h, request_refuse hroom (writeProfile_outOfRange (by exact hm) n hp hf)]
  · rw [exec_writeProfile h, request_refuse hroom (writeProfile_badIndex (by exact hm) h3 h8 ho)]

end Sys2Proof.Machine
end

/-! ## Presence recomputed (R28 to R31) -/

section
namespace Sys2Proof.Machine

variable {s t : State} {c : Crane}

/-- A position record without its standing in the sectors. -/
def PositionRecord.held (p : PositionRecord) : PositionRecord := { p with present := none, obstructed := [] }

/-- R31: crane `c`'s position record with its standing recomputed. -/
def State.restood (s : State) (c : Crane) : PositionRecord :=
  { s.position c with present := s.presenceOf c, obstructed := s.obstructedBy c }

theorem located_congr (hp : (t.position c).held = (s.position c).held) : t.located c = s.located c := by
  have hstate : (t.position c).state = (s.position c).state := by
    have := congrArg PositionRecord.state hp; exact this
  rw [State.located, State.located, hstate]

/-- R28: presence is a matter of the tables and of the held position. -/
theorem presenceOf_congr (hc : t.crane c = s.crane c) (hz : t.zone c = s.zone c) (hs : t.sectors = s.sectors)
    (hp : (t.position c).held = (s.position c).held) : t.presenceOf c = s.presenceOf c := by
  have hangle : (t.position c).angle = (s.position c).angle := by
    have := congrArg PositionRecord.angle hp; exact this
  have hradius : (t.position c).radius = (s.position c).radius := by
    have := congrArg PositionRecord.radius hp; exact this
  have hok : (t.position c).trolleyOk = (s.position c).trolleyOk := by
    have := congrArg PositionRecord.trolleyOk hp; exact this
  simp only [State.presenceOf, State.current, State.sharedSector, State.isMember, State.evalRadius, State.sector,
    located_congr hp, hc, hz, hs, hangle, hradius, hok] <;> rfl

/-- R29: obstruction is a matter of the sector table and of the position state. -/
theorem obstructedBy_congr (hs : t.sectors = s.sectors) (hp : (t.position c).held = (s.position c).held) :
    t.obstructedBy c = s.obstructedBy c := by
  simp only [State.obstructedBy, State.sectorsOf, State.isMember, State.sector, located_congr hp, hs]

theorem restood_congr (hc : t.crane c = s.crane c) (hz : t.zone c = s.zone c) (hs : t.sectors = s.sectors)
    (hp : t.position c = s.position c) : t.restood c = s.restood c := by
  have hheld := by
    have := congrArg PositionRecord.held hp; exact this
  simp only [State.restood, hp, presenceOf_congr hc hz hs hheld, obstructedBy_congr hs hheld]

/-- R31: a recomputation replaces one position record and sends its reports. -/
theorem recomputePresence_eq (c : Crane) (skip : Option Sector) (s : State) :
    recomputePresence c skip s =
      { s with positions := s.positions.write c (s.restood c)
               inFlight := s.inFlight ++ presenceReports c skip (s.position c) (s.restood c) } := rfl

/-- R30: which notices a recomputation sends. -/
theorem mem_presenceReports {skip : Option Sector} {p q : PositionRecord} {m : Notice} :
    m ∈ presenceReports c skip p q ↔ ∃ k change, m = .presence k c change ∧ skip ≠ some k ∧
      presenceChange (p.present == some k) (q.present == some k) (p.obstructed.contains k) (q.obstructed.contains k) =
        some change := by
  simp only [presenceReports, List.mem_filterMap, mem_allSectors, true_and]
  refine exists_congr fun k => ?_
  by_cases hk : skip = some k
  · simp [hk]
  · simp only [hk, reduceIte, Option.map_eq_some_iff, ne_eq, not_false_eq_true, true_and]
    exact ⟨fun ⟨change, h, e⟩ => ⟨change, e.symm, h⟩, fun ⟨change, e, h⟩ => ⟨change, h, e.symm⟩⟩

/-- R31: recomputations of several cranes, one after the other. -/
theorem foldl_recomputePresence {skip : Option Sector} {cs : List Crane} (hn : cs.Nodup)
    (ht : cs.foldl (fun t c => recomputePresence c skip t) s = t) :
    t = { s with positions := t.positions, inFlight := t.inFlight } ∧
      (∀ d, t.position d = if d ∈ cs then s.restood d else s.position d) ∧
      ∀ m, m ∈ t.inFlight ↔ m ∈ s.inFlight ∨ ∃ d ∈ cs, m ∈ presenceReports d skip (s.position d) (s.restood d) := by
  induction cs generalizing s with
  | nil => subst ht; simp
  | cons c cs ih =>
    rw [List.nodup_cons] at hn
    have hpos (d : Crane) : (recomputePresence c skip s).position d = if d = c then s.restood c else s.position d :=
      Bank.read_write _ _ _ _
    have hother {d : Crane} (hd : d ∈ cs) : d ≠ c := fun e => hn.1 (e ▸ hd)
    have hstood {d : Crane} (hd : d ≠ c) : (recomputePresence c skip s).restood d = s.restood d :=
      restood_congr rfl rfl rfl (by rw [hpos, if_neg hd])
    obtain ⟨hframe, hposition, hflight⟩ := ih hn.2 (s := recomputePresence c skip s) ht
    refine ⟨hframe, fun d => ?_, fun m => ?_⟩
    · rw [hposition]
      by_cases hd : d = c
      · subst hd; simp [hn.1, hpos]
      · simp [hd, hpos, hstood hd]
    · rw [hflight, recomputePresence_eq, List.mem_append, or_assoc]
      simp only [List.mem_cons, exists_eq_or_imp]
      refine or_congr_right (or_congr_right (exists_congr fun d => and_congr_right fun hd => ?_))
      rw [← recomputePresence_eq, hpos, if_neg (hother hd), hstood (hother hd)]

end Sys2Proof.Machine
end

/-! ## Source selection (R119, R120) -/

section
namespace Sys2Proof.Machine

variable {s t : State}

/-! ### The best lender -/

/-- The choice that `State.bestLender` makes along the lenders. -/
def State.better (s : State) (best : Option Crane) (c : Crane) : Option Crane :=
  match best with
  | none => some c
  | some b => if s.ownGustOf b < s.ownGustOf c then some c else some b

/-- Crane `l` is the best of a list: no other has a higher own gust, nor an equal one and a lower number. -/
def State.BestOf (s : State) (cs : List Crane) (l : Crane) : Prop :=
  l ∈ cs ∧ ∀ d ∈ cs, s.ownGustOf d < s.ownGustOf l ∨ (s.ownGustOf d = s.ownGustOf l ∧ l ≤ d)

theorem State.BestOf.unique {cs : List Crane} {l m : Crane} (hl : s.BestOf cs l) (hm : s.BestOf cs m) : l = m := by
  have h1 := hl.2 m hm.1
  have h2 := hm.2 l hl.1
  rcases h1 with h1 | ⟨h1, hlm⟩
  · exact absurd h2 (by omega)
  · rcases h2 with h2 | ⟨-, hml⟩
    · omega
    · exact le_antisymm hlm hml

/-- The choice along an ascending list finds its best. -/
theorem foldl_better {cs : List Crane} (h : cs.Pairwise (· < ·)) :
    (cs.foldl s.better none = none → cs = []) ∧ ∀ l, cs.foldl s.better none = some l → s.BestOf cs l := by
  induction cs using List.reverseRecOn with
  | nil => simp
  | append_singleton cs c ih =>
    obtain ⟨hcs, -, hlast⟩ := List.pairwise_append.mp h
    obtain ⟨hnone, hsome⟩ := ih hcs
    rw [List.foldl_append, List.foldl_cons, List.foldl_nil]
    cases hb : cs.foldl s.better none with
    | none =>
      rw [hnone hb]
      refine ⟨nofun, fun l hl => ?_⟩
      cases hl
      exact ⟨by simp, by simp⟩
    | some b =>
      obtain ⟨hmem, hbest⟩ := hsome b hb
      have hlt := hlast b hmem c (by simp)
      by_cases hg : s.ownGustOf b < s.ownGustOf c
      · simp only [State.better, if_pos hg]
        refine ⟨nofun, fun l hl => ?_⟩
        cases hl
        refine ⟨by simp, fun d hd => ?_⟩
        rcases List.mem_append.mp hd with hd | hd
        · have := hbest d hd; omega
        · rw [List.mem_singleton.mp hd]; exact .inr ⟨rfl, le_refl _⟩
      · simp only [State.better, if_neg hg]
        refine ⟨nofun, fun l hl => ?_⟩
        cases hl
        refine ⟨by simp [hmem], fun d hd => ?_⟩
        rcases List.mem_append.mp hd with hd | hd
        · exact hbest d hd
        · rw [List.mem_singleton.mp hd]
          exact (lt_or_eq_of_le (not_lt.mp hg)).imp_right fun e => ⟨e, hlt.le⟩

theorem bestOf_lenders_iff {l : Crane} : s.BestOf s.lenders l ↔ s.BestLender l := by
  simp only [State.BestOf, State.BestLender, State.lenders, List.mem_filter, mem_allCranes, true_and, Bool.and_eq_true,
    and_assoc, and_imp, State.ownGustOf]

/-- R119: the lender that the selection finds. -/
theorem bestLender_iff {l : Crane} : s.bestLender = some l ↔ s.BestLender l := by
  have hfold : s.bestLender = s.lenders.foldl s.better none := rfl
  have hasc : s.lenders.Pairwise (· < ·) := allCranes_ascending.filter _
  obtain ⟨hnone, hsome⟩ := foldl_better (s := s) hasc
  rw [hfold, ← bestOf_lenders_iff]
  refine ⟨hsome l, fun hl => ?_⟩
  cases hb : s.lenders.foldl s.better none with
  | none => rw [hnone hb] at hl; exact absurd hl.1 (by simp)
  | some b => rw [(hsome b hb).unique hl]

/-- R119: what the selection gives a present crane. -/
theorem sourceFor_selected (c : Crane) :
    ((s.windOf c).fresh = true → s.sourceFor c = .own) ∧
    ((s.windOf c).fresh = false → (∀ l, s.sourceFor c = .borrowed l ↔ s.BestLender l) ∧
      ((∀ l, ¬ s.BestLender l) → s.sourceFor c = .none)) := by
  unfold State.sourceFor
  refine ⟨fun h => if_pos h, fun h => ?_⟩
  rw [if_neg (by simp [h])]
  cases hb : s.bestLender with
  | none =>
    have hno (l : Crane) : ¬ s.BestLender l := fun hl => nomatch (bestLender_iff.mpr hl).symm.trans hb
    exact ⟨fun l => iff_of_false nofun (hno l), fun _ => rfl⟩
  | some b =>
    have hbest := bestLender_iff.mp hb
    refine ⟨fun l => ?_, fun hall => absurd hbest (hall b)⟩
    rw [WindSource.borrowed.injEq, ← bestLender_iff, hb, Option.some.injEq]

/-! ### What a selection does -/

/-- R119: only a present crane's source is selected. -/
theorem selectAll_windOf (d : Crane) :
    s.selectAll.windOf d =
      if (s.crane d).present = true then { s.windOf d with source := s.sourceFor d } else s.windOf d := by
  refine (foldl_setWind_windOf (fun c w => { w with source := s.sourceFor c })
    (allCranes_nodup.filter fun c => (s.crane c).present) s d).trans ?_
  simp [mem_allCranes]

theorem selectAll_eq : s.selectAll = { s with winds := s.selectAll.winds } :=
  foldl_setWind_frame (fun t c => { t.windOf c with source := s.sourceFor c }) _ _

/-- R120: the notices of a selection between two states: the changes of beacon condition and the evaluations. -/
def selectionNotices (s t : State) : List Notice :=
  beaconNotices s t ++ (t.presentCranes.filter (fun d =>
    profileValid (t.profileOf d) && (s.windOf d).source != (t.windOf d).source)).map .evaluation

/-- R119, R120: the selection changes wind records, raises its events and sends its notices. -/
theorem selectSources_eq :
    selectSources none s =
      { s with winds := s.selectAll.winds
               events := (s.postAll (sourceChanges s s.selectAll)).events
               overflow := (s.postAll (sourceChanges s s.selectAll)).overflow
               inFlight := s.inFlight ++ selectionNotices s s.selectAll } := by
  have hevents : (s.selectAll.presentCranes.filter (fun c => (s.windOf c).source != (s.selectAll.windOf c).source)).map
      (fun c => sourceEvent c (s.selectAll.windOf c).source (s.windOf c).source) = sourceChanges s s.selectAll := by
    rw [State.presentCranes, List.filter_filter, sourceChanges]
    refine congrArg₂ _ (funext fun d => ?_) (List.filter_congr fun d _ => Bool.and_comm _ _)
    rw [sourceEvent]
    cases (s.selectAll.windOf d).source <;> rfl
  have hbeacons (bs : List EventBody) : beaconNotices s (s.selectAll.postAll bs) = beaconNotices s s.selectAll := by
    rw [State.postAll_frame]; rfl
  obtain ⟨he, ho⟩ := postAll_congr (sourceChanges s s.selectAll) (s := s) (t := s.selectAll) (by rw [selectAll_eq])
    (by rw [selectAll_eq]) (by rw [selectAll_eq]) (by rw [selectAll_eq]) (by rw [selectAll_eq])
  unfold selectSources
  simp only [hevents, withBeacons, hbeacons]
  rw [State.postAll_frame, he, ho]
  obtain ⟨winds, hw⟩ : ∃ winds, s.selectAll = { s with winds := winds } := ⟨_, selectAll_eq⟩
  rw [hw, selectionNotices, ← List.append_assoc]
  rfl

/-! ### A selection that a write calls for -/

/-- The state after a write that calls for a selection, or for none. -/
def State.reselected (s : State) (wanted : Bool) : State := if wanted then selectSources none s else s

variable {wanted : Bool}

/-- A selection touches wind records, events and notices. -/
theorem reselected_eq :
    s.reselected wanted =
      { s with winds := (s.reselected wanted).winds
               events := (s.postAll (sourceChanges s (s.reselected wanted))).events
               overflow := (s.postAll (sourceChanges s (s.reselected wanted))).overflow
               inFlight := s.inFlight ++ selectionNotices s (s.reselected wanted) } := by
  cases wanted with
  | false =>
    have hs : sourceChanges s s = [] := by simp [sourceChanges]
    have hn : selectionNotices s s = [] := by simp [selectionNotices, beaconNotices]
    show s = _
    rw [State.reselected, if_neg Bool.false_ne_true, hs, hn, List.append_nil]
    rfl
  | true =>
    obtain ⟨winds, hw⟩ : ∃ winds, s.selectAll = { s with winds := winds } := ⟨_, selectAll_eq⟩
    rw [State.reselected, if_pos rfl, selectSources_eq, hw]
    rfl

theorem reselected_windOf (d : Crane) :
    (s.reselected wanted).windOf d =
      if wanted = true ∧ (s.crane d).present = true then { s.windOf d with source := s.sourceFor d }
      else s.windOf d := by
  cases wanted with
  | false => rfl
  | true =>
    rw [State.reselected, if_pos rfl, selectSources_eq]
    exact (selectAll_windOf d).trans (by simp)

/-- R119: after a selection every present crane has the source it should. -/
theorem reselected_selected : (s.reselected true).SourcesSelected := by
  intro c hc
  have hcrane : (s.crane c).present = true := by rw [reselected_eq] at hc; exact hc
  have hw (d : Crane) : ((s.reselected true).windOf d).fresh = (s.windOf d).fresh ∧
      ((s.reselected true).windOf d).ownGust = (s.windOf d).ownGust := by
    rw [reselected_windOf]; split <;> exact ⟨rfl, rfl⟩
  have hbest (l : Crane) : (s.reselected true).BestLender l ↔ s.BestLender l := by
    unfold State.BestLender
    simp only [hw]
    rw [reselected_eq]
    rfl
  have hsource : ((s.reselected true).windOf c).source = s.sourceFor c := by
    rw [reselected_windOf, if_pos ⟨rfl, hcrane⟩]
  simp only [hw, hsource, hbest]
  exact sourceFor_selected c

theorem mem_selectionNotices {m : Notice} :
    m ∈ selectionNotices s t ↔
      (∃ d cond, m = .beacon d cond ∧ (s.crane d).present = true ∧ (t.crane d).present = true ∧
        cond = t.beaconCondition d ∧ s.beaconCondition d ≠ cond) ∨
      ∃ d, m = .evaluation d ∧ (t.crane d).present = true ∧ profileValid (t.profileOf d) = true ∧
        (t.windOf d).source ≠ (s.windOf d).source := by
  simp only [selectionNotices, beaconNotices, List.mem_append, List.mem_map, List.mem_filter, mem_allCranes, true_and,
    State.presentCranes, Bool.and_eq_true, bne_iff_ne, ne_eq, and_assoc]
  refine or_congr (exists_congr fun d => ?_) (exists_congr fun d => ?_)
  · exact ⟨fun ⟨hs, ht, hne, e⟩ => ⟨_, e.symm, hs, ht, rfl, hne⟩, fun ⟨cond, e, hs, ht, hc, hne⟩ =>
      ⟨hs, ht, hc ▸ hne, hc ▸ e.symm⟩⟩
  · exact ⟨fun ⟨ht, hp, hne, e⟩ => ⟨e.symm, ht, hp, Ne.symm hne⟩, fun ⟨e, ht, hp, hne⟩ => ⟨ht, hp, Ne.symm hne, e.symm⟩⟩

end Sys2Proof.Machine
end

/-! ## Sources selected and lines refreshed after a write of a crane record (R119, R120, R138, R171) -/

section
namespace Sys2Proof.Machine

variable {s t : State} {wanted : Bool}

theorem refreshLines_touches : ∃ lines, s.refreshLines = { s with generators := lines } :=
  ⟨_, frame_of_butGenerators (State.refreshLines_butGenerators s)⟩

/-- R171: outside the work of a tick a line held off is that of the statements. -/
theorem Generator.holdOff_eq (g : Generator) :
    g.holdOff false = { driver := none, condition := .off, phase := .off, left := none,
                        cutShort := decide (g.cutShort = true ∨ g.left = some 1) } := by
  have hl : (g.left == some 1) = decide (g.left = some 1) := Bool.eq_iff_iff.mpr (by simp)
  simp [Generator.holdOff, Generator.heldOff, Generator.cuts, hl]

/-- R171: outside the work of a tick, refreshed lines have their drivers and follow their conditions. -/
theorem refreshLines_follows (h : s.inTick = false) :
    (∀ n, (s.refreshLines.generator n).driver = s.lineDriver n) ∧ s.LinesFollow s.refreshLines := by
  obtain ⟨lines, hl⟩ := refreshLines_touches (s := s)
  have hdriver (n : BeaconLine) : s.refreshLines.lineDriver n = s.lineDriver n := by rw [hl]; rfl
  have hcond (c : Crane) : s.refreshLines.beaconCondition c = s.beaconCondition c := by rw [hl]; rfl
  refine ⟨fun n => ?_, fun n => ?_⟩
  · rw [State.refreshLines_generator]
    unfold State.followed
    split
    · next hd => split <;> simp_all [Generator.holdOff, Generator.heldOff]
    · next c hd => split <;> simp_all [Generator.restart]
  · dsimp only
    rw [hdriver, State.refreshLines_generator]
    unfold State.followed
    refine ⟨fun hd hg => ?_, fun hd hg => ?_, fun c hd => ?_⟩
    · simp only [hd, if_pos hg]
    · simp only [hd, if_neg hg, h, Generator.holdOff_eq]
    · simp only [hd, hcond, h, Generator.restart_eq]

/-- The state after a write of a crane record: the sources selected where the write calls for it, and the lines
refreshed. -/
def State.settled (s : State) (wanted : Bool) : State := (s.reselected wanted).refreshLines

theorem settled_eq :
    s.settled wanted =
      { s with winds := (s.settled wanted).winds
               events := (s.postAll (sourceChanges s (s.settled wanted))).events
               overflow := (s.postAll (sourceChanges s (s.settled wanted))).overflow
               generators := (s.settled wanted).generators
               inFlight := s.inFlight ++ selectionNotices s (s.settled wanted) } := by
  obtain ⟨lines, hl⟩ := refreshLines_touches (s := s.reselected wanted)
  have hr := reselected_eq (s := s) (wanted := wanted)
  have hs : sourceChanges s (s.settled wanted) = sourceChanges s (s.reselected wanted) := by
    rw [State.settled, hl]; rfl
  have hn : selectionNotices s (s.settled wanted) = selectionNotices s (s.reselected wanted) := by
    rw [State.settled, hl]; rfl
  rw [hs, hn, State.settled, hl]
  conv_lhs => rw [hr]

theorem settled_windOf (d : Crane) :
    (s.settled wanted).windOf d =
      if wanted = true ∧ (s.crane d).present = true then { s.windOf d with source := s.sourceFor d }
      else s.windOf d := by
  obtain ⟨lines, hl⟩ := refreshLines_touches (s := s.reselected wanted)
  rw [← reselected_windOf, State.settled, hl]
  rfl

/-- R119: a selection touches sources alone. -/
theorem settled_windOf_source (d : Crane) :
    (s.settled wanted).windOf d = { s.windOf d with source := ((s.settled wanted).windOf d).source } := by
  rw [settled_windOf]
  split <;> rfl

/-- R119: where no selection is called for, and for an absent crane, a wind record is kept. -/
theorem settled_windOf_kept {d : Crane} (h : wanted = false ∨ (s.crane d).present = false) :
    (s.settled wanted).windOf d = s.windOf d := by
  rw [settled_windOf, if_neg]
  rintro ⟨hw, hc⟩
  rcases h with h | h
  · rw [h] at hw; cases hw
  · rw [h] at hc; cases hc

theorem settled_cranes : (s.settled wanted).cranes = s.cranes := by conv_lhs => rw [settled_eq]

theorem settled_crane (d : Crane) : (s.settled wanted).crane d = s.crane d := by
  rw [State.crane, settled_cranes]; rfl

/-- R119: a selection is a matter of the presence of the cranes and of the wind records. -/
theorem State.SourcesSelected.congr (h : s.SourcesSelected) (hc : t.cranes = s.cranes) (hw : t.winds = s.winds) :
    t.SourcesSelected := by
  unfold State.SourcesSelected State.BestLender State.crane State.windOf at h ⊢
  rwa [hc, hw]

/-- R119: after a selection every present crane has the source it should. -/
theorem settled_selected : (s.settled true).SourcesSelected := by
  obtain ⟨lines, hl⟩ := refreshLines_touches (s := s.reselected true)
  exact reselected_selected.congr (by rw [State.settled, hl]) (by rw [State.settled, hl])

/-- What is in flight after such a write. -/
theorem mem_settled_inFlight {m : Notice} :
    m ∈ (s.settled wanted).inFlight ↔ m ∈ s.inFlight ∨
      (∃ d cond, m = .beacon d cond ∧ ((s.settled wanted).crane d).present = true ∧ cond = (s.settled wanted).beaconCondition d ∧
        s.beaconCondition d ≠ cond) ∨
      ∃ d, m = .evaluation d ∧ ((s.settled wanted).crane d).present = true ∧
        profileValid ((s.settled wanted).profileOf d) = true ∧
        ((s.settled wanted).windOf d).source ≠ (s.windOf d).source := by
  have hi : (s.settled wanted).inFlight = s.inFlight ++ selectionNotices s (s.settled wanted) := by
    conv_lhs => rw [settled_eq]
  rw [hi, List.mem_append, mem_selectionNotices]
  simp only [settled_crane, and_self_left]

/-- R120: the evaluations of such a write. -/
theorem settled_evaluates (h : ∀ d, .evaluation d ∉ s.inFlight) : s.EvaluatesChanges (s.settled wanted) := by
  refine fun d => mem_settled_inFlight.trans ⟨?_, fun hd => .inr (.inr ⟨d, rfl, hd⟩)⟩
  rintro (hm | ⟨_, _, e, -⟩ | ⟨_, e, hd⟩)
  · exact absurd hm (h d)
  · cases e
  · cases e; exact hd

/-- R138: the beacon notices of such a write. -/
theorem settled_tells (h : ∀ d cond, .beacon d cond ∉ s.inFlight) : s.TellsBeacons (s.settled wanted) := by
  refine fun d cond => mem_settled_inFlight.trans ⟨?_, fun hd => .inr (.inl ⟨d, cond, rfl, hd⟩)⟩
  rintro (hm | ⟨_, _, e, hd⟩ | ⟨_, e, -⟩)
  · exact absurd hm (h d cond)
  · cases e; exact hd
  · cases e

/-- A notice that is neither of these was in flight before. -/
theorem settled_else {m : Notice} (hb : ∀ d cond, m ≠ .beacon d cond) (he : ∀ d, m ≠ .evaluation d) :
    m ∈ (s.settled wanted).inFlight ↔ m ∈ s.inFlight := by
  refine mem_settled_inFlight.trans ⟨?_, .inl⟩
  rintro (hm | ⟨d, cond, e, -⟩ | ⟨d, e, -⟩)
  · exact hm
  · exact absurd e (hb d cond)
  · exact absurd e (he d)

/-- The kinds of notice in flight after such a write. -/
theorem settled_kinds {m : Notice} (h : m ∈ (s.settled wanted).inFlight) :
    m ∈ s.inFlight ∨ (∃ d, m = .evaluation d) ∨ ∃ d cond, m = .beacon d cond := by
  rcases mem_settled_inFlight.mp h with hm | ⟨d, cond, e, -⟩ | ⟨d, e, -⟩
  · exact .inl hm
  · exact .inr (.inr ⟨d, cond, e⟩)
  · exact .inr (.inl ⟨d, e⟩)

/-- R120: which cranes are handed an evaluation is a matter of their sources before. -/
theorem State.EvaluatesChanges.congr {s' : State} (h : s'.EvaluatesChanges t)
    (hs : ∀ d, (s'.windOf d).source = (s.windOf d).source) : s.EvaluatesChanges t := by
  simpa only [State.EvaluatesChanges, hs] using h

/-- R138: which beacon notices are sent is a matter of the conditions before. -/
theorem State.TellsBeacons.congr {s' : State} (h : s'.TellsBeacons t)
    (hs : ∀ d, (t.crane d).present = true → s'.beaconCondition d = s.beaconCondition d) : s.TellsBeacons t := by
  refine fun d cond => (h d cond).trans (and_congr_right fun hd => ?_)
  rw [hs d hd]

/-- R171: the lines after such a write, when it is no work of a tick. -/
theorem settled_lines (h : .tickDone ∉ s.inFlight) :
    (∀ n, ((s.settled wanted).generator n).driver = (s.settled wanted).lineDriver n) ∧ s.LinesFollow (s.settled wanted) := by
  have hquiet : (s.reselected wanted).inTick = false := by
    have hn : .tickDone ∉ selectionNotices s (s.reselected wanted) := fun hm =>
      (mem_selectionNotices.mp hm).elim (fun ⟨_, _, e, _⟩ => nomatch e) fun ⟨_, e, _⟩ => nomatch e
    rw [State.inTick, reselected_eq]
    simpa using ⟨h, hn⟩
  obtain ⟨hd, hf⟩ := refreshLines_follows hquiet
  have hr := reselected_eq (s := s) (wanted := wanted)
  have hdriver (n : BeaconLine) : (s.settled wanted).lineDriver n = (s.reselected wanted).lineDriver n := by
    simp only [State.lineDriver, settled_crane]
    rw [hr]
    rfl
  refine ⟨fun n => (hd n).trans (hdriver n).symm, ?_⟩
  have hgen : (s.reselected wanted).generators = s.generators := by rw [hr]
  have hpat : (s.reselected wanted).patterns = s.patterns := by rw [hr]
  unfold State.LinesFollow State.generator at hf ⊢
  rw [hgen, hpat] at hf
  exact hf

end Sys2Proof.Machine
end

/-! ## WRITE_CRANE (R2 to R5, R30 to R33, R89, R119, R120, R139, R148, R171): O22, O23 -/

section
namespace Sys2Proof.Machine

variable {s t : State} {c : Crane} {r : CraneRecord}

/-! ### The fields of a crane record -/

/-- The operands of WRITE_CRANE with the present field yes, field by field. -/
def craneParts (c : Crane) (r : CraneRecord) : List (List Byte) :=
  [octet1 c.val, octet1 1, signed2 r.slewOffset, octet2 r.jib, octet2 r.parkRadius, octet2 r.parkHeight,
   octet1 r.profile.val, octet1 (octetOrNone r.beaconLine), octet2 r.slew.margin, octet2 r.slew.band,
   octet1 r.slew.creep, octet1 r.trolley.margin, octet2 r.trolley.band, octet1 r.trolley.creep, octet1 r.hoist.margin,
   octet2 r.hoist.band, octet1 r.hoist.creep, octet2 r.pick, octet2 r.setDown, octet1 r.debounce]

/-- The fields of WRITE_CRANE that follow the present field. -/
def CraneRecord.fields (r : CraneRecord) : List Nat :=
  [numberOf (signed2 r.slewOffset), r.jib, r.parkRadius, r.parkHeight, r.profile.val, octetOrNone r.beaconLine,
   r.slew.margin, r.slew.band, r.slew.creep, r.trolley.margin, r.trolley.band, r.trolley.creep, r.hoist.margin,
   r.hoist.band, r.hoist.creep, r.pick, r.setDown, r.debounce]

theorem craneOctets_parts (c : Crane) (r : CraneRecord) : craneOctets c r = (craneParts c r).flatten := by
  unfold craneOctets craneParts
  simp only [List.append_assoc, List.flatten_cons, List.flatten_nil, List.append_nil]

theorem craneParts_widths (c : Crane) (r : CraneRecord) : (craneParts c r).map List.length = craneWidths := rfl

theorem octetOrNone_lt (line : Option BeaconLine) : octetOrNone line < 256 := by
  cases line with
  | none => decide
  | some n => exact n.isLt.trans (by decide)

theorem readBeaconLine_octetOrNone (line : Option BeaconLine) : readBeaconLine (octetOrNone line) = some line := by
  cases line with
  | none => rfl
  | some n => revert n; decide

/-- The fields of WRITE_CRANE's operands. -/
theorem cutFields_craneOctets (c : Crane) (h : r.Fits) :
    cutFields craneWidths (craneOctets c r) = some (c.val :: 1 :: r.fields) := by
  obtain ⟨-, ⟨h1, h2, h3⟩, ⟨h4, h5, h6⟩, ⟨h7, h8, h9⟩, ⟨h10, h11, h12⟩, h13, h14, h15⟩ := h
  have hc : c.val < 256 := c.isLt.trans (by decide)
  have hp : r.profile.val < 256 := r.profile.isLt.trans (by decide)
  have hl := octetOrNone_lt r.beaconLine
  rw [craneOctets_parts, ← craneParts_widths c r, cutFields_flatten]
  simp only [craneParts, CraneRecord.fields, List.map_cons, List.map_nil, numberOf_octet1, numberOf_octet2,
    show (1 : Nat) < 256 by decide, *]

theorem CraneRecord.InRange.fits (h : r.InRange) : r.Fits := by
  obtain ⟨-, h1, h2, h3, h4, h5, h6, h7, h8, h9, h10⟩ := h
  refine ⟨?_, ?_, ?_, ?_, ?_, ?_⟩ <;> omega

/-- R4: the fields of a present crane's record give it back. -/
theorem readCraneRecord_inRange (h : r.InRange) : readCraneRecord r.fields = some r := by
  obtain ⟨hoff, -⟩ := h.fits
  obtain ⟨hp, h1, h2, h3, h4, h5, h6, h7, h8, h9, h10⟩ := h
  have hprof := r.profile.isLt
  simp only [readCraneRecord, CraneRecord.fields, readBeaconLine_octetOrNone, signedOf_signed2 hoff]
  rw [if_pos]
  · rw [Fin.ofNat_val_eq_self, ← hp]
  · simp only [Bool.and_eq_true, decide_eq_true_eq, within_iff]
    omega

/-- R4: those of a record out of range are refused. -/
theorem readCraneRecord_outOfRange (h : ¬ r.InRange) (hp : r.present = true) (hf : r.Fits) :
    readCraneRecord r.fields = none := by
  simp only [readCraneRecord, CraneRecord.fields, readBeaconLine_octetOrNone, signedOf_signed2 hf.1]
  refine if_neg fun hv => h ?_
  simp only [Bool.and_eq_true, decide_eq_true_eq, within_iff] at hv
  refine ⟨hp, ?_⟩
  omega

/-! ### WRITE_CRANE with the present field yes -/

/-- R2, R4: WRITE_CRANE of a record in range. -/
theorem writeCrane_inRange (hm : s.mode = .config) (c : Crane) (h : r.InRange) :
    writeCrane (craneOctets c r) s = accept (makePresent c r s) := by
  rw [writeCrane, tableWrite_config hm (cutFields_craneOctets c h.fits)]
  have hr := readCraneRecord_inRange h
  dsimp only [CraneRecord.fields] at hr ⊢
  simp only [hr]
  rw [if_neg (by omega), if_neg (by decide), if_pos trivial, Fin.ofNat_val_eq_self]

/-- R4: a record out of range is refused. -/
theorem writeCrane_outOfRange (hm : s.mode = .config) (c : Crane) (h : ¬ r.InRange) (hp : r.present = true)
    (hf : r.Fits) : writeCrane (craneOctets c r) s = refuse s .badValue := by
  rw [writeCrane, tableWrite_config hm (cutFields_craneOctets c hf)]
  have hr := readCraneRecord_outOfRange h hp hf
  dsimp only [CraneRecord.fields] at hr ⊢
  simp only [hr]
  rw [if_neg (by omega), if_neg (by decide), if_pos trivial]

/-- R2: a crane's number above 7. -/
theorem writeCrane_badIndex (hm : s.mode = .config) {n : Nat} (h7 : 7 < n) (h : n < 256) {others : List Byte}
    (ho : others.length = 29) : writeCrane (octet1 n ++ others) s = refuse s .badIndex := by
  obtain ⟨rest, hc, hl⟩ := cutFields_first (ws := craneWidths.tail) h ho
  replace hc : cutFields craneWidths (octet1 n ++ others) = some (n :: rest) := hc
  rw [writeCrane, tableWrite_config hm hc]
  cases rest with
  | nil => cases hl
  | cons present rest => exact if_pos h7

/-- The state of a WRITE_CRANE with the present field yes before the sources are selected. -/
def State.recorded (s : State) (c : Crane) (r : CraneRecord) : State :=
  { s with
    cranes := s.cranes.write c r
    positions := s.positions.write c ((s.setCrane c r).restood c)
    detectors := s.detectors.write c { s.detector c with run := 0 }
    winds := s.winds.write c (restartCounting (s.windOf c))
    permits := if (s.crane c).present = true then s.permits
      else s.permits.write c (presentPermit s.site.permitRefresh (s.permit c))
    inFlight := s.inFlight ++ presenceReports c none (s.position c) ((s.setCrane c r).restood c) }

theorem makePresent_eq (c : Crane) (r : CraneRecord) (s : State) :
    makePresent c r s = (s.recorded c r).settled (!(s.crane c).present) := by
  unfold makePresent State.recorded State.settled State.reselected
  cases (s.crane c).present <;> rfl

theorem recorded_windOf (d : Crane) :
    (s.recorded c r).windOf d = if d = c then restartCounting (s.windOf c) else s.windOf d :=
  Bank.read_write _ _ _ _

theorem recorded_source (d : Crane) : ((s.recorded c r).windOf d).source = (s.windOf d).source := by
  rw [recorded_windOf]
  split
  · next h => subst h; rfl
  · rfl

/-- R138: a beacon condition is a matter of the position state and of the wind record. -/
theorem beaconCondition_congr {d : Crane} (hp : (t.position d).held = (s.position d).held)
    (hsource : (t.windOf d).source = (s.windOf d).source) (hstate : (t.windOf d).state = (s.windOf d).state) :
    t.beaconCondition d = s.beaconCondition d := by
  simp only [State.beaconCondition, located_congr hp, hsource, hstate]

theorem recorded_position (d : Crane) :
    (s.recorded c r).position d = if d = c then (s.setCrane c r).restood c else s.position d :=
  Bank.read_write _ _ _ _

theorem recorded_held (d : Crane) : ((s.recorded c r).position d).held = (s.position d).held := by
  rw [recorded_position]
  split
  · next h => subst h; rfl
  · rfl

theorem recorded_beaconCondition (d : Crane) : (s.recorded c r).beaconCondition d = s.beaconCondition d := by
  refine beaconCondition_congr (recorded_held d) (recorded_source d) ?_
  rw [recorded_windOf]
  split
  · next h => subst h; rfl
  · rfl

theorem sourceChanges_congr {s' t' : State} (hs : ∀ d, (s'.windOf d).source = (s.windOf d).source)
    (hc : t'.cranes = t.cranes) (hw : t'.winds = t.winds) : sourceChanges s' t' = sourceChanges s t := by
  have hcrane (d : Crane) : t'.crane d = t.crane d := by rw [State.crane, hc]; rfl
  have hwind (d : Crane) : t'.windOf d = t.windOf d := by rw [State.windOf, hw]; rfl
  simp only [sourceChanges, hs, hcrane, hwind]

/-- What a WRITE_CRANE with the present field yes leaves as it was. -/
theorem makePresent_frame (c : Crane) (r : CraneRecord) (s : State) :
    makePresent c r s = { s.recorded c r with
      winds := (makePresent c r s).winds
      generators := (makePresent c r s).generators
      events := (s.postAll (sourceChanges s (makePresent c r s))).events
      overflow := (s.postAll (sourceChanges s (makePresent c r s))).overflow
      inFlight := (makePresent c r s).inFlight } := by
  obtain ⟨u, hu⟩ : ∃ u, makePresent c r s = u := ⟨_, rfl⟩
  have hsettled := settled_eq (s := s.recorded c r) (wanted := !(s.crane c).present)
  rw [← makePresent_eq, hu] at hsettled
  have hchanges : sourceChanges (s.recorded c r) u = sourceChanges s u := sourceChanges_congr recorded_source rfl rfl
  obtain ⟨he, ho⟩ := postAll_congr (s := s) (t := s.recorded c r) (sourceChanges s u) rfl rfl rfl rfl rfl
  rw [hchanges, he, ho] at hsettled
  have hflight : u.inFlight = (s.recorded c r).inFlight ++ selectionNotices (s.recorded c r) u := by
    conv_lhs => rw [hsettled]
  rw [hu, hflight]
  exact hsettled

/-- R3, R119: the wind records after a WRITE_CRANE with the present field yes. -/
theorem makePresent_windOf (c d : Crane) (r : CraneRecord) (s : State) :
    (makePresent c r s).windOf d =
      { if d = c then restartCounting (s.windOf c) else s.windOf d with
        source := ((makePresent c r s).windOf d).source } := by
  rw [makePresent_eq, ← recorded_windOf]
  exact settled_windOf_source d

/-- R119: only a selection changes a source, and only of a present crane. -/
theorem makePresent_source (c d : Crane) (r : CraneRecord) (s : State)
    (h : (s.crane c).present = true ∨ ((makePresent c r s).crane d).present = false) :
    ((makePresent c r s).windOf d).source = (s.windOf d).source := by
  rw [makePresent_eq, settled_crane] at *
  rw [settled_windOf_kept (h.imp_left (by simp [·])), recorded_source]

theorem makePresent_restood (c : Crane) (r : CraneRecord) (s : State) :
    (s.setCrane c r).restood c =
      { s.position c with
        present := (makePresent c r s).presenceOf c, obstructed := (makePresent c r s).obstructedBy c } := by
  have hu := makePresent_frame c r s
  generalize makePresent c r s = u at hu
  have hheld : (u.position c).held = ((s.setCrane c r).position c).held := by
    rw [hu]; exact recorded_held c
  have hsectors : u.sectors = (s.setCrane c r).sectors := by rw [hu]; rfl
  rw [State.restood, presenceOf_congr (s := s.setCrane c r) (by rw [hu]; rfl) (by rw [hu]; rfl) hsectors hheld,
    obstructedBy_congr hsectors hheld]
  rfl

/-- R30: the reports of a WRITE_CRANE with the present field yes. -/
theorem mem_recorded_inFlight (hq : s.inFlight = []) {m : Notice} :
    m ∈ (s.recorded c r).inFlight ↔
      ∃ k change, m = .presence k c change ∧ s.Reports (makePresent c r s) k c change := by
  have hpos : (makePresent c r s).position c = (s.setCrane c r).restood c := by
    have hu := makePresent_frame c r s
    generalize makePresent c r s = u at hu
    rw [hu]
    exact (recorded_position c).trans (if_pos rfl)
  show m ∈ s.inFlight ++ presenceReports c none (s.position c) ((s.setCrane c r).restood c) ↔ _
  rw [hq, List.nil_append, mem_presenceReports]
  simp only [State.Reports, hpos, ne_eq, reduceCtorEq, not_false_eq_true, true_and]

/-- R30, R120, R138: what is in flight after a WRITE_CRANE with the present field yes. -/
theorem makePresent_notices (hq : s.inFlight = []) :
    s.EvaluatesChanges (makePresent c r s) ∧ s.TellsBeacons (makePresent c r s) ∧
      (∀ m ∈ (makePresent c r s).inFlight,
        (∃ k change, m = .presence k c change) ∨ (∃ d, m = .evaluation d) ∨ ∃ d cond, m = .beacon d cond) ∧
      ∀ k d change, .presence k d change ∈ (makePresent c r s).inFlight ↔
        d = c ∧ s.Reports (makePresent c r s) k c change := by
  have hsent (m : Notice) := mem_recorded_inFlight (c := c) (r := r) (m := m) hq
  rw [makePresent_eq] at hsent ⊢
  refine ⟨(settled_evaluates fun d hm => ?_).congr recorded_source,
    (settled_tells fun d cond hm => ?_).congr fun d _ => recorded_beaconCondition d, fun m hm => ?_,
    fun k d change => (settled_else (m := .presence k d change) nofun nofun).trans ((hsent _).trans ⟨?_, ?_⟩)⟩
  · obtain ⟨_, _, e, -⟩ := (hsent _).mp hm
    cases e
  · obtain ⟨_, _, e, -⟩ := (hsent _).mp hm
    cases e
  · exact (settled_kinds hm).imp_left fun h => by
      obtain ⟨k, change, e, -⟩ := (hsent _).mp h
      exact ⟨k, change, e⟩
  · rintro ⟨_, _, e, h⟩
    cases e
    exact ⟨rfl, h⟩
  · rintro ⟨rfl, h⟩
    exact ⟨k, change, rfl, h⟩

/-- R119: the sources of the cranes after a crane is made present that was absent. -/
theorem makePresent_selected (h : (s.crane c).present = false) : (makePresent c r s).SourcesSelected := by
  rw [makePresent_eq, h]
  exact settled_selected

/-- R171: the lines after a WRITE_CRANE with the present field yes. -/
theorem makePresent_lines (hq : s.inFlight = []) :
    (∀ n, ((makePresent c r s).generator n).driver = (makePresent c r s).lineDriver n) ∧
      s.LinesFollow (makePresent c r s) := by
  rw [makePresent_eq]
  refine settled_lines fun hm => ?_
  obtain ⟨_, _, e, -⟩ := (mem_recorded_inFlight hq).mp hm
  cases e

/-- Settles O22: the write is the stored record, the recomputed presence and the restarted counting, with a selection of
the sources where the crane was absent, and the lines refreshed. -/
theorem craneWritten : Obligations.CraneWritten := by
  intro s tag c r h hroom hm
  refine ⟨fun hr => ?_, fun hr hp hf => ?_, fun n others h7 h8 ho => ?_⟩
  · have hu := makePresent_frame c r (s.hunting siteLink)
    have hwind := fun d => makePresent_windOf c d r (s.hunting siteLink)
    have hsource := fun d => makePresent_source c d r (s.hunting siteLink)
    have hselected := makePresent_selected (s := s.hunting siteLink) (c := c) (r := r)
    have hstood := makePresent_restood c r (s.hunting siteLink)
    obtain ⟨heval, htell, hkinds, hreports⟩ := makePresent_notices (s := s.hunting siteLink) (c := c) (r := r) h.2.1
    obtain ⟨hdriver, hfollow⟩ := makePresent_lines (s := s.hunting siteLink) (c := c) (r := r) h.2.1
    have hposts (bs : List EventBody) := postAll_congr (s := s) (t := s.hunting siteLink) bs rfl rfl rfl rfl rfl
    have hexec : exec (.writeCrane tag (craneOctets c r)) s =
        .next ((makePresent c r (s.hunting siteLink)).replied tag 0x02#8 []) := by
      rw [exec_writeCrane h, request_accept hroom (writeCrane_inRange (by exact hm) c hr)]
    generalize makePresent c r (s.hunting siteLink) = u at *
    refine ⟨u.replied tag 0x02#8 [], hexec, ?_, ?_, fun d hd => ?_, fun hw d => hsource d (.inl hw),
      fun hw => ⟨hselected hw, fun d hd => hsource d (.inr hd)⟩, heval, htell, hkinds, hdriver, hfollow, hreports⟩
    · refine (congrArg (State.replied · tag 0x02#8 []) hu).trans ?_
      dsimp only
      rw [(hposts _).1, (hposts _).2, State.recorded, hstood]
      rfl
    · exact (hwind c).trans (by rw [if_pos rfl]; rfl)
    · exact (hwind d).trans (by rw [if_neg hd]; rfl)
  · rw [exec_writeCrane h, request_refuse hroom (writeCrane_outOfRange (by exact hm) c hr hp hf)]
  · rw [exec_writeCrane h, request_refuse hroom (writeCrane_badIndex (by exact hm) h7 h8 ho)]

end Sys2Proof.Machine
end

/-! ## WRITE_CRANE with the present field no (R5, R26, R30, R32, R33, R139, R148): O23 -/

section
namespace Sys2Proof.Machine

variable {s : State} {c : Crane}

/-- A write replaces what an earlier write of the same place has put there. -/
theorem Bank.write_again {n : Nat} {α : Type} (b : Bank n α) (i : Fin n) (x y : α) :
    (b.write i x).write i y = b.write i y := by
  refine Bank.ext_read fun j => ?_
  by_cases h : j = i
  · subst h; simp
  · simp [h]

/-- R5: WRITE_CRANE with the present field no, whatever its other operands. -/
theorem writeCrane_absent (hm : s.mode = .config) (c : Crane) {others : List Byte} (ho : others.length = 28) :
    writeCrane (octet1 c.val ++ octet1 0 ++ others) s = accept (makeAbsent c s) := by
  have hc : c.val < 256 := c.isLt.trans (by decide)
  obtain ⟨rest, hr, -⟩ := cutFields_first (ws := craneWidths.tail.tail) (n := 0) (by decide) ho
  have hf : cutFields craneWidths (octet1 c.val ++ octet1 0 ++ others) = some (c.val :: 0 :: rest) := by
    rw [List.append_assoc]
    exact (cutFields_octet1 craneWidths.tail _ _).trans (by rw [numberOf_octet1 hc]; exact congrArg _ hr)
  rw [writeCrane, tableWrite_config hm hf]
  dsimp only
  rw [if_neg (by omega), if_pos rfl, Fin.ofNat_val_eq_self]

/-- R32: what is raised when a position is lost. -/
def State.lostEvents (s : State) (c : Crane) : List EventBody :=
  if (s.position c).state = .tracked ∨ (s.position c).state = .degraded then
    [eventOf .positionLost (some c) none 2]
  else []

/-- R29, R33: the position record of a crane made absent, whose standing is that of a crane without a position. -/
def State.unplaced (s : State) (c : Crane) : PositionRecord :=
  { absentPosition (s.position c) with present := none, obstructed := s.sectorsOf c }

/-- The state of a WRITE_CRANE with the present field no before the sources are selected. -/
def State.dropped (s : State) (c : Crane) : State :=
  { s with
    cranes := s.cranes.write c .absent
    positions := s.positions.write c (s.unplaced c)
    permits := if (s.crane c).present = true then s.permits.write c (absentPermit (s.permit c)) else s.permits
    slots := if (s.crane c).present = true then s.slots.write c { s.slot c with waiting := none } else s.slots
    events := (s.postAll (s.lostEvents c)).events
    overflow := (s.postAll (s.lostEvents c)).overflow
    inFlight := s.inFlight ++ presenceReports c none (s.position c) (s.unplaced c)
      ++ absentNotices c (s.position c).state }

theorem loseAbsent_eq (c : Crane) (s : State) :
    loseAbsent c s =
      { s with positions := s.positions.write c (absentPosition (s.position c))
               events := (s.postAll (s.lostEvents c)).events
               overflow := (s.postAll (s.lostEvents c)).overflow } := by
  have hlost : (if locatedState (s.position c).state then [eventOf .positionLost (some c) none 2] else []) =
      s.lostEvents c := by
    unfold State.lostEvents
    cases (s.position c).state <;> rfl
  obtain ⟨he, ho⟩ := postAll_congr (s := s) (t := s.setPosition c (absentPosition (s.position c))) (s.lostEvents c) rfl
    rfl rfl rfl rfl
  unfold loseAbsent
  dsimp only
  rw [hlost]
  refine (State.postAll_frame (s := s.setPosition c _) _).trans ?_
  rw [he, ho]
  rfl

/-- R29: what a crane without a position obstructs. -/
theorem restood_unplaced (c : Crane) (s : State) :
    (loseAbsent c (s.setCrane c .absent)).restood c = s.unplaced c := by
  have hpos : (loseAbsent c (s.setCrane c .absent)).position c = absentPosition (s.position c) := by
    rw [loseAbsent_eq]; exact Bank.read_write_self _ _ _
  have hlocated : (loseAbsent c (s.setCrane c .absent)).located c = false := by
    rw [State.located, hpos]; rfl
  have hpresence : (loseAbsent c (s.setCrane c .absent)).presenceOf c = none := by
    simp [State.presenceOf, State.current, hlocated]
  have hobstruction : (loseAbsent c (s.setCrane c .absent)).obstructedBy c = s.sectorsOf c := by
    rw [State.obstructedBy, hlocated, if_neg Bool.false_ne_true, loseAbsent_eq]; rfl
  rw [State.restood, hpos, hpresence, hobstruction]
  rfl

theorem makeAbsent_eq (c : Crane) (s : State) : makeAbsent c s = (s.dropped c).settled (s.crane c).present := by
  have hpos : (loseAbsent c (s.setCrane c .absent)).position c = absentPosition (s.position c) := by
    rw [loseAbsent_eq]; exact Bank.read_write_self _ _ _
  obtain ⟨he, ho⟩ := postAll_congr (s := s) (t := s.setCrane c .absent) (s.lostEvents c) rfl rfl rfl rfl rfl
  have hlost : (s.setCrane c .absent).lostEvents c = s.lostEvents c := rfl
  have hbase : recomputePresence c none (loseAbsent c (s.setCrane c .absent)) =
      { s with
        cranes := s.cranes.write c .absent
        positions := s.positions.write c (s.unplaced c)
        events := (s.postAll (s.lostEvents c)).events
        overflow := (s.postAll (s.lostEvents c)).overflow
        inFlight := s.inFlight ++ presenceReports c none (s.position c) (s.unplaced c) } := by
    rw [recomputePresence_eq, restood_unplaced, hpos, loseAbsent_eq, hlost, he, ho]
    have hwrite : (s.positions.write c (absentPosition (s.position c))).write c (s.unplaced c) =
        s.positions.write c (s.unplaced c) := Bank.write_again _ _ _ _
    rw [← hwrite]
    rfl
  unfold makeAbsent State.dropped State.settled State.reselected
  rw [hbase]
  cases (s.crane c).present <;> rfl

theorem dropped_position (d : Crane) :
    (s.dropped c).position d = if d = c then s.unplaced c else s.position d :=
  Bank.read_write _ _ _ _

/-- R138: only the condition of the crane that loses its position can change with it. -/
theorem dropped_beaconCondition {d : Crane} (hd : d ≠ c) : (s.dropped c).beaconCondition d = s.beaconCondition d :=
  beaconCondition_congr (by rw [dropped_position, if_neg hd]) rfl rfl

/-- What a WRITE_CRANE with the present field no leaves as it was. -/
theorem makeAbsent_frame (c : Crane) (s : State) :
    makeAbsent c s = { s.dropped c with
      winds := (makeAbsent c s).winds
      generators := (makeAbsent c s).generators
      events := (s.postAll (s.lostEvents c ++ sourceChanges s (makeAbsent c s))).events
      overflow := (s.postAll (s.lostEvents c ++ sourceChanges s (makeAbsent c s))).overflow
      inFlight := (makeAbsent c s).inFlight } := by
  obtain ⟨u, hu⟩ : ∃ u, makeAbsent c s = u := ⟨_, rfl⟩
  have hsettled := settled_eq (s := s.dropped c) (wanted := (s.crane c).present)
  rw [← makeAbsent_eq, hu] at hsettled
  have hchanges : sourceChanges (s.dropped c) u = sourceChanges s u := sourceChanges_congr (fun _ => rfl) rfl rfl
  have hframe := State.postAll_frame (s := s) (s.lostEvents c)
  obtain ⟨he, ho⟩ := postAll_congr (s := s.postAll (s.lostEvents c)) (t := s.dropped c) (sourceChanges s u) rfl rfl
    (by rw [hframe]; rfl) (by rw [hframe]; rfl) (by rw [hframe]; rfl)
  rw [hchanges, he, ho, State.postAll, State.postAll, ← List.foldl_append] at hsettled
  have hflight : u.inFlight = (s.dropped c).inFlight ++ selectionNotices (s.dropped c) u := by
    conv_lhs => rw [hsettled]
  rw [hu, hflight]
  exact hsettled

/-- R30, R32: the notices of a WRITE_CRANE with the present field no, but for those of a selection. -/
theorem mem_dropped_inFlight (hq : s.inFlight = []) {m : Notice} :
    m ∈ (s.dropped c).inFlight ↔
      (∃ k change, m = .presence k c change ∧ s.Reports (makeAbsent c s) k c change) ∨
      (s.position c).state ≠ .none ∧ (m = .craneCondition c ∨ m = .limit c) := by
  have hpos : (makeAbsent c s).position c = s.unplaced c := by
    have hu := makeAbsent_frame c s
    generalize makeAbsent c s = u at hu
    rw [hu]
    exact (dropped_position c).trans (if_pos rfl)
  have hnotices : m ∈ absentNotices c (s.position c).state ↔
      (s.position c).state ≠ .none ∧ (m = .craneCondition c ∨ m = .limit c) := by
    unfold absentNotices
    split <;> simp_all
  show m ∈ s.inFlight ++ presenceReports c none (s.position c) (s.unplaced c) ++ absentNotices c (s.position c).state ↔ _
  rw [hq, List.nil_append, List.mem_append, mem_presenceReports, hnotices]
  simp only [State.Reports, hpos, ne_eq, reduceCtorEq, not_false_eq_true, true_and]

/-- A notice of those is none of a selection, nor the end of a tick. -/
theorem not_mem_dropped_inFlight (hq : s.inFlight = []) {m : Notice} (hp : ∀ k change, m ≠ .presence k c change)
    (hc : m ≠ .craneCondition c) (hl : m ≠ .limit c) : m ∉ (s.dropped c).inFlight := by
  rw [mem_dropped_inFlight hq]
  rintro (⟨k, change, e, -⟩ | ⟨-, e | e⟩)
  · exact hp k change e
  · exact hc e
  · exact hl e

theorem makeAbsent_crane (c : Crane) (s : State) : ((makeAbsent c s).crane c).present = false := by
  rw [makeAbsent_eq, settled_crane]
  exact congrArg CraneRecord.present (Bank.read_write_self _ _ _)

/-- R30, R32, R120, R138: what is in flight after a WRITE_CRANE with the present field no. -/
theorem makeAbsent_notices (hq : s.inFlight = []) :
    s.EvaluatesChanges (makeAbsent c s) ∧ s.TellsBeacons (makeAbsent c s) ∧
      (∀ m ∈ (makeAbsent c s).inFlight, m = .craneCondition c ∨ m = .limit c ∨ (∃ k change, m = .presence k c change) ∨
        (∃ d, m = .evaluation d) ∨ ∃ d cond, m = .beacon d cond) ∧
      (∀ d, (.craneCondition d ∈ (makeAbsent c s).inFlight ↔ d = c ∧ (s.position c).state ≠ .none) ∧
        (.limit d ∈ (makeAbsent c s).inFlight ↔ d = c ∧ (s.position c).state ≠ .none)) ∧
      ∀ k d change, .presence k d change ∈ (makeAbsent c s).inFlight ↔
        d = c ∧ s.Reports (makeAbsent c s) k c change := by
  have hsent (m : Notice) := mem_dropped_inFlight (c := c) (m := m) hq
  have habsent := makeAbsent_crane c s
  rw [makeAbsent_eq] at hsent habsent ⊢
  refine ⟨(settled_evaluates fun d => not_mem_dropped_inFlight hq nofun nofun nofun).congr fun _ => rfl,
    (settled_tells fun d cond => not_mem_dropped_inFlight hq nofun nofun nofun).congr fun d hd => ?_, fun m hm => ?_,
    fun d => ⟨(settled_else (m := .craneCondition d) nofun nofun).trans ((hsent _).trans ?_),
      (settled_else (m := .limit d) nofun nofun).trans ((hsent _).trans ?_)⟩,
    fun k d change => (settled_else (m := .presence k d change) nofun nofun).trans ((hsent _).trans ?_)⟩
  · exact dropped_beaconCondition fun e => by rw [e, habsent] at hd; cases hd
  · rcases settled_kinds hm with h | h
    · rcases (hsent _).mp h with ⟨k, change, e, -⟩ | ⟨-, e | e⟩
      · exact .inr (.inr (.inl ⟨k, change, e⟩))
      · exact .inl e
      · exact .inr (.inl e)
    · exact .inr (.inr (.inr h))
  · simp [and_comm]
  · simp [and_comm]
  · simp

/-- R119: the wind records after a WRITE_CRANE with the present field no. -/
theorem makeAbsent_winds (c : Crane) (s : State) :
    (∀ d, (makeAbsent c s).windOf d = { s.windOf d with source := ((makeAbsent c s).windOf d).source }) ∧
    (∀ d, ((makeAbsent c s).crane d).present = false → (makeAbsent c s).windOf d = s.windOf d) ∧
    ((s.crane c).present = true → (makeAbsent c s).SourcesSelected) ∧
    ((s.crane c).present = false → ∀ d, (makeAbsent c s).windOf d = s.windOf d) := by
  rw [makeAbsent_eq]
  refine ⟨settled_windOf_source, fun d hd => ?_, fun hw => ?_, fun hw d => settled_windOf_kept (.inl hw)⟩
  · rw [settled_crane] at hd
    exact settled_windOf_kept (.inr hd)
  · rw [hw]
    exact settled_selected

/-- R171: the lines after a WRITE_CRANE with the present field no. -/
theorem makeAbsent_lines (hq : s.inFlight = []) :
    (∀ n, ((makeAbsent c s).generator n).driver = (makeAbsent c s).lineDriver n ∧
      ((makeAbsent c s).generator n).driver ≠ some c) ∧ s.LinesFollow (makeAbsent c s) := by
  have hlines := settled_lines (wanted := (s.crane c).present)
    (not_mem_dropped_inFlight (c := c) (m := .tickDone) hq nofun nofun nofun)
  rw [← makeAbsent_eq] at hlines
  refine ⟨fun n => ⟨hlines.1 n, fun hd => ?_⟩, hlines.2⟩
  rw [hlines.1 n] at hd
  exact Bool.false_ne_true ((makeAbsent_crane c s).symm.trans (lineDriver_iff.mp hd).1)

/-- Settles O23: the write is the record reset, the position lost, the demand and the pending permit gone where the crane
was present, with a selection of the sources then, and the lines refreshed. -/
theorem craneMadeAbsent : Obligations.CraneMadeAbsent := by
  intro s tag c others h hroom hm ho was lost
  have hu := makeAbsent_frame c (s.hunting siteLink)
  obtain ⟨heval, htell, hkinds, hlimits, hreports⟩ := makeAbsent_notices (s := s.hunting siteLink) (c := c) h.2.1
  obtain ⟨hwind, hkept, hselected, hnone⟩ := makeAbsent_winds c (s.hunting siteLink)
  obtain ⟨hdriver, hfollow⟩ := makeAbsent_lines (s := s.hunting siteLink) (c := c) h.2.1
  have hposts (bs : List EventBody) := postAll_congr (s := s) (t := s.hunting siteLink) bs rfl rfl rfl rfl rfl
  have hexec : exec (.writeCrane tag (octet1 c.val ++ octet1 0 ++ others)) s =
      .next ((makeAbsent c (s.hunting siteLink)).replied tag 0x02#8 []) := by
    rw [exec_writeCrane h, request_accept hroom (writeCrane_absent (by exact hm) c ho)]
  generalize makeAbsent c (s.hunting siteLink) = u at *
  refine ⟨u.replied tag 0x02#8 [], hexec, ?_, hwind, hkept, hselected, hnone, heval, htell, hkinds, hdriver, hfollow,
    hlimits, hreports⟩
  refine (congrArg (State.replied · tag 0x02#8 []) hu).trans ?_
  dsimp only
  rw [(hposts _).1, (hposts _).2]
  rfl

end Sys2Proof.Machine
end

/-! ## WRITE_SECTOR (R2, R10, R30, R31, R78): O24 -/

section
namespace Sys2Proof.Machine

variable {s t : State} {k : Sector} {r : SectorRecord}

/-! ### The fields of a sector record -/

/-- The four member places as numbers: a crane, or FFh for an unused one. -/
def memberPlaces (ms : List Crane) : List Nat :=
  [octetOrNone ms[0]?, octetOrNone ms[1]?, octetOrNone ms[2]?, octetOrNone ms[3]?]

/-- The operands of WRITE_SECTOR with the enabled field yes, field by field. -/
def sectorParts (k : Sector) (r : SectorRecord) : List (List Byte) :=
  [octet1 k.val, octet1 1, octet1 (clashCode r.clash), octet1 r.members.length] ++
    (memberPlaces r.members).map octet1 ++ [octet2 r.clearingTime, octet2 r.holdLimit, octet1 r.slice]

/-- The fields of WRITE_SECTOR that follow the enabled field. -/
def SectorRecord.fields (r : SectorRecord) : List Nat :=
  [clashCode r.clash, r.members.length] ++ memberPlaces r.members ++ [r.clearingTime, r.holdLimit, r.slice]

theorem cranePlaces_flatten (ms : List Crane) : cranePlaces 4 ms = ((memberPlaces ms).map octet1).flatten := rfl

theorem sectorOctets_parts (k : Sector) (r : SectorRecord) : sectorOctets k r = (sectorParts k r).flatten := by
  rw [sectorOctets, cranePlaces_flatten, sectorParts]
  simp only [List.append_assoc, List.flatten_append, List.flatten_cons, List.flatten_nil, List.append_nil]

theorem clashCode_le (x : ClashKind) : clashCode x ≤ 1 := by cases x <;> decide

/-- The fields of WRITE_SECTOR's operands. -/
theorem cutFields_sectorOctets (k : Sector) (h : r.Fits) :
    cutFields sectorWidths (sectorOctets k r) = some (k.val :: 1 :: r.fields) := by
  obtain ⟨h1, h2, h3, h4⟩ := h
  have hk : k.val < 256 := k.isLt.trans (by decide)
  have hc : clashCode r.clash < 256 := (clashCode_le _).trans_lt (by decide)
  have hm : r.members.length < 256 := by omega
  have hwidths : (sectorParts k r).map List.length = sectorWidths := rfl
  rw [sectorOctets_parts, ← hwidths, cutFields_flatten]
  simp only [sectorParts, SectorRecord.fields, memberPlaces, List.map_cons, List.map_nil, List.cons_append,
    List.nil_append, numberOf_octet1, numberOf_octet2, octetOrNone_lt, show (1 : Nat) < 256 by decide, *]

/-- The used member places hold the members' numbers. -/
theorem memberPlaces_take {ms : List Crane} (h : ms.length ≤ 4) : (memberPlaces ms).take ms.length = ms.map (·.val) := by
  match ms, h with
  | [], _ | [_], _ | [_, _], _ | [_, _, _], _ | [_, _, _, _], _ => rfl
  | _ :: _ :: _ :: _ :: _ :: _, h => simp at h; omega

/-- R10: the members are read back when there are two to four of them, all different. -/
theorem readMembers_places {ms : List Crane} (h : ms.length ≤ 4) :
    readMembers ms.length (memberPlaces ms) = if 2 ≤ ms.length ∧ ms.Nodup then some ms else none := by
  have hall : (ms.map (·.val)).all (· ≤ 7) = true := by
    rw [List.all_map, List.all_eq_true]
    intro c _
    simpa using Nat.le_of_lt_succ c.isLt
  have hnodup : (ms.map (·.val)).Nodup ↔ ms.Nodup := List.nodup_map_iff Fin.val_injective
  have hback : (ms.map (·.val)).map (Fin.ofNat 8) = ms := by
    rw [List.map_map]
    exact List.map_id'' (fun c => Fin.ofNat_val_eq_self c) ms
  rw [readMembers, memberPlaces_take h]
  simp only [hall, hnodup, hback, Bool.and_eq_true, within_iff, decide_eq_true_eq, and_true, h]

theorem readClash (x : ClashKind) : (if clashCode x = 0 then ClashKind.jib else .hook) = x := by cases x <;> rfl

theorem SectorRecord.InRange.fits (h : r.InRange) : r.Fits := by
  obtain ⟨-, h1, -, h2, h3, h4⟩ := h
  refine ⟨?_, ?_, ?_, ?_⟩ <;> omega

/-- R10: the fields of an enabled sector's record give it back. -/
theorem readSectorRecord_inRange (h : r.InRange) : readSectorRecord r.fields = some r := by
  have hplaces := readMembers_places h.fits.1
  obtain ⟨he, h1, h2, h3, h4, h5⟩ := h
  rw [if_pos ⟨h1.1, h2⟩] at hplaces
  simp only [SectorRecord.fields, memberPlaces, List.cons_append, List.nil_append] at hplaces ⊢
  simp only [readSectorRecord, hplaces, readClash]
  rw [if_pos, ← he]
  have hc := clashCode_le r.clash
  simp only [Bool.and_eq_true, within_iff]
  omega

/-- R10: those of a record out of range are refused. -/
theorem readSectorRecord_outOfRange (h : ¬ r.InRange) (he : r.enabled = true) (hf : r.Fits) :
    readSectorRecord r.fields = none := by
  have hplaces := readMembers_places hf.1
  simp only [SectorRecord.fields, memberPlaces, List.cons_append, List.nil_append] at hplaces ⊢
  simp only [readSectorRecord, hplaces]
  by_cases hm : 2 ≤ r.members.length ∧ r.members.Nodup
  · simp only [if_pos hm]
    refine if_neg fun hv => h ?_
    simp only [Bool.and_eq_true, within_iff] at hv
    obtain ⟨⟨⟨-, hc⟩, hh⟩, hs⟩ := hv
    exact ⟨he, ⟨hm.1, hf.1⟩, hm.2, hc, hh, hs.2⟩
  · simp only [if_neg hm]

/-! ### The write -/

/-- R10: WRITE_SECTOR of a record in range. -/
theorem writeSector_inRange (hm : s.mode = .config) (k : Sector) (h : r.InRange) :
    writeSector (sectorOctets k r) s = accept (putSector k r s) := by
  rw [writeSector, tableWrite_config hm (cutFields_sectorOctets k h.fits)]
  simp only [readSectorRecord_inRange h]
  rw [if_neg (by omega), if_neg (by decide), if_pos trivial, Fin.ofNat_val_eq_self]

/-- R10: a record out of range is refused. -/
theorem writeSector_outOfRange (hm : s.mode = .config) (k : Sector) (h : ¬ r.InRange) (he : r.enabled = true)
    (hf : r.Fits) : writeSector (sectorOctets k r) s = refuse s .badValue := by
  rw [writeSector, tableWrite_config hm (cutFields_sectorOctets k hf)]
  simp only [readSectorRecord_outOfRange h he hf]
  rw [if_neg (by omega), if_neg (by decide), if_pos trivial]

/-- R10: WRITE_SECTOR with the enabled field no, whatever its other operands. -/
theorem writeSector_disabled (hm : s.mode = .config) (k : Sector) {others : List Byte} (ho : others.length = 11) :
    writeSector (octet1 k.val ++ octet1 0 ++ others) s = accept (putSector k .disabled s) := by
  have hk : k.val < 256 := k.isLt.trans (by decide)
  obtain ⟨rest, hr, -⟩ := cutFields_first (ws := sectorWidths.tail.tail) (n := 0) (by decide) ho
  have hf : cutFields sectorWidths (octet1 k.val ++ octet1 0 ++ others) = some (k.val :: 0 :: rest) := by
    rw [List.append_assoc]
    exact (cutFields_octet1 sectorWidths.tail _ _).trans (by rw [numberOf_octet1 hk]; exact congrArg _ hr)
  rw [writeSector, tableWrite_config hm hf]
  dsimp only
  rw [if_neg (by omega), if_pos rfl, Fin.ofNat_val_eq_self]

/-- R10: a sector's number above 15. -/
theorem writeSector_badIndex (hm : s.mode = .config) {n : Nat} (h15 : 15 < n) (h : n < 256) {others : List Byte}
    (ho : others.length = 12) : writeSector (octet1 n ++ others) s = refuse s .badIndex := by
  obtain ⟨rest, hc, hl⟩ := cutFields_first (ws := sectorWidths.tail) h ho
  replace hc : cutFields sectorWidths (octet1 n ++ others) = some (n :: rest) := hc
  rw [writeSector, tableWrite_config hm hc]
  cases rest with
  | nil => cases hl
  | cons enabled rest => exact if_pos h15

/-- R31: presence recomputed for every crane listed before or after a sector's write. -/
theorem recomputeMembers_spec (k : Sector) (r : SectorRecord) {skip : Option Sector} (hq : s.inFlight = [])
    (ht : recomputeMembers k (s.sector k).members skip (s.setSector k r) = t) :
    t = { s with sectors := s.sectors.write k r, positions := t.positions, inFlight := t.inFlight } ∧
      (∀ c, t.position c =
        if c ∈ (s.sector k).members ∨ c ∈ r.members then
          { s.position c with present := t.presenceOf c, obstructed := t.obstructedBy c }
        else s.position c) ∧
      ∀ j c change, .presence j c change ∈ t.inFlight ↔
        skip ≠ some j ∧ (c ∈ (s.sector k).members ∨ c ∈ r.members) ∧ s.Reports t j c change := by
  have hlisted (c : Crane) : c ∈ allCranes.filter (fun c => (s.sector k).members.contains c ||
      ((s.setSector k r).sector k).members.contains c) ↔ c ∈ (s.sector k).members ∨ c ∈ r.members := by
    simp [mem_allCranes]
  obtain ⟨hframe, hpos, hflight⟩ := foldl_recomputePresence (allCranes_nodup.filter _) ht
  simp only [hlisted] at hpos hflight
  have hheld (c : Crane) : (t.position c).held = ((s.setSector k r).position c).held := by
    rw [hpos]; split <;> rfl
  have hsectors : t.sectors = (s.setSector k r).sectors := by rw [hframe]
  have hstood (c : Crane) : (s.setSector k r).restood c =
      { s.position c with present := t.presenceOf c, obstructed := t.obstructedBy c } := by
    rw [presenceOf_congr (s := s.setSector k r) (by rw [hframe]; rfl) (by rw [hframe]; rfl) hsectors (hheld c),
      obstructedBy_congr hsectors (hheld c)]
    rfl
  refine ⟨hframe, fun c => by rw [hpos, hstood]; rfl, fun j c change => ?_⟩
  rw [hflight, State.setSector_inFlight, hq]
  simp only [List.not_mem_nil, false_or, mem_presenceReports, Notice.presence.injEq, State.Reports, hpos]
  constructor
  · rintro ⟨d, hd, j, change, ⟨rfl, rfl, rfl⟩, hj, hc⟩
    exact ⟨hj, hd, by rw [if_pos hd]; exact hc⟩
  · rintro ⟨hj, hd, hc⟩
    rw [if_pos hd] at hc
    exact ⟨c, hd, j, change, ⟨rfl, rfl, rfl⟩, hj, hc⟩

theorem putSector_enabled (he : r.enabled = true) :
    putSector k r s = recomputeMembers k (s.sector k).members none (s.setSector k r) := if_pos he

theorem putSector_disabled :
    putSector k .disabled s =
      (recomputeMembers k (s.sector k).members (some k) (s.setSector k .disabled)).setEntry k .reset := rfl

/-- Settles O24: the write is the stored record and the presence recomputed for the cranes it lists and has listed. -/
theorem sectorWritten : Obligations.SectorWritten := by
  intro s tag k r h hroom hm
  refine ⟨fun hr => ?_, fun others ho => ?_, fun hr he hf => ?_, fun n others h15 h8 ho => ?_⟩
  · obtain ⟨u, hu⟩ : ∃ u, recomputeMembers k ((s.hunting siteLink).sector k).members none
      ((s.hunting siteLink).setSector k r) = u := ⟨_, rfl⟩
    obtain ⟨hframe, hpos, hflight⟩ := recomputeMembers_spec (s := s.hunting siteLink) k r h.2.1 hu
    refine ⟨u.replied tag 0x04#8 [], ?_, (congrArg (State.replied · tag 0x04#8 []) hframe).trans rfl, hpos, fun j c change => ?_⟩
    · rw [exec_writeSector h, request_accept hroom (writeSector_inRange (by exact hm) k hr), putSector_enabled hr.1, hu]
    · exact (hflight j c change).trans (and_iff_right nofun)
  · obtain ⟨u, hu⟩ : ∃ u, recomputeMembers k ((s.hunting siteLink).sector k).members (some k)
      ((s.hunting siteLink).setSector k .disabled) = u := ⟨_, rfl⟩
    obtain ⟨hframe, hpos, hflight⟩ := recomputeMembers_spec (s := s.hunting siteLink) k .disabled h.2.1 hu
    refine ⟨(u.setEntry k .reset).replied tag 0x04#8 [], ?_,
      (congrArg (fun v => (v.setEntry k .reset).replied tag 0x04#8 []) hframe).trans rfl, fun c => ?_, fun j c change => ?_⟩
    · rw [exec_writeSector h, request_accept hroom (writeSector_disabled (by exact hm) k ho), putSector_disabled, hu]
    · exact (hpos c).trans (by simp only [SectorRecord.disabled, List.not_mem_nil, or_false]; rfl)
    · refine (hflight j c change).trans ?_
      simp only [SectorRecord.disabled, List.not_mem_nil, or_false, ne_eq, Option.some.injEq, eq_comm (a := k)]
      rfl
  · rw [exec_writeSector h, request_refuse hroom (writeSector_outOfRange (by exact hm) k hr he hf)]
  · rw [exec_writeSector h, request_refuse hroom (writeSector_badIndex (by exact hm) h15 h8 ho)]

end Sys2Proof.Machine
end

/-! ## WRITE_SEGMENTS (R7, R30, R31, R158): O25 -/

section
namespace Sys2Proof.Machine

variable {s : State} {c : Crane} {count first : Nat} {before part : List RawSegment}

/-! ### Segments from their octets -/

theorem segmentOctets_length (g : RawSegment) : (segmentOctets g).length = 7 := rfl

/-- R159: seven octets give the segment back. -/
theorem readRawSegment_segmentOctets {g : RawSegment} (h : g.Fits) : readRawSegment (segmentOctets g) = g := by
  obtain ⟨h1, h2, h3, h4, h5⟩ := h
  have hsector := g.sector.isLt
  have hstart : numberOf ((segmentOctets g).take 2) = g.start := numberOf_octet2 h1
  have hks : numberOf (((segmentOctets g).drop 2).take 1) = g.kindCode * 64 + g.sector.val :=
    numberOf_octet1 (by omega)
  have hbands : numberOf (((segmentOctets g).drop 3).take 4) = g.rLo * 4194304 + g.rHi * 4096 + g.floor :=
    numberOf_octet4 (by omega)
  have hcode : (g.kindCode * 64 + g.sector.val) / 64 = g.kindCode := by omega
  have hplace : (g.kindCode * 64 + g.sector.val) % 16 = g.sector.val := by omega
  have hlo : (g.rLo * 4194304 + g.rHi * 4096 + g.floor) / 4194304 = g.rLo := by omega
  have hhi : (g.rLo * 4194304 + g.rHi * 4096 + g.floor) / 4096 % 1024 = g.rHi := by omega
  have hfloor : (g.rLo * 4194304 + g.rHi * 4096 + g.floor) % 4096 = g.floor := by omega
  simp only [readRawSegment, hstart, hks, hbands, hcode, hplace, hlo, hhi, hfloor, Fin.ofNat_val_eq_self]

/-- R158: the octets of a part give its segments back. -/
theorem readRawSegments_flatMap (h : ∀ g ∈ part, g.Fits) :
    readRawSegments part.length (part.flatMap segmentOctets) = part := by
  induction part with
  | nil => rfl
  | cons g part ih =>
    rw [List.forall_mem_cons] at h
    have htake : (segmentOctets g ++ part.flatMap segmentOctets).take 7 = segmentOctets g :=
      List.take_left (l₁ := segmentOctets g)
    have hdrop : (segmentOctets g ++ part.flatMap segmentOctets).drop 7 = part.flatMap segmentOctets :=
      List.drop_left (l₁ := segmentOctets g)
    rw [List.flatMap_cons, List.length_cons, readRawSegments, htake, hdrop, readRawSegment_segmentOctets h.1, ih h.2]

theorem flatMap_segmentOctets_length (part : List RawSegment) : (part.flatMap segmentOctets).length = 7 * part.length := by
  induction part with
  | nil => rfl
  | cons g part ih => rw [List.flatMap_cons, List.length_append, ih, segmentOctets_length, List.length_cons]; omega

/-- R7: a segment in range is stored. -/
theorem readSegment_inRange {g : RawSegment} (h : g.InRange) : readSegment g = some g.stored := by
  obtain ⟨start, code, sector, lo, hi, floor⟩ := g
  obtain ⟨h1, h2, h3, h4, h5⟩ := h
  simp only at h1 h2 h3 h4 h5
  have hlo : lo ≤ 1000 := by omega
  unfold readSegment
  rw [if_pos (by simp [h1, h2, h3, h4, h5, hlo])]
  match code, h2 with
  | 0, _ | 1, _ | 2, _ => rfl

theorem readSegment_outOfRange {g : RawSegment} (h : ¬ g.InRange) : readSegment g = none := by
  refine if_neg fun hv => h ?_
  simp only [Bool.and_eq_true, decide_eq_true_eq] at hv
  obtain ⟨⟨⟨⟨⟨h1, h2⟩, -⟩, h3⟩, h4⟩, h5⟩ := hv
  exact ⟨h1, h2, h3, h4, h5⟩

/-- R7: a list of segments in range is stored. -/
theorem readZone_inRange {rs : List RawSegment} (hl : 1 ≤ rs.length ∧ rs.length ≤ 16) (h : ∀ g ∈ rs, g.InRange) :
    readZone rs = some (rs.map RawSegment.stored) := by
  unfold readZone
  rw [if_pos ((within_iff ..).mpr hl)]
  clear hl
  induction rs with
  | nil => rfl
  | cons g rs ih =>
    rw [List.forall_mem_cons] at h
    rw [List.mapM_cons, readSegment_inRange h.1, ih h.2]
    rfl

/-- R7: a list with a segment out of range is not. -/
theorem readZone_outOfRange {rs : List RawSegment} (h : ∃ g ∈ rs, ¬ g.InRange) : readZone rs = none := by
  have hmap : rs.mapM readSegment = none := by
    obtain ⟨g, hg, hr⟩ := h
    induction rs with
    | nil => cases hg
    | cons x rs ih =>
      rw [List.mapM_cons]
      rcases List.mem_cons.mp hg with rfl | hg
      · rw [readSegment_outOfRange hr]; rfl
      · rw [ih hg]; cases readSegment x <;> rfl
  rw [readZone, hmap, ite_self]

/-! ### Parts -/

/-- The operands of a part of WRITE_SEGMENTS. -/
def partOctets (crane count first : Nat) (part : List RawSegment) : List Byte :=
  octet1 crane ++ octet1 count ++ octet1 first ++ part.flatMap segmentOctets

theorem writeSegments_part (hm : s.mode = .config) {crane : Nat} (hc : crane < 256) (hf : ∀ g ∈ part, g.Fits) :
    writeSegments (partOctets crane count first part) s =
      if 7 < crane then refusePart s .badIndex
      else if partWellFormed (count % 256) (first % 256) part.length then
        takePart (Fin.ofNat 8 crane) (count % 256) (first % 256) part s
      else refusePart s .badValue := by
  have hlen := flatMap_segmentOctets_length part
  have hdiv : (part.flatMap segmentOctets).length / 7 = part.length := by omega
  have hcrane : (BitVec.ofNat 8 crane).toNat = crane := by simp; omega
  have hcount : (BitVec.ofNat 8 count).toNat = count % 256 := by simp
  have hfirst : (BitVec.ofNat 8 first).toNat = first % 256 := by simp
  have hops : partOctets crane count first part = BitVec.ofNat 8 crane :: BitVec.ofNat 8 count :: BitVec.ofNat 8 first ::
      part.flatMap segmentOctets := rfl
  rw [hops, writeSegments]
  rw [if_neg (by omega), if_neg (by simp [hm]), hdiv, hcrane, hcount, hfirst, readRawSegments_flatMap hf]

theorem partWellFormed_iff {segments : Nat} :
    partWellFormed count first segments = true ↔
      (1 ≤ count ∧ count ≤ 16) ∧ first ∈ [0, 6, 12] ∧ first < count ∧ segments = min 6 (count - first) := by
  simp only [partWellFormed, partSize, Bool.and_eq_true, within_iff, List.contains_iff_mem, decide_eq_true_eq,
    beq_iff_eq, and_assoc]

/-- R158: the assembly holds the predecessors of a part. -/
def State.holdsParts (s : State) (c : Crane) (count : Nat) (before : List RawSegment) : Prop :=
  before = [] ∨ s.assembly = some { crane := c, count := count, segments := before }

/-- R158: a part whose predecessors are held completes the list, or is added to the assembly. -/
theorem takePart_follows (h : s.holdsParts c count before) (part : List RawSegment) :
    takePart c count before.length part s =
      if (before ++ part).length = count then completeZone c (before ++ part) s
      else accept { s with assembly := some { crane := c, count := count, segments := before ++ part } }
        (octet1 (before ++ part).length) := by
  rcases h with rfl | ha
  · rfl
  · cases before with
    | nil => rfl
    | cons g before =>
      unfold takePart
      simp only [ha, List.length_cons, Nat.succ_ne_zero, reduceIte, and_self]

/-- R158: a part that follows no assembly, or another, is refused. -/
theorem takePart_stray (hb : before ≠ [])
    (h : ∀ a, s.assembly = some a → a.crane ≠ c ∨ a.count ≠ count ∨ a.segments.length ≠ before.length)
    (part : List RawSegment) : takePart c count before.length part s = refusePart s .badValue := by
  unfold takePart
  rw [if_neg (by simpa using hb)]
  cases ha : s.assembly with
  | none => rfl
  | some a =>
    have : ¬ (a.crane = c ∧ a.count = count ∧ a.segments.length = before.length) := by
      rintro ⟨h1, h2, h3⟩
      rcases h a ha with h | h | h
      · exact h h1
      · exact h h2
      · exact h h3
    simp only [if_neg this]

/-- R7: a complete list in range is stored. -/
theorem completeZone_inRange (c : Crane) {rs : List RawSegment} (hl : 1 ≤ rs.length ∧ rs.length ≤ 16)
    (h : ∀ g ∈ rs, g.InRange) :
    completeZone c rs s =
      accept (recomputePresence c none (({ s with assembly := none } : State).setZone c (rs.map RawSegment.stored))) := by
  simp only [completeZone, readZone_inRange hl h]

/-- R7: a complete list with a segment out of range is refused. -/
theorem completeZone_outOfRange (c : Crane) {rs : List RawSegment} (h : ∃ g ∈ rs, ¬ g.InRange) :
    completeZone c rs s = refusePart s .badValue := by
  simp only [completeZone, readZone_outOfRange h, refusePart]

/-- A request whose part is refused is answered with the refusal, and the assembly is discarded. -/
theorem request_refusePart (h : s.Room) {tag code : Byte} {op : State → Answer} {r : Result}
    (ho : op (s.hunting siteLink) = refusePart (s.hunting siteLink) r) :
    request tag code op s = { s.answered tag code r [] with assembly := none } := by
  rw [request_room h, ho]; rfl

/-- R7, R31: a completed list is stored, and the crane's presence recomputed. -/
theorem storeZone_spec (c : Crane) (z : List Segment) (hq : s.inFlight = []) {t : State}
    (ht : recomputePresence c none (({ s with assembly := none } : State).setZone c z) = t) :
    t = { s with
          zones := s.zones.write c z, assembly := none
          positions := s.positions.write c
            { s.position c with present := t.presenceOf c, obstructed := t.obstructedBy c }
          inFlight := t.inFlight } ∧
      ∀ k d change, .presence k d change ∈ t.inFlight ↔ d = c ∧ s.Reports t k c change := by
  subst ht
  obtain ⟨u, hu⟩ : ∃ u, ({ s with assembly := none } : State).setZone c z = u := ⟨_, rfl⟩
  have hpos : u.position c = s.position c := by rw [← hu]; rfl
  have hnew : (recomputePresence c none u).position c = u.restood c := Bank.read_write_self _ _ _
  have hheld : ((recomputePresence c none u).position c).held = (u.position c).held := by rw [hnew]; rfl
  have hstood : u.restood c = { s.position c with
      present := (recomputePresence c none u).presenceOf c
      obstructed := (recomputePresence c none u).obstructedBy c } := by
    rw [presenceOf_congr (s := u) (t := recomputePresence c none u) rfl rfl rfl hheld,
      obstructedBy_congr (s := u) (t := recomputePresence c none u) rfl hheld, ← hpos]
    rfl
  rw [hu]
  refine ⟨?_, fun k d change => ?_⟩
  · rw [← hstood, recomputePresence_eq, ← hu]
    rfl
  · have hflight : (recomputePresence c none u).inFlight = presenceReports c none (s.position c) (u.restood c) := by
      rw [recomputePresence_eq, hpos, ← hu]
      simp [hq]
    rw [hflight, mem_presenceReports, State.Reports, hnew]
    simp

/-- Settles O25: the octets of a part give its segments back; what becomes of the part is a matter of its shape and of the
assembly, and a completed list in range is stored and the presence recomputed. -/
theorem segmentsWritten : Obligations.SegmentsWritten := by
  intro s tag c count before part h hroom hm hfits write refused
  have hpart : ∀ g ∈ part, g.Fits := fun g hg => hfits g (List.mem_append_right _ hg)
  have hc : c.val < 256 := c.isLt.trans (by decide)
  have hwrite (crane first : Nat) :
      write crane first = .next (request tag 0x03#8 (writeSegments (partOctets crane count first part)) s) :=
    exec_writeSegments h tag _
  have hreads {first : Nat} (hcount : count < 256) (hfirst : first < 256) :
      writeSegments (partOctets c.val count first part) (s.hunting siteLink) =
        if partWellFormed count first part.length then takePart c count first part (s.hunting siteLink)
        else refusePart (s.hunting siteLink) .badValue := by
    rw [writeSegments_part (by exact hm) hc hpart, if_neg (by omega), Nat.mod_eq_of_lt hcount, Nat.mod_eq_of_lt hfirst,
      Fin.ofNat_val_eq_self]
  refine ⟨fun crane first h7 h8 => ?_, fun first hcount hfirst hbad => ?_, fun h16 hplace hlt hlen => ⟨fun hheld => ?_, fun hb hstray => ?_⟩⟩
  · rw [hwrite, request_refusePart hroom]
    rw [writeSegments_part (by exact hm) h8 hpart, if_pos h7]
  · rw [hwrite, request_refusePart hroom]
    rw [hreads hcount hfirst, if_neg]
    rw [partWellFormed_iff]
    rintro ⟨hr, hplace, hlt, hlen⟩
    rcases hbad with hbad | hbad | hbad | hbad | hbad
    · omega
    · omega
    · exact hbad hplace
    · omega
    · exact hbad hlen
  · have hfollows : writeSegments (partOctets c.val count before.length part) (s.hunting siteLink) = _ :=
      (hreads (by omega) (by omega)).trans ((if_pos (partWellFormed_iff.mpr ⟨by omega, hplace, hlt, hlen⟩)).trans
        (takePart_follows (s := s.hunting siteLink) hheld part))
    rw [hwrite]
    refine ⟨fun hmore => ?_, fun hall hbad => ?_, fun hall hgood => ?_⟩
    · rw [if_neg (by rw [List.length_append]; omega)] at hfollows
      rw [request_accept hroom hfollows, List.length_append]
      rfl
    · rw [if_pos (by rw [List.length_append]; omega), completeZone_outOfRange c hbad] at hfollows
      rw [request_refusePart hroom hfollows]
    · have hlong : (before ++ part).length = count := by rw [List.length_append]; exact hall
      rw [if_pos hlong, completeZone_inRange c (by omega) hgood] at hfollows
      obtain ⟨u, hu⟩ : ∃ u, recomputePresence c none (({ s.hunting siteLink with assembly := none } : State).setZone c
          ((before ++ part).map RawSegment.stored)) = u := ⟨_, rfl⟩
      obtain ⟨hframe, hflight⟩ := storeZone_spec (s := s.hunting siteLink) c _ h.2.1 hu
      refine ⟨u.replied tag 0x03#8 [], ?_, (congrArg (State.replied · tag 0x03#8 []) hframe).trans rfl, hflight⟩
      rw [request_accept hroom (hfollows.trans (congrArg (accept ·) hu))]
  · rw [hwrite, request_refusePart hroom]
    rw [hreads (by omega) (by omega), if_pos (partWellFormed_iff.mpr ⟨by omega, hplace, hlt, hlen⟩)]
    exact takePart_stray (s := s.hunting siteLink) hb hstray part

end Sys2Proof.Machine
end

/-! ## The arming consistency check (R17): O26 -/

section
namespace Sys2Proof.Machine

variable {s : State}

/-! ### First offenders -/

/-- The lexicographically first pair that a relation holds of. -/
def FirstPair (P : Nat → Nat → Prop) (a b : Nat) : Prop :=
  P a b ∧ ∀ a' b', P a' b' → a < a' ∨ (a = a' ∧ b ≤ b')

/-- A search that gives the place of the first offender of a test, and nothing where the test has none. -/
def Finds (P : Nat → Nat → Prop) (place : Nat → Nat → Nat) (found : Option Nat) : Prop :=
  (∀ a b, FirstPair P a b → found = some (place a b)) ∧ ((∀ a b, ¬ P a b) → found = none)

theorem mem_presentCranes {c : Crane} : c ∈ s.presentCranes ↔ (s.crane c).present = true := by
  simp [State.presentCranes, mem_allCranes]

theorem presentCranes_ascending : s.presentCranes.Pairwise (· < ·) := allCranes_ascending.filter _

/-- R17: the search for the first present crane that a test names. -/
theorem firstCrane_finds {test : Crane → Bool} {bad : Crane → Prop} (ht : ∀ c, test c = true ↔ bad c) :
    Finds (fun a b => b = 0 ∧ ∃ c : Crane, a = c.val ∧ (s.crane c).present = true ∧ bad c) (fun a _ => a)
      (s.firstCrane test) := by
  constructor
  · rintro a b ⟨⟨rfl, c, rfl, hp, hc⟩, hmin⟩
    refine Option.map_eq_some_iff.mpr ⟨c, ?_, rfl⟩
    rw [find?_ascending presentCranes_ascending]
    refine ⟨mem_presentCranes.mpr hp, (ht c).mpr hc, fun d hd hlt => ?_⟩
    have hval : d.val < c.val := hlt
    by_contra hbad
    have := hmin d.val 0 ⟨rfl, d, rfl, mem_presentCranes.mp hd, (ht d).mp (by simpa using hbad)⟩
    omega
  · intro hnone
    refine Option.map_eq_none_iff.mpr (List.find?_eq_none.mpr fun c hc hbad => ?_)
    exact hnone c.val 0 ⟨rfl, c, rfl, mem_presentCranes.mp hc, (ht c).mp hbad⟩

/-- R17: the search for the first enabled sector that a test names. -/
theorem firstSector_finds {test : Sector → Bool} {bad : Sector → Prop} (ht : ∀ k, test k = true ↔ bad k) :
    Finds (fun a b => b = 0 ∧ ∃ k : Sector, a = k.val ∧ (s.sector k).enabled = true ∧ bad k) (fun a _ => a)
      (s.firstSector test) := by
  constructor
  · rintro a b ⟨⟨rfl, k, rfl, he, hk⟩, hmin⟩
    refine Option.map_eq_some_iff.mpr ⟨k, ?_, rfl⟩
    rw [find?_ascending allSectors_ascending]
    refine ⟨mem_allSectors k, by simp [he, (ht k).mpr hk], fun j _ hlt => ?_⟩
    have hval : j.val < k.val := hlt
    by_contra hbad
    obtain ⟨hj, hbad⟩ := Bool.and_eq_true_iff.mp (Bool.not_eq_false _ ▸ hbad)
    have := hmin j.val 0 ⟨rfl, j, rfl, hj, (ht j).mp hbad⟩
    omega
  · intro hnone
    refine Option.map_eq_none_iff.mpr (List.find?_eq_none.mpr fun k _ hbad => ?_)
    obtain ⟨hk, hbad⟩ := Bool.and_eq_true_iff.mp hbad
    exact hnone k.val 0 ⟨rfl, k, rfl, hk, (ht k).mp hbad⟩

/-- R17: the first segment of one crane that a test names. -/
def State.segmentFound (s : State) (c : Crane) (test : Crane → Nat → Segment → Bool) : Option Nat :=
  ((List.range (s.zone c).length).find? (fun i => test c i (segmentAt (s.zone c) i))).map (16 * c.val + ·)

theorem firstSegment_eq (test : Crane → Nat → Segment → Bool) :
    s.firstSegment test = s.presentCranes.findSome? (fun c => s.segmentFound c test) := by
  unfold State.firstSegment State.segmentFound State.indexed
  refine congrArg (List.findSome? · _) (funext fun c => ?_)
  rw [List.find?_map, Option.map_map]
  rfl

/-- R17: the search for the first segment of a present crane that a test names. -/
theorem firstSegment_finds {test : Crane → Nat → Segment → Bool} {bad : Crane → Nat → Segment → Prop}
    (ht : ∀ c i g, (s.zone c)[i]? = some g → (test c i g = true ↔ bad c i g)) :
    Finds (fun a b => ∃ c : Crane, a = c.val ∧ (s.crane c).present = true ∧ ∃ g, (s.zone c)[b]? = some g ∧ bad c b g)
      (fun a b => 16 * a + b) (s.firstSegment test) := by
  have hbad {c : Crane} {i : Nat} (hi : i ∈ List.range (s.zone c).length)
      (h : test c i (segmentAt (s.zone c) i) = true) : ∃ g, (s.zone c)[i]? = some g ∧ bad c i g :=
    have hg := getElem?_segmentAt (List.mem_range.mp hi)
    ⟨_, hg, (ht c i _ hg).mp h⟩
  rw [firstSegment_eq]
  constructor
  · rintro a b ⟨⟨c, rfl, hp, g, hg, hb⟩, hmin⟩
    rw [findSome?_ascending presentCranes_ascending]
    refine ⟨c, mem_presentCranes.mpr hp, Option.map_eq_some_iff.mpr ⟨b, ?_, rfl⟩, fun d hd hlt => ?_⟩
    · rw [find?_ascending List.pairwise_lt_range]
      refine ⟨List.mem_range.mpr (List.getElem?_eq_some_iff.mp hg).1, ?_, fun i hi hlt => ?_⟩
      · rw [segmentAt_of_getElem? hg]
        exact (ht c b g hg).mpr hb
      · by_contra h
        have := hmin c.val i ⟨c, rfl, hp, hbad hi (by simpa using h)⟩
        omega
    · have hval : d.val < c.val := hlt
      refine Option.map_eq_none_iff.mpr (List.find?_eq_none.mpr fun i hi h => ?_)
      have := hmin d.val i ⟨d, rfl, mem_presentCranes.mp hd, hbad hi h⟩
      omega
  · intro hnone
    refine List.findSome?_eq_none_iff.mpr fun c hc => ?_
    refine Option.map_eq_none_iff.mpr (List.find?_eq_none.mpr fun i hi h => ?_)
    exact hnone c.val i ⟨c, rfl, mem_presentCranes.mp hc, hbad hi h⟩

/-! ### The ten tests -/

/-- R17: the place that a locator gives. -/
def offenderPlace (code a b : Nat) : Nat := if code ∈ [4, 5, 6, 9] then 16 * a + b else a

/-- R17: each test of the list gives its first offender. -/
theorem armingTests_find (s : State) : ∀ x ∈ s.armingTests, Finds (s.FailsTest x.1) (offenderPlace x.1) x.2 := by
  simp only [State.armingTests, List.forall_mem_cons, List.not_mem_nil, false_implies, implies_true, and_true]
  refine ⟨?_, firstCrane_finds fun c => ?_, firstCrane_finds fun c => ?_, firstSegment_finds fun c i g hg => ?_,
    firstSegment_finds fun c i g hg => ?_, firstSegment_finds fun c i g hg => ?_, firstSector_finds fun k => ?_,
    firstCrane_finds fun c => ?_, firstSegment_finds fun c i g hg => ?_, firstSector_finds fun k => ?_⟩
  · constructor
    · rintro a b ⟨⟨rfl, rfl, hnone⟩, -⟩
      exact if_pos (List.filter_eq_nil_iff.mpr fun c _ => by simp [hnone c])
    · intro h
      refine if_neg fun hn => h 255 0 ⟨rfl, rfl, fun c => ?_⟩
      simpa using List.filter_eq_nil_iff.mp hn c (mem_allCranes c)
  · simp [State.profileOf]
  · simp
  · cases i with
    | zero => simp
    | succ i =>
      have hi : i < (s.zone c).length := by have := (List.getElem?_eq_some_iff.mp hg).1; omega
      simp [getElem?_segmentAt hi]
  · simp
  · rw [Bool.and_eq_true, beq_iff_eq, Bool.not_eq_true', Bool.eq_false_iff, ne_eq, isMember_iff]
    exact ⟨fun ⟨hk, hn⟩ => ⟨hk, fun h => hn h.2⟩, fun ⟨hk, hn⟩ => ⟨hk, fun h => hn ⟨hk, h⟩⟩⟩
  · simp only [List.any_eq_true, Bool.not_eq_true', Bool.and_eq_false_iff, State.reaches, List.any_eq_false,
      Bool.and_eq_true, beq_iff_eq, not_and, ne_eq]
  · simp
  · simp [isMember_iff, and_assoc]
  · simp

/-- R17: only the ten codes have a test. -/
theorem mem_codes_of_failsTest {code a b : Nat} (h : s.FailsTest code a b) : code ∈ s.armingTests.map (·.1) := by
  show code ∈ [1, 2, 3, 4, 5, 6, 7, 8, 9, 10]
  unfold State.FailsTest at h
  dsimp only at h
  split at h <;> simp_all

theorem armingTests_ascending (s : State) : s.armingTests.Pairwise (fun x y => x.1 < y.1) := by
  refine List.pairwise_map.mp (?_ : (s.armingTests.map (·.1)).Pairwise (· < ·))
  show [1, 2, 3, 4, 5, 6, 7, 8, 9, 10].Pairwise (· < ·)
  decide

/-- R17: the locator of the first test that fails. -/
theorem checkFailure_of_fails {code a b : Nat} (h : s.FailsTest code a b)
    (hmin : ∀ code' a' b', s.FailsTest code' a' b' → code < code' ∨ (code = code' ∧ (a < a' ∨ (a = a' ∧ b ≤ b')))) :
    s.checkFailure = some (256 * code + offenderPlace code a b) := by
  obtain ⟨x, hx, rfl⟩ := List.mem_map.mp (mem_codes_of_failsTest h)
  obtain ⟨former, later, hl⟩ := List.append_of_mem hx
  refine List.findSome?_eq_some_iff.mpr ⟨former, x, later, hl, ?_, fun y hy => ?_⟩
  · have hfound := (armingTests_find s x hx).1 a b ⟨h, fun a' b' h' => by have := hmin _ _ _ h'; omega⟩
    show x.2.map (256 * x.1 + ·) = _
    rw [hfound]
    rfl
  · have hbefore : y.1 < x.1 := by
      have := armingTests_ascending s
      rw [hl, List.pairwise_append] at this
      exact this.2.2 y hy x List.mem_cons_self
    have hnone := (armingTests_find s y (by rw [hl]; exact List.mem_append_left _ hy)).2 fun a' b' h' => by
      have := hmin _ _ _ h'
      omega
    show y.2.map (256 * y.1 + ·) = _
    rw [hnone]
    rfl

/-- R17: the check passes when no test fails. -/
theorem checkFailure_none (h : ∀ code a b, ¬ s.FailsTest code a b) : s.checkFailure = none :=
  List.findSome?_eq_none_iff.mpr fun x hx => by
    show x.2.map (256 * x.1 + ·) = _
    rw [(armingTests_find s x hx).2 (h x.1)]
    rfl

/-- R163: an arming without operands. -/
theorem arm_refused (hm : s.mode = .config) {locator : Nat} (hc : s.checkFailure = some locator) :
    arm [] s = { state := s, result := .checkFailed, locator := locator } := by
  simp [arm, noOperands, hm, hc]

theorem arm_accepted (hm : s.mode = .config) (hc : s.checkFailure = none) : arm [] s = accept (armSite s) := by
  simp [arm, noOperands, hm, hc]

/-- R163: what an arming touches. -/
theorem armSite_butArming (s : State) : (armSite s).butArming = ({ s with mode := .armed } : State).butArming := by
  rw [armSite, State.butArming_post, armBookings_butArming,
    State.butArming_of_butEntries (setUpSectors_butEntries _)]

theorem armSite_mode : (armSite s).mode = .armed := by
  have h := frame_of_butArming (armSite_butArming s)
  generalize armSite s = t at h
  rw [h]

/-- Settles O26: each of the ten tests gives its first offender, and the first test that has one gives the locator. -/
theorem armingTestsRefuse : Obligations.ArmingTestsRefuse := by
  intro s tag h hroom hm
  refine ⟨fun code a b hfails hmin => ?_, fun hnone => ?_⟩
  · have hc : (s.hunting siteLink).checkFailure = _ := checkFailure_of_fails (s := s) hfails hmin
    rw [exec_arm h, request_room hroom, arm_refused (by exact hm) hc]
    rfl
  · have hc : (s.hunting siteLink).checkFailure = none := checkFailure_none (s := s) hnone
    refine ⟨(armSite (s.hunting siteLink)).replied tag 0x10#8 [], ?_, armSite_mode⟩
    rw [exec_arm h, request_accept hroom (arm_accepted (by exact hm) hc)]

end Sys2Proof.Machine
end

/-! ## What the arming and a booked-claimant change make of an entry (R60, R69, R71, R77) -/

section
namespace Sys2Proof.Machine

variable {x : SectorContext} {e : SectorEntry}

/-! ### What an event leaves of an entry -/

/-- An entry without its base state. -/
def SectorEntry.unheld (e : SectorEntry) : SectorEntry := { e with base := .free }

@[simp] theorem chain_fst (y : EntryStep) (f : SectorEntry → EntryStep) : (chain y f).1 = (f y.1).1 := rfl

@[simp] theorem mapGrant_unheld (f : Grant → Grant) (e : SectorEntry) : (mapGrant f e).unheld = e.unheld := rfl

theorem queue_of_unheld {e e' : SectorEntry} (h : e'.unheld = e.unheld) : e'.queue = e.queue := by
  have := congrArg SectorEntry.queue h
  exact this

@[simp] theorem setYield_unheld (x : SectorContext) (cause : YieldCause) (e : SectorEntry) :
    (setYield x cause e).1.unheld = e.unheld := by
  unfold setYield
  split
  · split <;> rfl
  · rfl

@[simp] theorem setOverstay_unheld (x : SectorContext) (e : SectorEntry) :
    (setOverstay x e).1.unheld = e.unheld := by
  unfold setOverstay
  split <;> rfl

theorem clearIdleYield_unheld (e : SectorEntry) : (clearIdleYield e).unheld = e.unheld := by
  unfold clearIdleYield
  split <;> rfl

/-- R66, R67: the arrival of a waiter sets flags of the grant. -/
theorem waiterArrives_unheld (x : SectorContext) (e : SectorEntry) : (waiterArrives x e).1.unheld = e.unheld := by
  unfold waiterArrives
  split
  · rfl
  · rw [chain_fst]
    split
    · split <;> simp
    · split <;> simp

/-- R71: the end of a booking's priority changes the grant. -/
theorem endPriority_unheld (x : SectorContext) (e : SectorEntry) : (endPriority x e).1.unheld = e.unheld := by
  unfold endPriority
  dsimp only
  split <;> simp

theorem endListed_unheld (x : SectorContext) (left : List (Half × BookingState)) (e : SectorEntry) :
    (endListed x left e).1.unheld = e.unheld := by
  unfold endListed
  repeat' split
  · exact endPriority_unheld x e
  all_goals rfl

/-- R69: a new claimant changes the grant. -/
theorem applyClaimant_unheld (x : SectorContext) (e : SectorEntry) : (applyClaimant x e).1.unheld = e.unheld := by
  unfold applyClaimant
  repeat' split
  all_goals simp

/-- R61: where nothing is queued a grant changes the base state alone. -/
theorem grantSector_unheld (hq : e.queue = []) (c : Crane) (kind : GrantKind) (how : Nat) :
    (grantSector x c kind how e).1.unheld = e.unheld := by
  simp [grantSector, SectorEntry.unheld, withdraw, hq]

/-- R60: and so does the grant evaluation. -/
theorem evaluateGrant_unheld (hq : e.queue = []) (entering : Option Crane) :
    (evaluateGrant x entering e).1.unheld = e.unheld := by
  unfold evaluateGrant
  split
  · rfl
  · split
    · rfl
    · split
      · dsimp only
        rw [chain_fst, chain_fst]
        split
        · rw [setYield_unheld]
          exact grantSector_unheld hq _ _ 0
        · exact grantSector_unheld hq _ _ 0
      · exact grantSector_unheld hq _ _ _
      · exact grantSector_unheld hq _ _ _
      · rfl

theorem judge_unheld (hq : e.queue = []) (entering : Option Crane) : (judge x entering e).1.unheld = e.unheld := by
  unfold judge
  split
  · obtain ⟨e1, he⟩ : ∃ e1, (if stateOf x.record.clash e = .contested ∧ e.presence.length ≤ 1 then
        { e with base := .free } else e) = e1 := ⟨_, rfl⟩
    have hsame : e1.unheld = e.unheld := by rw [← he]; split <;> rfl
    dsimp only
    rw [he, clearIdleYield_unheld]
    split
    · rw [evaluateGrant_unheld ((queue_of_unheld hsame).trans hq), hsame]
    · exact hsame
  · rfl

/-- R69, R71: where nothing is queued a booked-claimant change changes the claimant and the base state alone. -/
theorem takeClaimant_unheld (hq : e.queue = []) (left : List (Half × BookingState)) (cl : Option Claimant) :
    (takeClaimant x left cl e).1.unheld = { e with claimant := cl }.unheld := by
  obtain ⟨e1, he1⟩ : ∃ e1, (endListed x left e).1 = e1 := ⟨_, rfl⟩
  obtain ⟨e2, he2⟩ : ∃ e2, (applyClaimant x { e1 with claimant := cl }).1 = e2 := ⟨_, rfl⟩
  obtain ⟨e3, he3⟩ : ∃ e3, (if !hasWaiter e && hasWaiter e2 then waiterArrives x e2 else (e2, [])).1 = e3 := ⟨_, rfl⟩
  have h1 : e1.unheld = e.unheld := by rw [← he1, endListed_unheld]
  have h2 : e2.unheld = { e with claimant := cl }.unheld := by
    rw [← he2, applyClaimant_unheld]
    exact congrArg (fun u : SectorEntry => { u with claimant := cl }) h1
  have h3 : e3.unheld = e2.unheld := by
    rw [← he3]
    split
    · exact waiterArrives_unheld x e2
    · rfl
  have hstep : (takeClaimant x left cl e).1 = (judge x none e3).1 := by
    rw [← he3, ← he2, ← he1]; rfl
  rw [hstep, judge_unheld ((queue_of_unheld (h3.trans h2)).trans hq), h3, h2]

/-! ### An entry set up -/

/-- R77: an entry before the grant evaluation of an arming. -/
def freshEntry (presence obstruction : List Crane) (cl : Option Claimant) : SectorEntry :=
  { SectorEntry.reset with presence := presence, obstruction := obstruction, claimant := cl }

theorem takeArm_unheld (presence obstruction : List Crane) (cl : Option Claimant) (e : SectorEntry) :
    (takeArm x presence obstruction cl e).1.unheld = freshEntry presence obstruction cl :=
  (judge_unheld rfl none).trans rfl

/-- R68: a grant without a yield flag has none to clear. -/
theorem clearIdleYield_of_none (h : ∀ g, grantOf e = some g → g.yielding = none) : clearIdleYield e = e := by
  obtain ⟨base, queue, locks, closed, presence, obstruction, claimant⟩ := e
  unfold clearIdleYield
  split
  · rfl
  · cases base with
    | free => rfl
    | contested => rfl
    | held c g =>
      obtain ⟨kind, slice, hold, expired, yielding, overstay⟩ := g
      obtain rfl : yielding = none := h _ rfl
      rfl
    | clearing c g n =>
      obtain ⟨kind, slice, hold, expired, yielding, overstay⟩ := g
      obtain rfl : yielding = none := h _ rfl
      rfl

/-- The record of a new grant (R61). -/
def Grant.newBy (r : SectorRecord) : GrantKind → Grant
  | .routine => .routineBy r
  | .booked id => .bookedBy r id

theorem grantSector_eq (c : Crane) (kind : GrantKind) (how : Nat) :
    grantSector x c kind how e =
      ({ e with base := .held c (Grant.newBy x.record kind), queue := withdraw e.queue c },
        [eventOf .grant (some c) (some x.sector) (grantBooking kind) (grantCode kind) how]) := by
  cases kind <;> rfl

section
variable (hl : e.locks = [])
include hl

theorem unlocked_presence : e.presence.filter (fun c => !e.locks.contains c) = e.presence := by simp [hl]

/-- R62: the evaluation with several members present. -/
theorem evaluateGrant_contested (hp : 2 ≤ e.presence.length) :
    evaluateGrant x none e =
      ({ e with base := .contested }, [eventOf .contested none (some x.sector) e.presence.length]) := by
  unfold evaluateGrant
  rw [unlocked_presence hl]
  split
  · next h => rw [h]; rfl
  · next hn =>
    match hpresence : e.presence, hp with
    | a :: b :: rest, _ => exact absurd hpresence (hn a b rest)

/-- R60: nothing is granted while a member obstructs. -/
theorem evaluateGrant_obstructed (hp : e.presence.length ≤ 1) (ho : e.obstruction ≠ []) :
    evaluateGrant x none e = (e, []) := by
  unfold evaluateGrant
  rw [unlocked_presence hl]
  split
  · next h => rw [h] at hp; simp at hp
  · rw [if_pos ho]

/-- R60: the sector goes to the member present, by the claim of its booking where it has one. -/
theorem evaluateGrant_present {c : Crane} (hp : e.presence = [c]) (ho : e.obstruction = []) :
    (∀ cl, e.claimant = some cl → cl.crane = c →
      evaluateGrant x none e = grantSector x c (.booked cl.booking) 0 e) ∧
    (e.claimant = none → evaluateGrant x none e = grantSector x c .routine 0 e) ∧
    (∀ cl, e.claimant = some cl → cl.crane ≠ c →
      evaluateGrant x none e = chain (grantSector x c .routine 0 e) (setYield x .booking)) := by
  have hheld : e.presence.filter (fun c => !e.locks.contains c) = [c] := by rw [unlocked_presence hl, hp]
  unfold evaluateGrant
  rw [hheld]
  dsimp only
  rw [if_neg (by simp [ho])]
  refine ⟨fun cl hcl hc => ?_, fun hcl => ?_, fun cl hcl hc => ?_⟩
  · simp [hcl, claims, hc, chain]
  · simp [hcl, chain]
  · simp [hcl, claims, hc, chain]

/-- R60: with no member present the sector goes to the claimant. -/
theorem evaluateGrant_absent (hp : e.presence = []) (ho : e.obstruction = []) :
    (∀ cl, e.claimant = some cl → evaluateGrant x none e = grantSector x cl.crane (.booked cl.booking) 1 e) ∧
    (e.claimant = none → e.queue = [] → evaluateGrant x none e = (e, [])) := by
  have hheld : e.presence.filter (fun c => !e.locks.contains c) = [] := by rw [unlocked_presence hl, hp]
  unfold evaluateGrant
  rw [hheld]
  dsimp only
  rw [if_neg (by simp [ho])]
  refine ⟨fun cl hcl => ?_, fun hcl hq => ?_⟩
  · simp [hcl]
  · simp [hcl, hq]

end

/-- R60, R77: the grant evaluation of an arming. -/
theorem takeArm_eq (ha : x.armed = true) (presence obstruction : List Crane) (cl : Option Claimant) (e : SectorEntry) :
    takeArm x presence obstruction cl e =
      (clearIdleYield (evaluateGrant x none (freshEntry presence obstruction cl)).1,
        (evaluateGrant x none (freshEntry presence obstruction cl)).2) := by
  have hfree : stateOf x.record.clash (freshEntry presence obstruction cl) = .free := by
    cases x.record.clash <;> rfl
  have hno : ¬ (stateOf x.record.clash (freshEntry presence obstruction cl) = .contested ∧
      (freshEntry presence obstruction cl).presence.length ≤ 1) := by
    rw [hfree]
    exact nofun
  show judge x none (freshEntry presence obstruction cl) = _
  simp only [judge, if_pos ha, if_neg hno, if_pos hfree]

theorem takeArm_evaluates (ha : x.armed = true) (presence obstruction : List Crane) (cl : Option Claimant)
    (e : SectorEntry) :
    GrantEvaluation x.sector x.record none (freshEntry presence obstruction cl)
      (takeArm x presence obstruction cl e).1 (takeArm x presence obstruction cl e).2 := by
  rw [takeArm_eq ha]
  obtain ⟨e, he⟩ : ∃ e, freshEntry presence obstruction cl = e := ⟨_, rfl⟩
  have hl : e.locks = [] := by rw [← he]; rfl
  have hq : e.queue = [] := by rw [← he]; rfl
  have hb : e.base = .free := by rw [← he]; rfl
  have hsame : { e with base := .free } = e := by rw [← he]; rfl
  have hidle : clearIdleYield e = { e with base := .free } := by
    rw [hsame]
    exact clearIdleYield_of_none fun g hg => by rw [grantOf, hb] at hg; cases hg
  rw [he]
  refine ⟨fun _ hc => ?_, fun hp _ => ?_, fun hp ho => ?_, fun ho => ⟨fun c hp =>
    ⟨fun cl hcl hc => ?_, fun cl hcl hc => ?_, fun hcl => ?_⟩, fun hp =>
    ⟨fun cl hcl => ?_, fun q rest _ hq' => ?_, fun hcl _ => ?_⟩⟩⟩
  · rw [hb] at hc; cases hc
  · rw [evaluateGrant_contested hl hp]
    exact ⟨clearIdleYield_of_none nofun, rfl⟩
  · rw [evaluateGrant_obstructed hl hp ho]
    exact ⟨hidle, rfl⟩
  · rw [(evaluateGrant_present hl hp ho).1 cl hcl hc, grantSector_eq]
    exact ⟨clearIdleYield_of_none fun g hg => by cases hg; rfl, rfl⟩
  · rw [(evaluateGrant_present hl hp ho).2.2 cl hcl hc, grantSector_eq]
    obtain ⟨waiting, hw⟩ : ∃ waiting : SectorEntry, waiting = { e with
      base := .held c { Grant.routineBy x.record with yielding := some .booking }, queue := withdraw e.queue c } :=
      ⟨_, rfl⟩
    have hwaits : hasWaiter waiting = true := by
      simp [hw, hasWaiter, hcl, ownerOf, Ne.symm hc]
    have hkept : clearIdleYield waiting = waiting := if_pos hwaits
    rw [hw] at hkept
    exact ⟨hkept, rfl⟩
  · rw [(evaluateGrant_present hl hp ho).2.1 hcl, grantSector_eq]
    exact ⟨clearIdleYield_of_none fun g hg => by cases hg; rfl, rfl⟩
  · rw [(evaluateGrant_absent hl hp ho).1 cl hcl, grantSector_eq]
    exact ⟨clearIdleYield_of_none fun g hg => by cases hg; rfl, rfl⟩
  · rw [hq] at hq'; cases hq'
  · rw [(evaluateGrant_absent hl hp ho).2 hcl hq]
    exact ⟨hidle, rfl⟩

end Sys2Proof.Machine
end

/-! ## Events of several entries, one after the other -/

section
namespace Sys2Proof.Machine

variable {s t : State}

/-- What an event makes of sector `k`'s entry, and the events it raises; a disabled sector's entry takes none (R54). -/
def State.taken (s : State) (k : Sector) (f : SectorContext → SectorEntry → EntryStep) : EntryStep :=
  if (s.sector k).enabled = true then f (s.sectorContext k) (s.entry k) else (s.entry k, [])

/-- One entry's event replaces the entry and raises its events. -/
theorem entryEvent_taken (k : Sector) (f : SectorContext → SectorEntry → EntryStep) (s : State) :
    s.EntryTakes (entryEvent k f s) k (s.taken k f).1 (s.taken k f).2 := by
  unfold State.taken
  by_cases h : (s.sector k).enabled = true
  · rw [if_pos h]
    exact entryEvent_takes h f
  · rw [if_neg h, entryEvent_disabled (by simpa using h)]
    unfold State.EntryTakes State.entry
    rw [Bank.write_read]
    rfl

theorem taken_congr {k : Sector} {f : SectorContext → SectorEntry → EntryStep} (hb : t.butEntries = s.butEntries)
    (he : t.entry k = s.entry k) : t.taken k f = s.taken k f := by
  have ht := frame_of_butEntries hb
  have hsector : t.sector k = s.sector k := by rw [ht]; rfl
  have hcontext : t.sectorContext k = s.sectorContext k := by rw [ht]; rfl
  rw [State.taken, State.taken, hsector, hcontext, he]

theorem postAll_append (as bs : List EventBody) : s.postAll (as ++ bs) = (s.postAll as).postAll bs :=
  List.foldl_append

/-- Events taken by the entries of different sectors. -/
theorem foldl_entryEvent {step : State → Sector → State} {f : Sector → SectorContext → SectorEntry → EntryStep}
    {ks : List Sector} (hn : ks.Nodup)
    (hstep : ∀ u k, u.butEntries = s.butEntries → step u k = entryEvent k (f k) u) (ht : ks.foldl step s = t) :
    t = { s with entries := t.entries
                 events := (s.postAll (ks.flatMap fun k => (s.taken k (f k)).2)).events
                 overflow := (s.postAll (ks.flatMap fun k => (s.taken k (f k)).2)).overflow
                 inFlight := t.inFlight } ∧
      ∀ k, t.entry k = if k ∈ ks then (s.taken k (f k)).1 else s.entry k := by
  induction ks generalizing s with
  | nil => subst ht; simp [State.postAll]
  | cons k ks ih =>
    rw [List.nodup_cons] at hn
    obtain ⟨u, hu⟩ : ∃ u, entryEvent k (f k) s = u := ⟨_, rfl⟩
    have hb : u.butEntries = s.butEntries := by rw [← hu, entryEvent_butEntries]
    have htakes := entryEvent_taken k (f k) s
    rw [hu] at htakes
    rw [List.foldl_cons, hstep s k rfl, hu] at ht
    obtain ⟨hframe, hentry⟩ := ih hn.2 (fun v j hv => hstep v j (hv.trans hb)) ht
    have hread (j : Sector) : u.entry j = if j = k then (s.taken k (f k)).1 else s.entry j := by
      rw [htakes]; exact Bank.read_write _ _ _ _
    have hothers {j : Sector} (hj : j ∈ ks) : u.taken j (f j) = s.taken j (f j) :=
      taken_congr hb (by rw [hread, if_neg]; rintro rfl; exact hn.1 hj)
    have hflat : (ks.flatMap fun j => (u.taken j (f j)).2) = ks.flatMap fun j => (s.taken j (f j)).2 :=
      List.flatMap_congr fun j hj => by rw [hothers hj]
    constructor
    · have hbut := frame_of_butEntries hb
      obtain ⟨he, ho⟩ := postAll_congr (s := s.postAll (s.taken k (f k)).2) (t := u)
        (ks.flatMap fun j => (s.taken j (f j)).2) (by rw [htakes]) (by rw [htakes])
        (by rw [hbut, State.postAll_frame]) (by rw [hbut, State.postAll_frame]) (by rw [hbut, State.postAll_frame])
      rw [hflat, he, ho, ← postAll_append] at hframe
      rw [htakes] at hframe
      exact hframe
    · intro j
      rw [hentry, hread]
      by_cases hj : j = k
      · subst hj; simp [hn.1]
      · by_cases hjs : j ∈ ks
        · simp [hj, hjs, hothers hjs]
        · simp [hj, hjs]

end Sys2Proof.Machine
end

/-! ## ARM (R77, R99, R106, R107, R163): O27 -/

section
namespace Sys2Proof.Machine

variable {s t : State}

/-! ### The sectors set up -/

/-- R77: sector `k`'s entry set up at an arming, and the events of its grant evaluation. -/
def State.setUp (s : State) (k : Sector) : EntryStep :=
  s.taken k fun x e => takeArm x (s.presentIn k) (s.obstructing k) (s.tableClaimant k) e

theorem allSectors_nodup : allSectors.Nodup := by decide

/-- R77: the sectors are set up one by one. -/
theorem setUpSectors_spec (ht : setUpSectors s = t) :
    t = { s with entries := t.entries
                 events := (s.postAll (allSectors.flatMap fun k => (s.setUp k).2)).events
                 overflow := (s.postAll (allSectors.flatMap fun k => (s.setUp k).2)).overflow
                 inFlight := t.inFlight } ∧
      ∀ k, t.entry k = (s.setUp k).1 := by
  have hstep (u : State) (k : Sector) (hu : u.butEntries = s.butEntries) :
      entryEvent k (fun x e => takeArm x (u.presentIn k) (u.obstructing k) ((claimantOf u.bookings k).map asClaimant) e)
        u = entryEvent k (fun x e => takeArm x (s.presentIn k) (s.obstructing k) (s.tableClaimant k) e) u := by
    have hpresent : u.presentIn k = s.presentIn k := by rw [frame_of_butEntries hu]; rfl
    have hobstructing : u.obstructing k = s.obstructing k := by rw [frame_of_butEntries hu]; rfl
    have hclaimant : (claimantOf u.bookings k).map asClaimant = s.tableClaimant k := by
      rw [frame_of_butEntries hu]; rfl
    rw [hpresent, hobstructing, hclaimant]
  obtain ⟨hframe, hentry⟩ := foldl_entryEvent allSectors_nodup hstep ht
  exact ⟨hframe, fun k => (hentry k).trans (if_pos (mem_allSectors k))⟩

/-! ### The bookings judged and the arbiter told -/

/-- R106: sector `k`'s entry after the report of a change of the booking table, where it is owed one, and the events it
raises. -/
def State.told (s : State) (after : List Booking) (k : Sector) : EntryStep :=
  if s.reportDue s.bookings after k = true then
    s.taken k fun x e => takeClaimant x (leftActive k s.bookings after) ((claimantOf after k).map asClaimant) e
  else (s.entry k, [])

theorem flatMap_filter_eq {α β : Type} (l : List α) (p : α → Bool) (g : α → List β) :
    (l.filter p).flatMap g = l.flatMap fun a => if p a = true then g a else [] := by
  induction l with
  | nil => rfl
  | cons a l ih =>
    by_cases h : p a = true
    · simp [h, ih]
    · simp [h, ih]

/-- R106: the table replaced, and the reports taken within the event. -/
theorem changeBookingsAtOnce_spec {after : List Booking} {evs : List EventBody}
    (ht : s.changeBookingsAtOnce after evs = t) :
    t = { s with bookings := after
                 entries := t.entries
                 events := (s.postAll (evs ++ allSectors.flatMap fun k => (s.told after k).2)).events
                 overflow := (s.postAll (evs ++ allSectors.flatMap fun k => (s.told after k).2)).overflow
                 inFlight := t.inFlight } ∧
      ∀ k, t.entry k = (s.told after k).1 := by
  obtain ⟨v, hv⟩ : ∃ v, ({ s with bookings := after } : State).postAll evs = v := ⟨_, rfl⟩
  have hframe := State.postAll_frame (s := { s with bookings := after }) evs
  rw [hv] at hframe
  have htaken (k : Sector) (f : SectorContext → SectorEntry → EntryStep) : v.taken k f = s.taken k f := by
    have hsector : v.sector k = s.sector k := by rw [hframe]; rfl
    have hcontext : v.sectorContext k = s.sectorContext k := by rw [hframe]; rfl
    have hentry : v.entry k = s.entry k := by rw [hframe]; rfl
    rw [State.taken, State.taken, hsector, hcontext, hentry]
  unfold State.changeBookingsAtOnce at ht
  rw [hv] at ht
  obtain ⟨hf, he⟩ := foldl_entryEvent (s := v)
    (f := fun k x e => takeClaimant x (leftActive k s.bookings after) ((claimantOf after k).map asClaimant) e)
    (allSectors_nodup.filter _) (fun u k _ => rfl) ht
  simp only [htaken] at hf he
  have hflat : ((allSectors.filter (s.reportDue s.bookings after)).flatMap fun k => (s.taken k fun x e =>
      takeClaimant x (leftActive k s.bookings after) ((claimantOf after k).map asClaimant) e).2) =
      allSectors.flatMap fun k => (s.told after k).2 := by
    rw [flatMap_filter_eq]
    refine List.flatMap_congr fun k _ => ?_
    unfold State.told
    split <;> rfl
  constructor
  · obtain ⟨hev, hov⟩ := postAll_congr (s := ({ s with bookings := after } : State).postAll evs) (t := v)
      (allSectors.flatMap fun k => (s.told after k).2) (by rw [hv]) (by rw [hv]) (by rw [hv]) (by rw [hv]) (by rw [hv])
    obtain ⟨hevents, hoverflow⟩ := postAll_congr (s := s) (t := { s with bookings := after })
      (evs ++ allSectors.flatMap fun k => (s.told after k).2) rfl rfl rfl rfl rfl
    rw [hflat, hev, hov, ← postAll_append, hevents, hoverflow] at hf
    rw [hframe] at hf
    exact hf
  · intro k
    have hentry : v.entry k = s.entry k := by rw [hframe]; rfl
    have hdue : k ∈ allSectors.filter (s.reportDue s.bookings after) ↔ s.reportDue s.bookings after k = true := by
      simp [mem_allSectors]
    rw [he, State.told, hentry]
    by_cases hk : s.reportDue s.bookings after k = true
    · rw [if_pos (hdue.mpr hk), if_pos hk]
    · rw [if_neg (mt hdue.mp hk), if_neg hk]

/-- R99: the booking table after an arming. -/
def State.judged (s : State) : List Booking := s.bookings.map fun b => s.evaluateBooking .mode (s.tableCheck b)

/-- R77: the state whose entries are set up. -/
def State.settingUp (s : State) : State := { s with entries := s.entries.updateAt fun k _ => (s.setUp k).1 }

theorem settingUp_entry (k : Sector) : s.settingUp.entry k = (s.setUp k).1 := Bank.read_updateAt _ _ _

theorem judged_congr (hb : t.butEntries = s.butEntries) : t.judged = s.judged := by
  rw [frame_of_butEntries hb]; rfl

theorem reportDue_congr {before after : List Booking} {k : Sector} (he : t.entry k = s.entry k) :
    t.reportDue before after k = s.reportDue before after k := by
  rw [State.reportDue, State.reportDue, State.grantOwner, State.grantOwner, he]

theorem told_congr {after : List Booking} {k : Sector} (hb : t.butEntries = s.butEntries)
    (he : t.entry k = s.entry k) : t.told after k = s.told after k := by
  have hbookings : t.bookings = s.bookings := by rw [frame_of_butEntries hb]
  rw [State.told, State.told, hbookings, reportDue_congr he, taken_congr hb he, he]

/-- Between two states the events have been posted, under one mask and one clock. -/
def State.Posted (s t : State) (bs : List EventBody) : Prop :=
  t.events = (s.postAll bs).events ∧ t.overflow = (s.postAll bs).overflow ∧ t.mask = s.mask ∧ t.clock = s.clock ∧
    t.clockSet = s.clockSet

theorem State.Posted.trans {u : State} {as bs : List EventBody} (h : s.Posted t as) (h' : t.Posted u bs) :
    s.Posted u (as ++ bs) := by
  obtain ⟨he, ho, hm, hc, hu⟩ := h
  obtain ⟨he', ho', hm', hc', hu'⟩ := h'
  have hframe := State.postAll_frame (s := s) as
  obtain ⟨hev, hov⟩ := postAll_congr (s := s.postAll as) (t := t) bs he ho (by rw [hm, hframe]) (by rw [hc, hframe])
    (by rw [hu, hframe])
  refine ⟨?_, ?_, hm'.trans hm, hc'.trans hc, hu'.trans hu⟩
  · rw [he', hev, postAll_append]
  · rw [ho', hov, postAll_append]

/-- R163: the site made ARMED: the sectors set up, the bookings judged and the arbiter told. -/
theorem armSite_spec (s : State) :
    let armed : State := { s with mode := .armed }
    let events := (allSectors.flatMap fun k => (armed.setUp k).2) ++ changeEvents s.bookings armed.judged
      ++ (allSectors.flatMap fun k => (armed.settingUp.told armed.judged k).2) ++ [eventOf .armed]
    armSite s = { s with
        mode := .armed
        entries := (armSite s).entries
        bookings := armed.judged
        events := (s.postAll events).events
        overflow := (s.postAll events).overflow
        inFlight := (armSite s).inFlight } ∧
      ∀ k, (armSite s).entry k = (armed.settingUp.told armed.judged k).1 := by
  intro armed events
  obtain ⟨u, hu⟩ : ∃ u, setUpSectors armed = u := ⟨_, rfl⟩
  obtain ⟨v, hv⟩ : ∃ v, armBookings u = v := ⟨_, rfl⟩
  have ht : armSite s = v.post (eventOf .armed) := by rw [← hv, ← hu]; rfl
  obtain ⟨hframe, hentry⟩ := setUpSectors_spec hu
  obtain ⟨hframe', hentry'⟩ := changeBookingsAtOnce_spec (after := u.judged)
    (evs := changeEvents u.bookings u.judged) hv
  have hb : u.butEntries = armed.butEntries := by rw [← hu, setUpSectors_butEntries]
  have hbookings : u.bookings = s.bookings := by rw [hframe]
  have htold (k : Sector) : u.told armed.judged k = armed.settingUp.told armed.judged k :=
    told_congr hb (by rw [hentry, settingUp_entry])
  rw [judged_congr hb, hbookings] at hframe'
  simp only [judged_congr hb, htold] at hframe' hentry'
  have h0 : s.Posted armed [] := ⟨rfl, rfl, rfl, rfl, rfl⟩
  have h1 : armed.Posted u (allSectors.flatMap fun k => (armed.setUp k).2) :=
    ⟨by rw [hframe], by rw [hframe], by rw [hframe], by rw [hframe], by rw [hframe]⟩
  have h2 : u.Posted v (changeEvents s.bookings armed.judged ++
      allSectors.flatMap fun k => (armed.settingUp.told armed.judged k).2) :=
    ⟨by rw [hframe'], by rw [hframe'], by rw [hframe'], by rw [hframe'], by rw [hframe']⟩
  have h3 : v.Posted (v.post (eventOf .armed)) [eventOf .armed] :=
    ⟨rfl, rfl, State.post_mask .., State.post_clock .., State.post_clockSet ..⟩
  have hposted : s.Posted (v.post (eventOf .armed)) events := by
    have hall := h0.trans (h1.trans (h2.trans h3))
    rw [List.nil_append, ← List.append_assoc, ← List.append_assoc] at hall
    exact hall
  have hpost := State.post_frame (s := v) (eventOf .armed)
  rw [hposted.1, hposted.2.1] at hpost
  rw [ht, State.post_entries, State.post_inFlight]
  refine ⟨hpost.trans ?_, fun k => (State.post_entry ..).trans (hentry' k)⟩
  rw [hframe', hframe]

end Sys2Proof.Machine
end

/-! ## ARM settled (R17, R77, R99, R106, R107, R163): O27 -/

section
namespace Sys2Proof.Machine

variable {s : State} {k : Sector} {before after : List Booking}

/-! ### The booking table judged -/

/-- R107: the events of a change of the table, as the statements write them. -/
theorem changeEvents_eq (before after : List Booking) : changeEvents before after = bookingChanges before after := by
  have hevent (st : BookingState) (b : Booking) : bookingEvent (bookingCode st) b = bookingChange (some st) b := by
    simp [bookingEvent, bookingChange, eventOf]
  unfold changeEvents bookingChanges
  refine congrArg (List.filterMap · _) (funext fun x => ?_)
  simp only [hevent]

theorem liveBooking_iff {st : BookingState} :
    liveBooking st = false ↔ st = .exhausted ∨ st = .expired ∨ st = .cancelled := by cases st <;> decide

/-- R95, R96: one entry at a window evaluation. -/
theorem evaluateBooking_eq (s : State) (cause : BookingCause) (b : Booking) :
    s.evaluateBooking cause b = s.judges cause b := by
  by_cases h : s.clockSet = true ∧ liveBooking b.state = true
  · obtain ⟨hset, hlive⟩ := h
    have hno : ¬ (s.clockSet = false ∨ b.state = .exhausted ∨ b.state = .expired ∨ b.state = .cancelled) := by
      rw [← liveBooking_iff, hset, hlive]
      simp
    rw [State.evaluateBooking, if_pos (by simp [hset, hlive]), State.judges, if_neg hno]
    have hmove (st : BookingState) : b.moveTo st cause = b.entering st cause := rfl
    rw [State.windowState, State.siteMinute, hmove]
    by_cases hstart : s.clock.toNat / 60 < b.start
    · rw [if_pos hstart, if_pos hstart]
    · by_cases hstop : b.stop ≤ s.clock.toNat / 60
      · rw [if_neg hstart, if_pos hstop, if_neg hstart, if_pos hstop]
      · by_cases hworks : s.craneCondition b.crane = true
        · rw [if_neg hstart, if_neg hstop, if_pos hworks, if_neg hstart, if_neg hstop, if_pos hworks]
        · rw [if_neg hstart, if_neg hstop, if_neg hworks, if_neg hstart, if_neg hstop, if_neg hworks]
  · have hyes : s.clockSet = false ∨ b.state = .exhausted ∨ b.state = .expired ∨ b.state = .cancelled := by
      rw [← liveBooking_iff]
      by_contra hn
      simp at hn
      exact h hn
    rw [State.evaluateBooking, if_neg (by simpa using h), State.judges, if_pos hyes]

/-- R99: the table after an arming. -/
theorem judged_eq (s : State) :
    s.judged = s.bookings.map (fun b =>
      if liveBooking b.state = true ∧ ¬ ((s.crane b.crane).present = true ∧ s.isMember b.sector b.crane = true)
      then { b with state := .cancelled, cause := .table } else s.judges .mode b) := by
  refine List.map_congr_left fun b _ => ?_
  rw [State.tableCheck]
  by_cases hlive : liveBooking b.state = true
  · by_cases hmatch : (s.crane b.crane).present = true ∧ s.isMember b.sector b.crane = true
    · rw [if_neg (by simp [hmatch]), if_neg (by simp [hmatch]), evaluateBooking_eq]
    · have hmoved : b.moveTo .cancelled .table = { b with state := .cancelled, cause := .table } :=
        if_neg fun e => by rw [e] at hlive; cases hlive
      have hstale : ((s.crane b.crane).present && s.isMember b.sector b.crane) = false := by
        rwa [Bool.eq_false_iff, ne_eq, Bool.and_eq_true]
      rw [if_pos (by rw [hlive, hstale]; rfl), if_pos ⟨hlive, hmatch⟩, hmoved, State.evaluateBooking]
      exact if_neg (by simp [liveBooking])
  · rw [if_neg (by simp [hlive]), if_neg (by simp [hlive]), evaluateBooking_eq]

theorem judged_sector {b : Booking} (hb : b ∈ s.judged) : ∃ b' ∈ s.bookings, b'.sector = b.sector := by
  obtain ⟨b', hb', rfl⟩ := List.mem_map.mp hb
  refine ⟨b', hb', ?_⟩
  unfold State.evaluateBooking State.tableCheck Booking.moveTo
  repeat' split
  all_goals rfl

/-- A sector that no booking names has no claimant. -/
theorem claimantOf_unnamed (h : ∀ b ∈ before, b.sector ≠ k) : claimantOf before k = none := by
  have : before.filter (fun b => b.sector == k && b.state == .active) = [] := by
    rw [List.filter_eq_nil_iff]
    intro b hb
    simp [h b hb]
  rw [claimantOf, this]
  rfl

theorem leftActive_unnamed (h : ∀ b ∈ before, b.sector ≠ k) : leftActive k before after = [] := by
  rw [leftActive, List.filterMap_eq_nil_iff]
  intro x hx
  refine if_neg ?_
  rintro ⟨hk, -⟩
  exact h x.1 (List.of_mem_zip hx).1 hk

/-- R106: when a report is due. -/
theorem reportDue_iff :
    s.reportDue before after k = true ↔
      (claimantOf after k).map asClaimant ≠ (claimantOf before k).map asClaimant ∨
      ∃ x ∈ leftActive k before after, (grantOf (s.entry k)).map (·.kind) = some (.booked x.1) := by
  have howner (id : Half) : (grantOf (s.entry k)).map (·.kind) = some (.booked id) ↔ s.grantOwner k = some id := by
    unfold State.grantOwner
    cases grantOf (s.entry k) with
    | none => simp
    | some g => cases hkind : g.kind <;> simp [hkind]
  unfold State.reportDue
  simp only [howner]
  rw [Bool.or_eq_true, bne_iff_ne]
  refine or_congr ne_comm ?_
  cases s.grantOwner k with
  | none => simp
  | some id =>
    simp only [List.any_eq_true, beq_iff_eq, Option.some.injEq]
    exact exists_congr fun x => and_congr_right fun _ => eq_comm

/-! ### The entries set up -/

theorem setUp_disabled (h : (s.sector k).enabled = false) : s.setUp k = (s.entry k, []) :=
  if_neg (by simp [h])

theorem setUp_enabled (h : (s.sector k).enabled = true) :
    s.setUp k = takeArm (s.sectorContext k) (s.presentIn k) (s.obstructing k) (s.tableClaimant k) (s.entry k) :=
  if_pos h

/-- R60, R77: the grant evaluation of an arming. -/
theorem setUp_evaluates (h : (s.sector k).enabled = true) (hm : s.mode = .armed) :
    GrantEvaluation k (s.sector k) none (freshEntry (s.presentIn k) (s.obstructing k) (s.tableClaimant k))
      (s.setUp k).1 (s.setUp k).2 := by
  rw [setUp_enabled h]
  exact takeArm_evaluates (x := s.sectorContext k) (by simp [State.sectorContext, hm]) _ _ _ _

theorem told_disabled (h : (s.sector k).enabled = false) : s.told after k = (s.entry k, []) := by
  unfold State.told State.taken
  simp [h]

/-- R71, R77: after the reports an enabled entry has the sets of the tracker's view and the table's claimant. -/
theorem told_unheld (h : (s.sector k).enabled = true) :
    (s.settingUp.told s.judged k).1.unheld =
      freshEntry (s.presentIn k) (s.obstructing k) ((claimantOf s.judged k).map asClaimant) := by
  have hfresh : (s.setUp k).1.unheld = freshEntry (s.presentIn k) (s.obstructing k) (s.tableClaimant k) := by
    rw [setUp_enabled h, takeArm_unheld]
  have hqueue : (s.setUp k).1.queue = [] := by
    have := congrArg SectorEntry.queue hfresh; exact this
  unfold State.told
  split
  · rw [State.taken, if_pos (by exact h), settingUp_entry, takeClaimant_unheld hqueue]
    exact congrArg (fun e : SectorEntry => { e with claimant := (claimantOf s.judged k).map asClaimant }) hfresh
  · next hdue =>
    have hclaimant : (claimantOf s.judged k).map asClaimant = s.tableClaimant k := by
      by_contra hne
      exact hdue (reportDue_iff.mpr (.inl hne))
    rw [settingUp_entry, hfresh, hclaimant]

/-- R106: a sector that no booking names is told nothing. -/
theorem told_unnamed (h : ∀ b ∈ s.bookings, b.sector ≠ k) : s.settingUp.told s.judged k = ((s.setUp k).1, []) := by
  have hafter : ∀ b ∈ s.judged, b.sector ≠ k := fun b hb => by
    obtain ⟨b', hb', e⟩ := judged_sector hb
    exact e ▸ h b' hb'
  rw [State.told, if_neg, settingUp_entry]
  rw [reportDue_iff, claimantOf_unnamed hafter, claimantOf_unnamed (before := s.settingUp.bookings) h,
    leftActive_unnamed (before := s.settingUp.bookings) h]
  simp

/-! ### The statement -/

/-- R163: in ARMED an arming is refused. -/
theorem arm_armed (hm : s.mode = .armed) : arm [] s = refuse s .wrongState := by
  simp [arm, noOperands, hm]

/-- R54: a disabled sector's entry is left alone. -/
theorem told_setUp_disabled (h : (s.sector k).enabled = false) : s.settingUp.told after k = (s.entry k, []) := by
  rw [told_disabled (by exact h), settingUp_entry, setUp_disabled h]

/-- R106: the report that a sector is owed, as the entry takes it. -/
theorem told_owed (hdue : s.settingUp.reportDue s.bookings after k = true) :
    s.settingUp.told after k =
      ({ s.settingUp with bookings := after } : State).taken k fun x e =>
        takeClaimant x (departures s.bookings after k) ((claimantOf after k).map asClaimant) e :=
  if_pos hdue

theorem told_unowed (hdue : ¬ s.settingUp.reportDue s.bookings after k = true) :
    s.settingUp.told after k = ((s.setUp k).1, []) := by
  rw [State.told, if_neg (by exact hdue), settingUp_entry]

/-- R106: when a report is owed, as the statements write it. -/
theorem reportDue_settingUp :
    s.settingUp.reportDue s.bookings after k = true ↔
      (claimantOf after k).map asClaimant ≠ s.tableClaimant k ∨
      ∃ x ∈ departures s.bookings after k, (grantOf (s.setUp k).1).map (·.kind) = some (.booked x.1) := by
  rw [reportDue_iff, settingUp_entry]
  rfl

/-- R60, R77: with one member present, none obstructing and no booking the sector is granted to that member. -/
theorem told_granted (h : (s.sector k).enabled = true) (hm : s.mode = .armed) {c : Crane} (hp : s.presentIn k = [c])
    (ho : s.obstructing k = []) (hb : ∀ b ∈ s.bookings, b.sector ≠ k) :
    (s.settingUp.told s.judged k).1.base = .held c (.routineBy (s.sector k)) := by
  have hnone : s.tableClaimant k = none := by rw [State.tableClaimant, claimantOf_unnamed hb]; rfl
  obtain ⟨-, -, -, hfree⟩ := setUp_evaluates h hm
  obtain ⟨hone, -⟩ := hfree ho
  obtain ⟨-, -, hroutine⟩ := hone c hp
  rw [told_unnamed hb, (hroutine hnone).1]

/-- R163: an accepted arming, with its reply. -/
theorem armSite_answered (s : State) (tag : Byte) :
    let armed : State := { s with mode := .armed }
    let events := (List.finRange 16).flatMap (fun k => (armed.setUp k).2) ++ bookingChanges s.bookings armed.judged ++
      (List.finRange 16).flatMap (fun k => (armed.settingUp.told armed.judged k).2) ++ [eventOf .armed]
    (armSite (s.hunting siteLink)).replied tag 0x10#8 [] =
      { s.answered tag 0x10#8 .ok [] with
        mode := .armed
        entries := (armSite (s.hunting siteLink)).entries
        bookings := armed.judged
        events := (s.postAll events).events
        overflow := (s.postAll events).overflow
        inFlight := (armSite (s.hunting siteLink)).inFlight } ∧
    ∀ k, (armSite (s.hunting siteLink)).entry k = (armed.settingUp.told armed.judged k).1 := by
  intro armed events
  obtain ⟨hframe, hentry⟩ := armSite_spec (s.hunting siteLink)
  generalize armSite (s.hunting siteLink) = v at *
  refine ⟨?_, hentry⟩
  obtain ⟨he, ho⟩ := postAll_congr (s := s) (t := s.hunting siteLink) events rfl rfl rfl rfl rfl
  simp only [changeEvents_eq, allSectors_eq] at hframe
  refine (congrArg (State.replied · tag 0x10#8 []) hframe).trans ?_
  rw [← he, ← ho]
  rfl

/-- Settles O27: the entries are set up one by one, the table is judged, and each sector that is owed a report takes it on
the entry it was set up with. -/
theorem armSetsUpTheSite : Obligations.ArmSetsUpTheSite := by
  intro s tag h hroom
  refine ⟨fun hm hc => ?_, fun locator hm hc => ?_, fun hm => ?_⟩
  · intro armed
    obtain ⟨hframe, htold⟩ := armSite_answered s tag
    have hexec : exec (.arm tag []) s = .next ((armSite (s.hunting siteLink)).replied tag 0x10#8 []) := by
      rw [exec_arm h, request_accept hroom (arm_accepted (by exact hm) (by exact hc))]
    generalize armSite (s.hunting siteLink) = v at *
    have hbookings : v.bookings = armed.judged := by
      have := congrArg State.bookings hframe; exact this
    refine ⟨v.replied tag 0x10#8 [], fun k => (armed.setUp k).1, fun k => (armed.setUp k).2,
      fun k => (armed.settingUp.told armed.judged k).2, hexec, ?_, ?_, fun k hk => ?_, fun k hk => ?_⟩
    · refine hframe.trans ?_
      rw [← hbookings]
      rfl
    · exact hbookings.trans (judged_eq armed)
    · have hdisabled := told_setUp_disabled (s := armed) (after := armed.judged) hk
      have hsetup := setUp_disabled (s := armed) hk
      exact ⟨(htold k).trans (congrArg Prod.fst hdisabled), congrArg Prod.fst hsetup, congrArg Prod.snd hsetup,
        congrArg Prod.snd hdisabled⟩
    · have hsets : (v.entry k).unheld = freshEntry (armed.presentIn k) (armed.obstructing k)
          ((claimantOf armed.judged k).map asClaimant) := (congrArg SectorEntry.unheld (htold k)).trans (told_unheld hk)
      have hpresence : (v.entry k).presence = armed.presentIn k := by
        have := congrArg SectorEntry.presence hsets; exact this
      have hobstruction : (v.entry k).obstruction = armed.obstructing k := by
        have := congrArg SectorEntry.obstruction hsets; exact this
      have hclaimant : (v.entry k).claimant = (claimantOf v.bookings k).map asClaimant := by
        rw [hbookings]
        have := congrArg SectorEntry.claimant hsets; exact this
      refine ⟨by have := congrArg SectorEntry.queue hsets; exact this,
        by have := congrArg SectorEntry.locks hsets; exact this,
        by have := congrArg SectorEntry.closed hsets; exact this, hpresence, hobstruction, hclaimant,
        fun c hp ho hb => ?_, ?_, ?_⟩
      · have hbase := told_granted (s := armed) hk rfl (hpresence.symm.trans hp) (hobstruction.symm.trans ho) hb
        exact (congrArg SectorEntry.base (htold k)).trans hbase
      · have heval := setUp_evaluates (s := armed) hk rfl
        rw [← hpresence, ← hobstruction] at heval
        exact heval
      · intro u departed owed
        have hdue := reportDue_settingUp (s := armed) (after := armed.judged) (k := k)
        have howed : owed ↔ armed.settingUp.reportDue armed.bookings armed.judged k = true := by
          rw [hdue, ← hbookings]; rfl
        refine ⟨fun ho => ⟨changeClaimant k departed ((v.replied tag 0x10#8 []).tableClaimant k) u,
          exec_bookedClaimantChange (s := u) h k _ _, ?_⟩, fun hno => ?_⟩
        · have hreported := told_owed (howed.mp ho)
          have htakes := entryEvent_taken k (fun x e =>
            takeClaimant x (departures s.bookings armed.judged k) ((claimantOf armed.judged k).map asClaimant) e)
            { armed.settingUp with bookings := armed.judged }
          rw [← hreported, ← htold k] at htakes
          show State.EntryTakes { armed.settingUp with bookings := v.bookings }
            (changeClaimant k (departures s.bookings v.bookings k) ((claimantOf v.bookings k).map asClaimant)
              { armed.settingUp with bookings := v.bookings }) k (v.entry k) _
          rw [hbookings]
          exact htakes
        · have hnot := told_unowed (mt howed.mpr hno)
          exact ⟨(htold k).trans (by rw [hnot]), congrArg Prod.snd hnot⟩
  · rw [exec_arm h, request_room hroom, arm_refused (by exact hm) (by exact hc)]
    rfl
  · rw [exec_arm h, request_refuse hroom (arm_armed (by exact hm))]

end Sys2Proof.Machine
end

/-! ## The position records stay sound (R20, R23, R24, R29): O10 -/

section
namespace Sys2Proof.Machine

variable {s t : State}

/-! ### What the records' soundness reads -/

/-- Soundness is a matter of the position records alone. -/
theorem State.PositionsSound.of_positions (h : s.PositionsSound) (hp : t.positions = s.positions) :
    t.PositionsSound := fun c => by
  rw [State.position, hp]; exact h c

/-- States that differ in one block's fields only, none of them a position record, have the same position records. -/
theorem positions_of_frame {blank : State → State} (hb : blank t = blank s)
    (hp : ∀ u, (blank u).positions = u.positions := by intro _; rfl) : t.positions = s.positions :=
  (hp t).symm.trans ((congrArg State.positions hb).trans (hp s))

/-- A block that leaves the position records alone keeps them sound. -/
theorem State.PositionsSound.of_frame {blank : State → State} (h : s.PositionsSound) (hb : blank t = blank s)
    (hp : ∀ u, (blank u).positions = u.positions := by intro _; rfl) : t.PositionsSound :=
  h.of_positions (positions_of_frame hb hp)

/-- R23, R24: a record's timer and reference are as its state calls for, whatever its standing. -/
def PositionRecord.Timed (p : PositionRecord) : Prop :=
  p.stale.isSome = locatedState p.state ∧ p.seqRef.isSome = locatedState p.state

theorem PositionRecord.Sound.timed {p : PositionRecord} (h : p.Sound) : p.Timed := by
  cases hs : locatedState p.state with
  | false =>
    obtain ⟨hstale, href, -⟩ := h.1 hs
    exact ⟨by rw [hstale, hs]; rfl, by rw [href, hs]; rfl⟩
  | true =>
    obtain ⟨hstale, href, -⟩ := h.2 hs
    exact ⟨hstale.trans hs.symm, href.trans hs.symm⟩

/-! ### Presence recomputed (R28, R29, R31) -/

theorem located_eq_locatedState (s : State) (c : Crane) : s.located c = locatedState (s.position c).state := by
  unfold State.located locatedState
  cases (s.position c).state <;> rfl

/-- R28: a crane without a position is present in no sector. -/
theorem presenceOf_unlocated {c : Crane} (h : s.located c = false) : s.presenceOf c = none := by
  simp [State.presenceOf, State.current, h]

/-- R29: a crane with a position obstructs no sector, and one without is present in none. -/
theorem restood_sound {c : Crane} (h : (s.position c).Timed) : (s.restood c).Sound := by
  obtain ⟨hstale, href⟩ := h
  refine ⟨fun hs => ?_, fun hs => ?_⟩
  · have hl : locatedState (s.position c).state = false := hs
    rw [hl, Option.isSome_eq_false_iff, Option.isNone_iff_eq_none] at hstale href
    exact ⟨hstale, href, presenceOf_unlocated (by rw [located_eq_locatedState, hl])⟩
  · have hl : locatedState (s.position c).state = true := hs
    exact ⟨hstale.trans hl, href.trans hl, if_pos (by rw [located_eq_locatedState, hl])⟩

/-- A recomputation mends the standing of its crane. -/
theorem recomputePresence_sound {c : Crane} (skip : Option Sector) (hc : (s.position c).Timed)
    (h : ∀ d, d ≠ c → (s.position d).Sound) : (recomputePresence c skip s).PositionsSound := by
  intro d
  have hpos : (recomputePresence c skip s).position d = if d = c then s.restood c else s.position d :=
    Bank.read_write _ _ _ _
  rw [hpos]
  split
  · exact restood_sound hc
  · next hd => exact h d hd

theorem State.PositionsSound.recomputed (h : s.PositionsSound) (c : Crane) (skip : Option Sector) :
    (recomputePresence c skip s).PositionsSound := recomputePresence_sound skip (h c).timed fun d _ => h d

/-- A record replaced by one that is timed, and its standing recomputed after some postings. -/
theorem State.PositionsSound.replaced (h : s.PositionsSound) {c : Crane} {p : PositionRecord} (hp : p.Timed)
    (bs : List EventBody) (skip : Option Sector) :
    (recomputePresence c skip ((s.setPosition c p).postAll bs)).PositionsSound := by
  refine recomputePresence_sound skip ?_ fun d hd => ?_
  · rw [State.postAll_position, State.setPosition_position_self]; exact hp
  · rw [State.postAll_position, State.setPosition_position_ne _ _ hd]; exact h d

theorem State.PositionsSound.recomputedMembers (h : s.PositionsSound) (k : Sector) (listed : List Crane)
    (skip : Option Sector) : (recomputeMembers k listed skip s).PositionsSound :=
  List.foldlRecOn (motive := State.PositionsSound) _ _ h fun _ ht c _ => ht.recomputed c skip

/-! ### Frames, expiries and ticks (R20 to R24) -/

/-- R21, R23, R24: a frame whose slew is ok leaves a position, a reference and a running timer; another leaves none. -/
theorem updateRecord_timed (c : Crane) (r : CraneRecord) (staleTime : Nat) (f : MotionFrame) (p : PositionRecord) :
    (updateRecord c r staleTime f p).1.Timed := by
  have hstate : locatedState (positionStateOf (slewStatus f) f.trolleyOk f.hoistOk) = slewStatus f := by
    cases slewStatus f <;> cases f.trolleyOk <;> cases f.hoistOk <;> rfl
  unfold PositionRecord.Timed updateRecord
  simp only [hstate]
  cases slewStatus f <;> exact ⟨rfl, rfl⟩

theorem takeMotion_keepsPositions (c : Crane) (f : MotionFrame) (h : s.PositionsSound) :
    (takeMotion c f s).PositionsSound := by
  unfold takeMotion
  dsimp only
  split
  · exact (h.replaced (updateRecord_timed _ _ _ _ _) _ none).of_positions rfl
  · exact h

theorem expirePosition_keepsPositions (c : Crane) (h : s.PositionsSound) : (expirePosition c s).PositionsSound := by
  unfold expirePosition
  dsimp only
  split
  · exact h
  · exact (h.replaced ⟨rfl, rfl⟩ _ none).of_positions rfl

/-- R24: a tick runs the timers down and stops none. -/
theorem runTickTimers_keepsPositions (h : s.PositionsSound) : (runTickTimers s).PositionsSound := by
  intro c
  have hpos : (runTickTimers s).position c = { s.position c with stale := runDown (s.position c).stale } :=
    Bank.read_update _ _ _
  rw [hpos]
  obtain ⟨hout, hin⟩ := h c
  refine ⟨fun hs => ?_, fun hs => ?_⟩
  · obtain ⟨hstale, href⟩ := hout hs
    exact ⟨by rw [hstale]; rfl, href⟩
  · obtain ⟨hstale, href⟩ := hin hs
    exact ⟨Option.isSome_map.trans hstale, href⟩

theorem sampleHold_positions (low : Bool) (s : State) : (sampleHold low s).positions = s.positions := by
  unfold sampleHold
  dsimp only
  repeat' split
  all_goals rfl

theorem takeTick_keepsPositions (holdLow : Bool) (h : s.PositionsSound) : (takeTick holdLow s).PositionsSound := by
  have hrun : (runTickTimers { s with cycles := 0, divisor := s.site.tickDivisor }).PositionsSound :=
    runTickTimers_keepsPositions (h.of_positions rfl)
  refine hrun.of_positions ?_
  unfold takeTick
  dsimp only
  rw [State.send_positions, sampleHold_positions]
  split <;> rfl

/-! ### Operations, notices and commands -/

/-- R33: a crane made absent has no position, no reference and no timer. -/
theorem makeAbsent_keepsPositions (c : Crane) (h : s.PositionsSound) : (makeAbsent c s).PositionsSound := by
  have hlost : (recomputePresence c none (loseAbsent c (s.setCrane c .absent))).PositionsSound :=
    State.PositionsSound.replaced (s := s.setCrane c .absent) h ⟨rfl, rfl⟩ _ none
  unfold makeAbsent
  dsimp only
  generalize recomputePresence c none (loseAbsent c (s.setCrane c .absent)) = u at hlost ⊢
  cases (s.crane c).present with
  | true =>
    refine hlost.of_positions ((positions_of_frame (State.refreshLines_butGenerators _)).trans ?_)
    exact (positions_of_frame (selectSources_butWinds none _)).trans rfl
  | false => exact hlost.of_positions ((positions_of_frame (State.refreshLines_butGenerators _)).trans rfl)

theorem makePresent_keepsPositions (c : Crane) (r : CraneRecord) (h : s.PositionsSound) :
    (makePresent c r s).PositionsSound := by
  have hstood : (recomputePresence c none (s.setCrane c r)).PositionsSound :=
    State.PositionsSound.recomputed (s := s.setCrane c r) h c none
  unfold makePresent
  dsimp only
  generalize recomputePresence c none (s.setCrane c r) = u at hstood ⊢
  cases (s.crane c).present with
  | true => exact hstood.of_positions ((positions_of_frame (State.refreshLines_butGenerators _)).trans rfl)
  | false =>
    refine hstood.of_positions ((positions_of_frame (State.refreshLines_butGenerators _)).trans ?_)
    exact (positions_of_frame (selectSources_butWinds none _)).trans rfl

/-- No operation breaks the soundness of a position record. -/
theorem Operates.keepsPositions (ho : Operates s t) (h : s.PositionsSound) : t.PositionsSound := by
  cases ho with
  | same => exact h
  | site => exact h
  | absent c => exact makeAbsent_keepsPositions c h
  | present c fields r => exact makePresent_keepsPositions c r h
  | assembly => exact h
  | zone c z => exact State.PositionsSound.recomputed (s := ({ s with assembly := none } : State).setZone c z) h c none
  | sector k r =>
    have hput : (s.setSector k r).PositionsSound := h.of_positions rfl
    unfold putSector
    dsimp only
    split
    · exact hput.recomputedMembers k _ _
    · exact (hput.recomputedMembers k _ _).of_positions rfl
  | profile n p =>
    exact h.of_positions (foldl_keeps State.positions (fun t c => t.setWind c (restartCounting (t.windOf c)))
      (fun _ _ => rfl) _ _)
  | pattern cond p =>
    refine State.PositionsSound.of_frame (s := { s with patterns := setPattern s.patterns cond p }) h
      (State.restartShowing_butGenerators _ _)
  | arm =>
    have hset : (setUpSectors { s with mode := .armed }).PositionsSound :=
      State.PositionsSound.of_frame (s := { s with mode := .armed }) h (setUpSectors_butEntries _)
    rw [armSite]
    exact (hset.of_frame (armBookings_butArming _)).of_positions (State.post_positions _ _)
  | disarm =>
    have hclear : (clearSectors { s with mode := .config }).PositionsSound :=
      State.PositionsSound.of_frame (s := { s with mode := .config }) h (clearSectors_butEntries _)
    rw [disarmSite]
    exact ((hclear.of_frame (disarmBookings_butArming _)).of_frame (issueAll_butPermits _)).of_positions
      (State.post_positions _ _)
  | clock n =>
    exact State.PositionsSound.of_frame (s := { s with clock := BitVec.ofNat 32 n, clockSet := true }) h
      (evaluateWindows_butBookings _ _)
  | mask => exact h
  | book b => exact h.of_frame (addBooking_butBookings _ _)
  | cancel id => exact h.of_frame (cancelBooking_butBookings _ _)
  | purge => exact h
  | close k => exact h.of_frame (closeSector_butEntries _ _)
  | openUp k => exact h.of_frame (openSector_butEntries _ _)
  | vane c => exact h.of_frame (enterVanePending_butWinds _ _ _)
  | resume c => exact h.of_frame (resumeCrane_butWinds _ _)

theorem takeFrame_keepsPositions (f : GoodFrame) (h : s.PositionsSound) : (takeFrame f s).PositionsSound := by
  have handed (c : Crane) (g : State → State) (hg : (g s).PositionsSound) : (handOn c g s).PositionsSound := by
    unfold handOn
    split
    · exact hg
    · exact h.of_positions rfl
  cases f with
  | motion c m => exact handed _ _ (takeMotion_keepsPositions c m h)
  | wind c w => exact handed _ _ (h.of_frame (takeWind_butWinds _ _ _))
  | demand c d => exact handed _ _ (h.of_frame (takeDemand_butPermits _ _ _))
  | request tag code ops =>
    rcases takeRequest_cases tag code ops s with he | ⟨t, reply, ht, he⟩
    · rw [takeFrame, he]; exact h
    · rw [takeFrame, he]; exact ht.keepsPositions h

theorem expire_keepsPositions (e : Expiry) (h : s.PositionsSound) : (expire e s).PositionsSound := by
  cases e with
  | positionStale c => exact expirePosition_keepsPositions c h
  | windStale c => exact h.of_frame (expireWindStale_butWinds _ _)
  | demandTimeout c => exact h.of_frame (expireDemand_butPermits _ _)
  | refresh c => exact h.of_frame (expireRefresh_butPermits _ _)
  | keep k c => exact h.of_frame (expireKeep_butEntries _ _ _)
  | clearing k => exact h.of_frame (expireClearing_butEntries _ _)
  | hold k => exact h.of_frame (expireHold_butEntries _ _)
  | recovery c => exact h.of_frame (expireRecovery_butWinds _ _)
  | vaneDelay c => exact h.of_frame (expireVaneDelay_butWinds _ _)
  | vaneTimeout c => exact h.of_frame (expireVaneTimeout_butWinds _ _)
  | phaseEnd n => exact h.of_frame (State.endPhase_butGenerators _ _)

/-- No notice breaks the soundness of a position record; only a MOTION frame, an expiry of the position stale timer and
a table write change one. -/
theorem takeNotice_keepsPositions (n : Notice) (s : State) (h : s.PositionsSound) :
    (takeNotice n s).PositionsSound := by
  cases n with
  | frame f => exact takeFrame_keepsPositions f h
  | presence k c ch => exact h.of_frame (reportPresence_butEntries _ _ _ _)
  | knock k c => exact h.of_frame (knockSector_butEntries _ _ _)
  | claimant k left cl => exact h.of_frame (changeClaimant_butEntries _ _ _ _)
  | lock k c => exact h.of_frame (lockSector_butEntries _ _ _)
  | unlock k c => exact h.of_frame (unlockSector_butEntries _ _ _)
  | liftCount id => exact h.of_frame (takeLiftCount_butBookings _ _)
  | loadSample c x => exact h.of_frame (takeSample_butDetectors _ _ _)
  | motionTaken c => exact h.of_frame (takeMotionNotice_butWinds _ _)
  | limit c => exact h.of_frame (takeLimitNotice_butPermits _ _)
  | evaluation c => exact h.of_frame (takeEvaluation_butWinds _ _)
  | craneCondition c => exact h.of_frame (takeCraneCondition_butBookings _ _)
  | handshake k => exact h.of_frame (takeHandshake_butWinds _ _)
  | beacon c cond => exact h.of_frame (State.showCondition_butGenerators _ _ _)
  | expiry e =>
    simp only [takeNotice]
    split
    · exact expire_keepsPositions e h
    · exact h
  | clockAdvance => simp only [takeNotice, advanceClock]; split <;> exact h
  | minuteBoundary => exact h.of_frame (evaluateWindows_butBookings _ _)
  | holdAsserted =>
    simp only [takeNotice, assertHold]
    split
    · exact h
    · refine State.PositionsSound.of_frame ?_ (issueAll_butPermits _)
      exact h.of_positions (State.post_positions _ _)
  | holdReleased =>
    simp only [takeNotice, releaseHold]
    split
    · exact h.of_positions (State.post_positions _ _)
    · exact h
  | tickDone => exact h

/-- A device in reset has every position record at its reset value (R18). -/
theorem cleared_positionsSound (h : t.positions = State.cleared.positions) : t.PositionsSound := by
  have hc : State.cleared.PositionsSound := fun c => by
    simp only [State.position, State.cleared, Bank.read_fill]
    exact ⟨fun _ => ⟨rfl, rfl, rfl⟩, nofun⟩
  exact hc.of_positions h

theorem takeReset_keepsPositions (trigger : ResetTrigger) (h : s.PositionsSound) :
    (takeReset trigger s).PositionsSound := by
  unfold takeReset
  dsimp only
  repeat' split
  · exact cleared_positionsSound rfl
  · exact cleared_positionsSound rfl
  · exact cleared_positionsSound rfl
  · exact h.of_positions rfl

/-- No command breaks the soundness of a position record. -/
theorem Acts.keepsPositions (ha : Acts s t) (h : s.PositionsSound) : t.PositionsSound := by
  have rescanned (l : Link) (stored : List Byte) {u : State} (hu : u.positions = s.positions) :
      (rescanOctets l stored u).PositionsSound :=
    h.of_positions ((congrArg State.positions (rescanOctets_frame l stored u)).trans hu)
  cases ha with
  | frame f => exact takeFrame_keepsPositions f (h.of_positions rfl)
  | unknown tag code =>
    unfold request answerRequest
    split <;> exact h.of_positions rfl
  | notice n => exact takeNotice_keepsPositions n s h
  | expiry e => exact expire_keepsPositions e h
  | misdirected l => exact h.of_positions rfl
  | length l kind len => exact rescanned l _ rfl
  | crc l octets => exact rescanned l _ rfl
  | permitSent c => exact h.of_frame (completePermit_butPermits _ _)
  | begins =>
    unfold beginSending
    split
    · exact h
    · split <;> exact h
  | replySent => unfold completeReply; split <;> exact h
  | eventSent => unfold completeEvent; split <;> exact h
  | posting b => exact h.of_positions (State.post_positions _ _)
  | lift c => exact h.of_frame (attributeLift_butEntries _ _)
  | tick holdLow => exact takeTick_keepsPositions holdLow h
  | reset trigger => exact takeReset_keepsPositions trigger h
  | resetEnd =>
    unfold endReset
    split
    · exact h
    · exact cleared_positionsSound rfl

/-- Settles O10: every change of a position record either recomputes the crane's standing from a record that is timed as
its state calls for, or runs its timer down; so no notice, no command and no step breaks a record's soundness. -/
theorem positionsStaySound : Obligations.PositionsStaySound := fun _ _ hs h =>
  step_keeps State.PositionsSound (fun _ _ h => h) (fun _ _ h => h) takeNotice_keepsPositions
    (fun i s hs => (effect_acts i s).keepsPositions hs) hs h

end Sys2Proof.Machine
end

/-! ## The reads (R18, R79, R91, R108, R109, R122, R123, R139, R157, R166): O29 -/

section
namespace Sys2Proof.Machine

variable {s : State}

/-! ### Flags, sets and values that may be none (R157) -/

/-- R157: flags packed one after the other are the sum of their bits, from bit `k` on. -/
theorem packFlags_shifted (bits : List Bool) (k : Nat) :
    ((bits.zipIdx k).map (fun x => if x.1 = true then 2 ^ x.2 else 0)).sum = 2 ^ k * packFlags bits := by
  induction bits generalizing k with
  | nil => rfl
  | cons b bs ih =>
    rw [List.zipIdx_cons, List.map_cons, List.sum_cons, ih, packFlags, Nat.mul_add, pow_succ, Nat.mul_assoc]
    cases b <;> simp [flag]

theorem bitsOctet_eq (bits : List Bool) : bitsOctet bits = octet1 (packFlags bits) := by
  rw [bitsOctet, packFlags_shifted bits 0, pow_zero, Nat.one_mul]

theorem bitsOctet_one (b : Bool) : bitsOctet [b] = flagOctet b := bitsOctet_eq [b]

/-- R157: the mask of a set is its flags packed in ascending number. -/
theorem maskOf_eq {n : Nat} (xs : List (Fin n)) : maskOf xs = packFlags ((List.finRange n).map xs.contains) := by
  have packed : ∀ {m : Nat} (f : Fin m → Bool),
      ((List.finRange m).map fun i => if f i = true then 2 ^ i.val else 0).sum =
        packFlags ((List.finRange m).map f) := by
    intro m
    induction m with
    | zero => intro f; rfl
    | succ m ih =>
      intro f
      have hs := ih fun i => f i.succ
      simp only [List.finRange_succ, List.map_cons, List.map_map, List.sum_cons, packFlags, Function.comp_def,
        ← hs, ← List.sum_map_mul_left]
      congr 1
      refine congrArg List.sum (List.map_congr_left fun i _ => ?_)
      rw [mul_ite, Fin.val_succ, pow_succ', Nat.mul_zero]
  rw [← packed]
  simp only [maskOf, List.contains_iff_mem]

theorem craneMask_eq (xs : List Crane) : maskOf xs = craneMask xs := maskOf_eq xs
theorem sectorMask_eq (xs : List Sector) : maskOf xs = sectorMask xs := by
  rw [maskOf_eq, sectorMask, allSectors_eq]

theorem orNone_eq {n : Nat} (x : Option (Fin n)) : orNone x = octet1 (octetOrNone x) := by cases x <;> rfl

theorem orOpen_reference (r : Option Byte) : orOpen (r.map (·.toNat)) = octet2 (referenceCode r) := by cases r <;> rfl

theorem orOpen_figure (x : Option Nat) : orOpen x = figureOctets x := rfl

/-! ### The records, octet by octet (R18, R79, R91, R109, R123, R139, R166) -/

theorem positionOctets_eq (p : PositionRecord) : positionOctets p = positionData p := by
  simp only [positionOctets, bitsOctet_eq, sectorMask_eq, orNone_eq, orOpen_reference]
  rfl

theorem detectorOctets_eq (d : Detector) : detectorOctets d = detectorData d := by
  have hlast : lastLiftData d.lastLift = match d.lastLift with
      | none => octet1 0 ++ octet2 0 ++ octet1 0 ++ octet1 0 ++ octet2 0
      | some l => octet1 1 ++ octet2 l.peak ++ (match l.attribution with
        | .booked k id => octet1 0 ++ octet1 k.val ++ octet2 id.toNat
        | .routine k => octet1 1 ++ octet1 k.val ++ octet2 0
        | .craneOnly => octet1 2 ++ octet1 255 ++ octet2 0) := by
    cases d.lastLift with
    | none => rfl
    | some l =>
      obtain ⟨peak, attribution⟩ := l
      cases attribution <;> rfl
  rw [detectorData, hlast]
  simp only [detectorOctets, bitsOctet_one]
  rfl

/-- R157: a source and its lender. -/
theorem source_octets (x : WindSource) :
    (match x with
      | .none => octet1 0 ++ octet1 255
      | .own => octet1 1 ++ octet1 255
      | .borrowed l => octet1 2 ++ octet1 l.val) = octet1 (sourceCode x) ++ octet1 (octetOrNone (lenderOf x)) := by
  cases x <;> rfl

theorem windOctets_eq (w : WindRecord) : windOctets w = windData w := by
  unfold windOctets windData
  rw [bitsOctet_one, bitsOctet_one, orOpen_reference, orOpen_figure, orOpen_figure,
    List.append_assoc _ _ (octet1 (octetOrNone (lenderOf w.source)))]
  exact congrArg₂ (· ++ ·) rfl (source_octets w.source)

theorem permitOctets_eq (r : PermitRecord) : permitOctets r = permitData r := by
  simp only [permitOctets, bitsOctet_one, orOpen_reference, permitData, axisOctets, List.append_assoc]
  rfl

theorem bookingEntryOctets_eq (b : Booking) (owns : Bool) : bookingEntryOctets b owns = bookingData b owns := by
  simp only [bookingEntryOctets, bitsOctet_one]
  rfl

/-- R157: cranes in order in four places. -/
theorem cranePlaces_four (cs : List Crane) :
    cranePlaces 4 cs = orNone cs[0]? ++ orNone cs[1]? ++ orNone cs[2]? ++ orNone cs[3]? := by
  simp only [orNone_eq]
  rfl

/-- R55, R166: the code of a sector's state. -/
theorem sectorCode_stateOf (clash : ClashKind) (e : SectorEntry) :
    sectorCode (stateOf clash e) =
      if e.closed = true then 5 else if e.locks ≠ [] then 4 else sectorCode (baseState e) := by
  have hlocks : lockSet clash e ≠ [] ↔ e.locks ≠ [] := by
    cases clash with
    | hook => rfl
    | jib => simp [lockSet]
  unfold stateOf
  simp only [hlocks]
  split
  · rfl
  · split <;> rfl

/-- R166: a grant record, octet by octet. -/
theorem grantData_some (g : Grant) :
    grantData (some g) =
      (match g.kind with | .routine => octet1 0 ++ octet2 0 | .booked id => octet1 1 ++ octet2 id.toNat)
        ++ octet1 g.sliceLeft ++ octet2 (g.hold.getD 0) ++ bitsOctet [g.expired]
        ++ octet1 (match g.yielding with | none => 0 | some .slice => 1 | some .booking => 2)
        ++ bitsOctet [g.overstay] := by
  rw [bitsOctet_one, bitsOctet_one]
  obtain ⟨kind, sliceLeft, hold, expired, yielding, overstay⟩ := g
  cases kind <;> cases yielding with
  | none => rfl
  | some y => cases y <;> rfl

theorem queuePlace_eq (q : Option QueueEntry) :
    queuePlace q = match q with
      | none => octet1 255 ++ octet1 0 ++ octet1 0
      | some q => octet1 q.crane.val ++ octet1 q.keep ++ bitsOctet [q.resume] := by
  cases q with
  | none => rfl
  | some q => exact congrArg (_ ++ ·) (bitsOctet_one q.resume).symm

theorem claimant_octets (x : Option Claimant) :
    (match x with
      | none => octet2 0 ++ octet1 255
      | some cl => octet2 cl.booking.toNat ++ octet1 cl.crane.val) =
      octet2 (match x with | some cl => cl.booking.toNat | none => 0) ++ octet1 (octetOrNone (x.map (·.crane))) := by
  cases x <;> rfl

theorem sectorEntryOctets_eq (r : SectorRecord) (e : SectorEntry) : sectorEntryOctets r e = sectorData r e := by
  unfold sectorEntryOctets sectorData
  dsimp only
  rw [bitsOctet_one, craneMask_eq, craneMask_eq, sectorCode_stateOf, cranePlaces_four, cranePlaces_four,
    queuePlace_eq, queuePlace_eq, queuePlace_eq,
    List.append_assoc _ _ (octet1 (octetOrNone (e.claimant.map (·.crane))))]
  refine congrArg₂ (· ++ ·) ?_ (claimant_octets e.claimant)
  cases hb : e.base with
  | free | contested => simp only [baseState, ownerOf, grantOf, clearingLeft, hb, List.append_assoc]; rfl
  | held _ g | clearing _ g _ =>
    simp only [baseState, ownerOf, grantOf, clearingLeft, hb, grantData_some, List.append_assoc]; rfl

theorem sectorData_length (r : SectorRecord) (e : SectorEntry) : (sectorData r e).length = 43 := by
  have hqueue (q : Option QueueEntry) : (queuePlace q).length = 3 := by cases q <;> rfl
  have hgrant (g : Option Grant) : (grantData g).length = 9 := by cases g <;> rfl
  have hplaces (cs : List Crane) : (cranePlaces 4 cs).length = 4 := rfl
  simp only [sectorData, List.length_append, flagOctet_length, octet1_length, octet2_length, hqueue, hgrant, hplaces]

/-! ### Requests that read -/

/-- A request whose operation changes nothing is answered, and nothing else changes. -/
theorem request_reads (h : s.Room) {tag code : Byte} {op : State → Answer} {r : Result} {data : List Byte}
    (ho : op (s.hunting siteLink) = { state := s.hunting siteLink, result := r, data := data }) :
    request tag code op s = s.answered tag code r data := by
  rw [request_room h, ho]; rfl

theorem cutFields_two {n m : Nat} (hn : n < 256) (hm : m < 256) :
    cutFields [1, 1] (octet1 n ++ octet1 m) = some [n, m] := by
  rw [cutFields_octet1, cutFields_last1, Option.map_some, numberOf_octet1 hn, numberOf_octet1 hm]

theorem cutFields_three {n m k : Nat} (hn : n < 256) (hm : m < 256) (hk : k < 256) :
    cutFields [1, 1, 1] (octet1 n ++ octet1 m ++ octet1 k) = some [n, m, k] := by
  rw [List.append_assoc, cutFields_octet1, cutFields_two hm hk, Option.map_some, numberOf_octet1 hn]

theorem cutFields_index {n : Nat} (hn : n < 256) : cutFields [1] (octet1 n) = some [n] := by
  rw [cutFields_last1, numberOf_octet1 hn]

theorem crane_lt_256 (c : Crane) : c.val < 256 := c.isLt.trans (by decide)

/-- R166: what READ_CRANE answers for a crane, by the selector. -/
def State.craneAnswer (s : State) (c : Crane) : Nat → Answer
  | 0 => accept s (positionOctets (s.position c))
  | 1 => accept s (detectorOctets (s.detector c))
  | 2 => accept s (windOctets (s.windOf c))
  | 3 => accept s (permitOctets (s.permit c))
  | _ => refuse s .badValue

theorem readCrane_crane (c : Crane) {n : Nat} (hn : n < 256) :
    readCrane (octet1 c.val ++ octet1 n) s = s.craneAnswer c n := by
  have hc : ¬ c.val > 7 := by omega
  simp only [readCrane, cutFields_two (crane_lt_256 c) hn, if_neg hc, Fin.ofNat_val_eq_self, ← positionOctets_eq,
    ← detectorOctets_eq, ← windOctets_eq, ← permitOctets_eq]
  rfl

theorem readCrane_badIndex {n m : Nat} (h7 : 7 < n) (hn : n < 256) :
    readCrane (octet1 n ++ octet1 m) s = refuse s .badIndex := by
  simp only [readCrane, cutFields_octet1, cutFields_last1, Option.map_some, numberOf_octet1 hn]
  exact if_pos h7

theorem readSector_sector (k : Sector) :
    readSector (octet1 k.val) s = accept s (sectorEntryOctets (s.sector k) (s.entry k)) := by
  have hk : ¬ k.val > 15 := by omega
  simp only [readSector, cutFields_index (k.isLt.trans (by decide)), if_neg hk, Fin.ofNat_val_eq_self,
    sectorEntryOctets_eq]

theorem readSector_badIndex {n : Nat} (h15 : 15 < n) (hn : n < 256) :
    readSector (octet1 n) s = refuse s .badIndex := by
  simp only [readSector, cutFields_index hn]
  exact if_pos h15

theorem modeCode_eq (m : Mode) : (if m = .armed then 1 else 0) = modeCode m := by cases m <;> rfl

theorem readStatus_link (l : Link) : readStatus (octet1 l.val) s = accept s (statusData l s) := by
  have hl : ¬ l.val > 8 := by omega
  simp only [readStatus, cutFields_index (l.isLt.trans (by decide)), if_neg hl, Fin.ofNat_val_eq_self]

theorem readStatus_badIndex {n : Nat} (h8 : 8 < n) (hn : n < 256) :
    readStatus (octet1 n) s = refuse s .badIndex := by
  simp only [readStatus, cutFields_index hn]
  exact if_pos h8

/-! ### READ_BOOKING (R108) -/

/-- The booking of an id, where the ids are distinct. -/
theorem booking_of_mem {b : Booking} (hb : b ∈ s.bookings) (hn : (s.bookings.map (·.id)).Nodup) :
    s.booking b.id = some b := by
  cases hf : s.bookings.find? (fun x => x.id == b.id) with
  | none => exact absurd (by simp) (List.find?_eq_none.mp hf b hb)
  | some x =>
    have hid : x.id = b.id := by simpa using List.find?_some hf
    rw [State.booking, hf, List.inj_on_of_nodup_map hn (List.mem_of_find?_eq_some hf) hb hid]

theorem booking_eq_none {id : Half} (h : ∀ b ∈ s.bookings, b.id ≠ id) : s.booking id = none :=
  List.find?_eq_none.mpr fun b hb => by simpa using h b hb

/-- R108: a booking owns a grant when its sector's grant is its own. -/
theorem grantOwner_owns (k : Sector) (id : Half) :
    (s.grantOwner k == some id) = ((grantOf (s.entry k)).map (·.kind) == some (.booked id)) := by
  unfold State.grantOwner
  cases grantOf (s.entry k) with
  | none => rfl
  | some g => cases hg : g.kind <;> simp [hg]

theorem cutFields_id (id : Half) : cutFields [2] (octet2 id.toNat) = some [id.toNat] := by
  rw [cutFields_last2, numberOf_octet2 id.isLt]

theorem readBookingOp_mem {b : Booking} (hb : b ∈ s.bookings) (hn : (s.bookings.map (·.id)).Nodup) :
    readBookingOp (octet2 b.id.toNat) s =
      accept s (bookingEntryOctets b ((grantOf (s.entry b.sector)).map (·.kind) == some (.booked b.id))) := by
  simp only [readBookingOp, cutFields_id, BitVec.ofNat_toNat, BitVec.setWidth_eq, booking_of_mem hb hn,
    grantOwner_owns, bookingEntryOctets_eq]

theorem readBookingOp_unknown {id : Half} (h : ∀ b ∈ s.bookings, b.id ≠ id) :
    readBookingOp (octet2 id.toNat) s = refuse s .noSuchId := by
  simp only [readBookingOp, cutFields_id, BitVec.ofNat_toNat, BitVec.setWidth_eq, booking_eq_none h]

/-! ### READ_WIND (R122) -/

/-- R122: what READ_WIND answers for a crane, by the ring. -/
def State.windAnswer (s : State) (c : Crane) (offset : Nat) : Nat → Answer
  | 0 => readRing s c (s.windOf c).fine offset
  | 1 => readRing s c (s.windOf c).coarse offset
  | _ => refuse s .badValue

theorem readWind_crane (c : Crane) {ring offset : Nat} (hr : ring < 256) (ho : offset < 256) :
    readWind (octet1 c.val ++ octet1 ring ++ octet1 offset) s = s.windAnswer c offset ring := by
  have hc : ¬ c.val > 7 := by omega
  simp only [readWind, cutFields_three (crane_lt_256 c) hr ho, if_neg hc, Fin.ofNat_val_eq_self]
  rfl

theorem readWind_badIndex {n ring offset : Nat} (h7 : 7 < n) (hn : n < 256) :
    readWind (octet1 n ++ octet1 ring ++ octet1 offset) s = refuse s .badIndex := by
  simp only [readWind, List.append_assoc, cutFields_octet1, cutFields_last1, Option.map_some, numberOf_octet1 hn]
  exact if_pos h7

/-- R122: a request that reads a ring is answered with the value at the offset, or refused, or told of no data. -/
theorem request_readRing (h : s.Room) {tag code : Byte} {op : State → Answer} {n : Nat} [NeZero n] (c : Crane)
    (r : Ring n) (offset : Nat) (ho : op (s.hunting siteLink) = readRing (s.hunting siteLink) c r offset) :
    request tag code op s =
      if n ≤ offset then s.answered tag code .badValue []
      else if offset < r.fill then s.answered tag code .ok (windReadData s c (ringAt r offset) r.fill)
      else s.answered tag code .noData (windReadData s c 0 r.fill) := by
  unfold readRing at ho
  split_ifs at ho ⊢ with h1 h2
  · exact request_reads h ho
  · exact request_reads h ho
  · exact request_reads h ho

theorem windReadData_eq (c : Crane) (value fill : Nat) :
    windReadData s c value fill = octet2 value ++ octet1 fill
      ++ (match (s.windOf c).source with
          | .none => octet1 0 ++ octet1 255
          | .own => octet1 1 ++ octet1 255
          | .borrowed l => octet1 2 ++ octet1 l.val)
      ++ octet2 (s.gustNumber c) ++ octet2 (s.meanNumber c) := by
  rw [source_octets, windReadData]
  simp only [List.append_assoc]

/-- Settles O29: every read changes nothing and answers with its record, written out octet by octet. -/
theorem readsReturnRecords : Obligations.ReadsReturnRecords := by
  intro s tag h hroom
  refine ⟨fun c => ⟨?_, ?_, ?_, ?_, fun n h3 hn => ?_⟩, fun n m h7 hn => ?_, fun k => ⟨?_, ?_⟩, fun n h15 hn => ?_,
    fun l => ?_, fun n h8 hn => ?_, fun b hb hnd => ?_, fun id hid => ?_, fun c offset ho => ?_,
    fun n ring offset h7 hn => ?_⟩
  · rw [exec_readCrane h, request_reads hroom (readCrane_crane c (by decide))]; rfl
  · rw [exec_readCrane h, request_reads hroom (readCrane_crane c (by decide))]; rfl
  · rw [exec_readCrane h, request_reads hroom (readCrane_crane c (by decide))]; rfl
  · rw [exec_readCrane h, request_reads hroom (readCrane_crane c (by decide))]; rfl
  · obtain ⟨m, rfl⟩ := Nat.exists_eq_add_of_le' h3
    rw [exec_readCrane h, request_refuse hroom (readCrane_crane c hn)]
  · rw [exec_readCrane h, request_refuse hroom (readCrane_badIndex h7 hn)]
  · rw [sectorEntryOctets_eq, sectorData_length]
  · rw [exec_readSector h, request_reads hroom (readSector_sector k)]; rfl
  · rw [exec_readSector h, request_refuse hroom (readSector_badIndex h15 hn)]
  · rw [exec_readStatus h, request_reads hroom (readStatus_link l), modeCode_eq]
    rfl
  · rw [exec_readStatus h, request_refuse hroom (readStatus_badIndex h8 hn)]
  · rw [exec_readBooking h, request_reads hroom (readBookingOp_mem hb hnd)]; rfl
  · rw [exec_readBooking h, request_refuse hroom (readBookingOp_unknown hid)]
  · have ring (k : Nat) (hk : k < 256) := readWind_crane (s := s.hunting siteLink) c hk ho
    refine ⟨?_, ?_, fun k h1 hk => ?_⟩
    · rw [exec_readWind h, request_readRing hroom c _ offset (ring 0 (by decide))]
      simp only [windReadData_eq]
      rfl
    · rw [exec_readWind h, request_readRing hroom c _ offset (ring 1 (by decide))]
      simp only [windReadData_eq]
      rfl
    · obtain ⟨m, rfl⟩ := Nat.exists_eq_add_of_le' h1
      rw [exec_readWind h, request_refuse hroom (ring _ hk)]
  · rw [exec_readWind h, request_refuse hroom (readWind_badIndex h7 hn)]

end Sys2Proof.Machine
end

/-! ## A position record replaced (R24, R30 to R32, R138): O46, O47 -/

section
namespace Sys2Proof.Machine

variable {s t : State} {c : Crane} {p : PositionRecord} {bs : List EventBody} {ns : List Notice}

/-- R32, R138: one position record replaced, its events posted, its standing recomputed and the others told. -/
def State.relocated (s : State) (c : Crane) (p : PositionRecord) (bs : List EventBody) (ns : List Notice) : State :=
  withBeacons s ((recomputePresence c none ((s.setPosition c p).postAll bs)).send ns)

theorem takeMotion_accepted {f : MotionFrame} {u : PositionRecord} {ranges : List EventBody}
    (h : seqAccepted (s.position c).seqRef f.seq = true)
    (hu : updateRecord c (s.crane c) s.site.positionStale f (s.position c) = (u, ranges)) :
    takeMotion c f s = s.relocated c u (ranges ++ positionEvents c 0 (s.position c).state u.state)
      (handOffs c (s.position c) u) := by
  unfold takeMotion
  dsimp only
  rw [if_pos h, hu]
  rfl

/-- What a record's replacement leaves as it was. -/
theorem relocated_frame (ht : s.relocated c p bs ns = t) :
    t = { s with
      positions := s.positions.write c (t.position c)
      events := (s.postAll bs).events
      overflow := (s.postAll bs).overflow
      inFlight := t.inFlight } := by
  obtain ⟨he, ho⟩ := postAll_congr bs (s := s) (t := s.setPosition c p) rfl rfl rfl rfl rfl
  have hw (q : PositionRecord) : (s.positions.write c p).write c q = s.positions.write c q := Bank.write_again _ _ _ _
  subst ht
  unfold State.relocated withBeacons
  rw [recomputePresence_eq, State.postAll_frame, he, ho]
  generalize State.restood _ c = q
  simp only [State.send, State.setPosition, State.position, hw, Bank.read_write_self]

/-- R31: the standing is that of the state left. -/
theorem relocated_position (ht : s.relocated c p bs ns = t) :
    t.position c = { p with present := t.presenceOf c, obstructed := t.obstructedBy c } := by
  have hu : ((s.setPosition c p).postAll bs).position c = p := by
    rw [State.postAll_position, State.setPosition_position_self]
  have hpos : t.position c = ((s.setPosition c p).postAll bs).restood c := by
    rw [← ht]; exact Bank.read_write_self _ _ _
  have hframe := relocated_frame ht
  have hheld : (t.position c).held = (((s.setPosition c p).postAll bs).position c).held := by rw [hpos]; rfl
  have hcrane : t.crane c = ((s.setPosition c p).postAll bs).crane c := by rw [State.postAll_crane, hframe]; rfl
  have hzone : t.zone c = ((s.setPosition c p).postAll bs).zone c := by rw [State.postAll_zone, hframe]; rfl
  have hsectors : t.sectors = ((s.setPosition c p).postAll bs).sectors := by rw [State.postAll_sectors, hframe]; rfl
  rw [presenceOf_congr hcrane hzone hsectors hheld, obstructedBy_congr hsectors hheld, hpos, State.restood, hu]

/-- R30, R32, R138: the reports come first, then what the block tells, then the changes of beacon condition. -/
theorem relocated_inFlight (hq : s.inFlight = []) (ht : s.relocated c p bs ns = t) :
    t.inFlight = presenceReports c none p (t.position c) ++ ns ++ beaconNotices s t := by
  have hu : ((s.setPosition c p).postAll bs).position c = p := by
    rw [State.postAll_position, State.setPosition_position_self]
  have hpos : t.position c = ((s.setPosition c p).postAll bs).restood c := by
    rw [← ht]; exact Bank.read_write_self _ _ _
  have hflight : ((s.setPosition c p).postAll bs).inFlight = [] := by rw [State.postAll_inFlight]; exact hq
  rw [hpos, ← ht]
  unfold State.relocated withBeacons
  rw [State.send_inFlight, State.send_inFlight, recomputePresence_eq, hflight, hu]
  rfl

/-- R138: a present crane's change of condition is told. -/
theorem mem_beaconNotices {m : Notice} :
    m ∈ beaconNotices s t ↔ ∃ d cond, m = .beacon d cond ∧ (s.crane d).present = true ∧ (t.crane d).present = true ∧
      cond = t.beaconCondition d ∧ s.beaconCondition d ≠ cond := by
  simp only [beaconNotices, List.mem_map, List.mem_filter, mem_allCranes, true_and, Bool.and_eq_true, bne_iff_ne, ne_eq,
    and_assoc]
  exact exists_congr fun d => ⟨fun ⟨hs, ht, hne, e⟩ => ⟨_, e.symm, hs, ht, rfl, hne⟩, fun ⟨cond, e, hs, ht, hc, hne⟩ =>
    ⟨hs, ht, hc ▸ hne, hc ▸ e.symm⟩⟩

theorem relocated_crane (d : Crane) (ht : s.relocated c p bs ns = t) : t.crane d = s.crane d := by
  rw [relocated_frame ht]; rfl

/-- R138: only the condition of the crane whose record is replaced can change with it. -/
theorem relocated_beaconCondition {d : Crane} (hd : d ≠ c) (ht : s.relocated c p bs ns = t) :
    t.beaconCondition d = s.beaconCondition d := by
  have hpos : t.position d = s.position d := by
    rw [relocated_frame ht]; exact Bank.read_write_ne _ _ hd
  exact beaconCondition_congr (by rw [hpos]) (by rw [relocated_frame ht]; rfl) (by rw [relocated_frame ht]; rfl)

/-- R30, R32, R138: which notices are in flight after it. -/
theorem mem_relocated_inFlight (hq : s.inFlight = []) (ht : s.relocated c p bs ns = t) {m : Notice} :
    m ∈ t.inFlight ↔
      (∃ k change, m = .presence k c change ∧
        presenceChange (p.present == some k) ((t.position c).present == some k) (p.obstructed.contains k)
          ((t.position c).obstructed.contains k) = some change) ∨
      m ∈ ns ∨
      ∃ d cond, m = .beacon d cond ∧ (t.crane d).present = true ∧ cond = t.beaconCondition d ∧
        s.beaconCondition d ≠ cond := by
  rw [relocated_inFlight hq ht, List.mem_append, List.mem_append, or_assoc, mem_presenceReports, mem_beaconNotices]
  simp only [relocated_crane _ ht, and_self_left, ne_eq, reduceCtorEq, not_false_eq_true, true_and]

theorem presence_mem_relocated (hq : s.inFlight = []) (ht : s.relocated c p bs ns = t)
    (hns : ∀ k d change, .presence k d change ∉ ns) (k : Sector) (d : Crane) (change : PresenceChange) :
    .presence k d change ∈ t.inFlight ↔ d = c ∧
      presenceChange (p.present == some k) ((t.position c).present == some k) (p.obstructed.contains k)
        ((t.position c).obstructed.contains k) = some change := by
  rw [mem_relocated_inFlight hq ht]
  constructor
  · rintro (⟨_, _, e, hc⟩ | hm | ⟨_, _, e, -⟩)
    · cases e; exact ⟨rfl, hc⟩
    · exact absurd hm (hns k d change)
    · cases e
  · rintro ⟨rfl, hc⟩
    exact .inl ⟨k, change, rfl, hc⟩

/-- A notice that is neither a report nor of a beacon condition is one of those that the block tells. -/
theorem mem_relocated_else (hq : s.inFlight = []) (ht : s.relocated c p bs ns = t) {m : Notice}
    (hp : ∀ k change, m ≠ .presence k c change := by intro _ _ e; cases e)
    (hb : ∀ d cond, m ≠ .beacon d cond := by intro _ _ e; cases e) : m ∈ t.inFlight ↔ m ∈ ns := by
  rw [mem_relocated_inFlight hq ht]
  refine ⟨?_, fun hm => .inr (.inl hm)⟩
  rintro (⟨k, change, e, -⟩ | hm | ⟨d, cond, e, -⟩)
  · exact absurd e (hp k change)
  · exact hm
  · exact absurd e (hb d cond)

/-- R138: of a present crane's replacement, its own condition alone is told. -/
theorem beacon_mem_relocated (hq : s.inFlight = []) (ht : s.relocated c p bs ns = t) (hp : (s.crane c).present = true)
    (hns : ∀ d cond, .beacon d cond ∉ ns) (d : Crane) (cond : BeaconCondition) :
    .beacon d cond ∈ t.inFlight ↔ d = c ∧ cond = t.beaconCondition c ∧ s.beaconCondition c ≠ cond := by
  rw [mem_relocated_inFlight hq ht]
  constructor
  · rintro (⟨_, _, e, -⟩ | hm | ⟨_, _, e, -, hc, hne⟩)
    · cases e
    · exact absurd hm (hns d cond)
    · cases e
      have hd : d = c := by
        by_contra hd
        exact hne (hc ▸ (relocated_beaconCondition hd ht).symm)
      exact ⟨hd, hd ▸ hc, hd ▸ hne⟩
  · rintro ⟨rfl, hc, hne⟩
    exact .inr (.inr ⟨d, cond, rfl, by rw [relocated_crane d ht]; exact hp, hc, hne⟩)

end Sys2Proof.Machine
end

/-! ## MOTION frames taken (R19 to R32): O46 -/

section
namespace Sys2Proof.Machine

variable {s : State} {c : Crane}

/-- R20: a sequence that is newer than the reference is accepted. -/
theorem seqAccepted_newer {ref : Option Byte} {x : Byte}
    (h : ∀ q, ref = some q → 1 ≤ (x - q).toNat ∧ (x - q).toNat ≤ 127) : seqAccepted ref x = true := by
  cases ref with
  | none => rfl
  | some q => exact (within_iff _ _ _).mpr (h q rfl)

/-- R22: one axis of a frame: its held value, its mark and its RANGE event. -/
theorem takeAxis_eq (c : Crane) (axis top : Nat) (ok : Bool) (held : Nat) (mark : Bool) (value : Nat) :
    takeAxis c axis top ok held mark value =
      (if ok = true then min value top else held, if ok = true then decide (top < value) else mark,
        if ok = true ∧ top < value ∧ mark = false then [eventOf .range (some c) none axis value] else []) := by
  cases ok with
  | false => rfl
  | true =>
    by_cases hv : top < value
    · simp only [takeAxis, clampAxis, if_true, gt_iff_lt, Nat.min_eq_right hv.le, hv, true_and]
      cases mark <;> rfl
    · simp only [takeAxis, clampAxis, if_true, gt_iff_lt, Nat.min_eq_left (not_lt.mp hv), hv, false_and,
        and_false, if_false]
      rfl

/-- R23: the new state, by the slew and the other two axes. -/
theorem positionStateOf_eq (slew trolley hoist : Bool) :
    positionStateOf slew trolley hoist =
      if slew = false then .lost else if trolley = true ∧ hoist = true then .tracked else .degraded := by
  cases slew <;> cases trolley <;> cases hoist <;> rfl

/-- R26, R27: the event of a change to a state that a frame can leave. -/
theorem positionEvents_eq (c : Crane) (cause : Nat) (before : PositionState) {after : PositionState}
    (h : after ≠ .none) :
    positionEvents c cause before after =
      if after = .lost then (if before = .lost then [] else [eventOf .positionLost (some c) none cause])
      else if before = .tracked ∨ before = .degraded then []
      else [eventOf .positionRegained (some c) none (if after = .tracked then 1 else 2)] := by
  cases after with
  | none => exact absurd rfl h
  | lost | tracked | degraded => cases before <;> rfl

/-- R32: which notices a frame hands on. -/
theorem mem_handOffs {before after : PositionRecord} {m : Notice} :
    m ∈ handOffs c before after ↔
      (after.loadOk = true ∧ m = .loadSample c after.load) ∨ m = .motionTaken c ∨
      (after.state ≠ before.state ∧ m = .craneCondition c) ∨
      (((after.state = .lost ∧ before.state ≠ .lost) ∨ (before.trolleyOk = true ∧ after.trolleyOk = false) ∨
        (before.hoistOk = true ∧ after.hoistOk = false)) ∧ m = .limit c) := by
  have hmem (P : Prop) [Decidable P] (x : Notice) : m ∈ (if P then [x] else []) ↔ P ∧ m = x := by
    split <;> simp_all
  simp only [handOffs, List.mem_append, hmem, List.mem_singleton, or_and_right, or_assoc, Bool.not_eq_true]
  rw [ne_comm]

/-- R32: the order of what a frame hands on. -/
theorem handOffs_eq (c : Crane) (before after : PositionRecord) :
    ∃ limits, handOffs c before after =
      (if after.loadOk = true then [.loadSample c after.load] else []) ++ [.motionTaken c]
        ++ (if after.state ≠ before.state then [.craneCondition c] else []) ++ limits ∧
      ∀ n ∈ limits, n = .limit c := by
  simp only [handOffs, ne_comm (a := before.state) (b := after.state), List.append_assoc]
  refine ⟨_, rfl, fun n hn => ?_⟩
  simp only [List.mem_append] at hn
  rcases hn with hn | hn | hn <;> split at hn <;> simp_all

/-- R20 to R24: the record a frame leaves, before presence is recomputed, and the RANGE events it raises. -/
theorem updateRecord_eq (r : CraneRecord) (staleTime : Nat) (f : MotionFrame) (p : PositionRecord) :
    let slew : Bool := f.slewOk && decide (f.rawAngle.toNat < 8192)
    let range (ok mark : Bool) (axis top value : Nat) : List EventBody :=
      if ok = true ∧ top < value ∧ mark = false then [eventOf .range (some c) none axis value] else []
    updateRecord c r staleTime f p =
      ({ state := if slew = false then .lost else if f.trolleyOk = true ∧ f.hoistOk = true then .tracked else .degraded
         seqRef := if slew = true then some f.seq else none
         stale := if slew = true then some staleTime else none
         slewOk := slew, trolleyOk := f.trolleyOk, hoistOk := f.hoistOk, loadOk := f.loadOk
         angle := if slew = true then (((f.rawAngle.toNat : Int) - r.slewOffset) % 8192).toNat else p.angle
         radius := if f.trolleyOk = true then min f.radius.toNat r.jib else p.radius
         height := if f.hoistOk = true then min f.height.toNat 3000 else p.height
         load := if f.loadOk = true then min f.load.toNat 8000 else p.load
         radiusMark := if f.trolleyOk = true then decide (r.jib < f.radius.toNat) else p.radiusMark
         heightMark := if f.hoistOk = true then decide (3000 < f.height.toNat) else p.heightMark
         loadMark := if f.loadOk = true then decide (8000 < f.load.toNat) else p.loadMark
         present := p.present, obstructed := p.obstructed },
       range f.trolleyOk p.radiusMark 0 r.jib f.radius.toNat ++ range f.hoistOk p.heightMark 1 3000 f.height.toNat
         ++ range f.loadOk p.loadMark 2 8000 f.load.toNat) := by
  simp only [updateRecord, takeAxis_eq, positionStateOf_eq]
  rfl

/-- Settles O46: the frame replaces the record, and what is in flight is read off the replacement. -/
theorem motionFrameTaken : Obligations.MotionFrameTaken := by
  intro s c f h hpresent hseq p jib slew state range raised
  obtain ⟨u, ranges, hu⟩ : ∃ u ranges, updateRecord c (s.crane c) s.site.positionStale f p = (u, ranges) := ⟨_, _, rfl⟩
  obtain ⟨hrecord, hranges⟩ := Prod.mk.inj (hu.symm.trans (updateRecord_eq (s.crane c) s.site.positionStale f p))
  have hstate : u.state = state := by rw [hrecord]
  have hraised : ranges ++ positionEvents c 0 p.state u.state = raised := by
    have hplaced : state ≠ .none := by
      unfold state
      split_ifs <;> nofun
    rw [hranges, positionEvents_eq c 0 p.state (hstate ▸ hplaced), hstate]
  have hquiet : (s.hunting (linkOf c)).inFlight = [] := h.2.1
  obtain ⟨t, ht⟩ : ∃ t, (s.hunting (linkOf c)).relocated c u raised (handOffs c p u) = t := ⟨_, rfl⟩
  have hexec : exec (.motion c f) s = .next t := by
    rw [exec_motion h, handOn_present hpresent, ← ht, ← hraised]
    exact congrArg _ (takeMotion_accepted (s := s.hunting (linkOf c)) (seqAccepted_newer hseq) hu)
  have hpos := relocated_position ht
  have hframe := relocated_frame ht
  obtain ⟨he, ho⟩ := postAll_congr raised (s := s) (t := s.hunting (linkOf c)) rfl rfl rfl rfl rfl
  rw [he, ho] at hframe
  have hload : (t.position c).load = u.load := by rw [hpos]
  have hqstate : (t.position c).state = u.state := by rw [hpos]
  have hloadOk : u.loadOk = f.loadOk := by rw [hrecord]
  have htrolleyOk : u.trolleyOk = f.trolleyOk := by rw [hrecord]
  have hhoistOk : u.hoistOk = f.hoistOk := by rw [hrecord]
  have hstanding : u.present = p.present ∧ u.obstructed = p.obstructed := by rw [hrecord]; exact ⟨rfl, rfl⟩
  obtain ⟨limits, hhand, hlimits⟩ := handOffs_eq c p u
  refine ⟨t, hexec, hframe, hpos.trans (by rw [hrecord]),
    ⟨presenceReports c none u (t.position c), limits ++ beaconNotices (s.hunting (linkOf c)) t, ?_,
      fun n hn => ?_, fun n hn => ?_⟩, fun k d change => ?_, fun d x => (mem_relocated_else hquiet ht).trans ?_,
    (mem_relocated_else hquiet ht).mpr (mem_handOffs.mpr (.inr (.inl rfl))), (mem_relocated_else hquiet ht).trans ?_,
    (mem_relocated_else hquiet ht).trans ?_, fun d cond => ?_⟩
  · rw [relocated_inFlight hquiet ht, hhand, hload, hqstate, hloadOk]
    simp only [List.append_assoc]
  · obtain ⟨k, change, e, -⟩ := mem_presenceReports.mp hn
    exact ⟨k, change, e⟩
  · rcases List.mem_append.mp hn with hn | hn
    · exact .inl (hlimits n hn)
    · obtain ⟨d, cond, e, -, -, hc, hne⟩ := mem_beaconNotices.mp hn
      by_cases hd : d = c
      · exact .inr ⟨cond, hd ▸ e⟩
      · exact absurd (hc ▸ (relocated_beaconCondition hd ht).symm) hne
  · rw [← hstanding.1, ← hstanding.2]
    exact presence_mem_relocated hquiet ht (fun k d change hm => by simp [mem_handOffs] at hm) k d change
  · rw [hload, ← hloadOk]
    simp [mem_handOffs, and_left_comm]
  · rw [hqstate]
    simp [mem_handOffs]
  · rw [hqstate, ← htrolleyOk, ← hhoistOk]
    simp [mem_handOffs]
  · exact beacon_mem_relocated hquiet ht hpresent (fun d cond hm => by simp [mem_handOffs] at hm) d cond

end Sys2Proof.Machine
end

/-! ## The stale timers (R24, R26, R30, R32, R117 to R120, R138): O47 -/

section
namespace Sys2Proof.Machine

variable {s t : State} {c : Crane}

/-- R138: where what is in flight is one thing or a change of condition, and the one thing tells of none. -/
theorem tellsBeacons_of_mem {A : Notice → Prop}
    (h : ∀ m, m ∈ t.inFlight ↔ A m ∨ ∃ d cond, m = .beacon d cond ∧ (t.crane d).present = true ∧
      cond = t.beaconCondition d ∧ s.beaconCondition d ≠ cond)
    (hA : ∀ d cond, ¬ A (.beacon d cond)) : s.TellsBeacons t := by
  refine fun d cond => (h _).trans ⟨?_, fun hd => .inr ⟨d, cond, rfl, hd⟩⟩
  rintro (ha | ⟨_, _, e, hd⟩)
  · exact absurd ha (hA d cond)
  · cases e; exact hd

/-! ### The position stale timer -/

/-- R24: the record of a crane whose position is lost for want of frames, its standing yet to be recomputed. -/
def PositionRecord.expired (p : PositionRecord) : PositionRecord :=
  { p with state := .lost, stale := none, seqRef := none }

theorem expirePosition_running (h : (s.position c).stale ≠ none) :
    expirePosition c s =
      s.relocated c (s.position c).expired (positionEvents c 1 (s.position c).state .lost)
        [.craneCondition c, .limit c] :=
  if_neg h

/-- R26: the expiry raises POSITION_LOST unless the position is lost already. -/
theorem positionEvents_lost (c : Crane) (before : PositionState) :
    positionEvents c 1 before .lost = if before = .lost then [] else [eventOf .positionLost (some c) none 1] :=
  (positionEvents_eq c 1 before (after := .lost) nofun).trans (if_pos rfl)

/-- R28, R29: a position replaced by a lost one leaves the crane present nowhere, obstructing where it is a member. -/
theorem relocated_expired {p : PositionRecord} {bs : List EventBody} {ns : List Notice}
    (ht : s.relocated c p.expired bs ns = t) :
    t.position c = { p.expired with present := none, obstructed := s.sectorsOf c } := by
  have hlost : t.located c = false := by
    rw [located_eq_locatedState, relocated_position ht]
    rfl
  have hsectors : t.sectorsOf c = s.sectorsOf c := by rw [relocated_frame ht]; rfl
  have hobstruct : t.obstructedBy c = s.sectorsOf c := by
    rw [State.obstructedBy, hlost, if_neg Bool.false_ne_true, hsectors]
  rw [relocated_position ht, presenceOf_unlocated hlost, hobstruct]

theorem mem_sectorsOf {k : Sector} : k ∈ s.sectorsOf c ↔ s.isMember k c = true := by
  simp [State.sectorsOf, mem_allSectors]

/-! ### The wind stale timer -/

/-- R118: the state in which a stale own source calls for a selection. -/
theorem expireWindStale_running (h : (s.windOf c).ownStale ≠ none) :
    expireWindStale c s = (s.setWind c (goStale (s.windOf c))).reselected true :=
  if_neg h

theorem goStale_windOf_kept (d : Crane) :
    ((s.setWind c (goStale (s.windOf c))).windOf d).source = (s.windOf d).source ∧
      ((s.setWind c (goStale (s.windOf c))).windOf d).state = (s.windOf d).state := by
  rw [State.setWind_windOf]
  split
  · next hd => subst hd; exact ⟨rfl, rfl⟩
  · exact ⟨rfl, rfl⟩

/-- R138: a source gone stale changes no beacon condition before the selection. -/
theorem goStale_beaconCondition (d : Crane) :
    (s.setWind c (goStale (s.windOf c))).beaconCondition d = s.beaconCondition d :=
  beaconCondition_congr rfl (goStale_windOf_kept d).1 (goStale_windOf_kept d).2

/-- R118 to R120: what an own source gone stale leaves. -/
theorem expireWindStale_spec (hq : s.inFlight = []) (ht : (s.setWind c (goStale (s.windOf c))).reselected true = t) :
    t = { s with
          winds := t.winds
          events := (s.postAll (sourceChanges s t)).events
          overflow := (s.postAll (sourceChanges s t)).overflow
          inFlight := t.inFlight } ∧
    (∀ d, t.windOf d = { if d = c then goStale (s.windOf c) else s.windOf d with source := (t.windOf d).source }) ∧
    (∀ d, (s.crane d).present = false → (t.windOf d).source = (s.windOf d).source) ∧
    ∀ m, m ∈ t.inFlight ↔
      (∃ d, m = .evaluation d ∧ (s.crane d).present = true ∧ profileValid (s.profileOf d) = true ∧
        (t.windOf d).source ≠ (s.windOf d).source) ∨
      ∃ d cond, m = .beacon d cond ∧ (t.crane d).present = true ∧ cond = t.beaconCondition d ∧
        s.beaconCondition d ≠ cond := by
  have hr := reselected_eq (s := s.setWind c (goStale (s.windOf c))) (wanted := true)
  have hw (d : Crane) := reselected_windOf (s := s.setWind c (goStale (s.windOf c))) (wanted := true) d
  rw [ht] at hr
  simp only [ht] at hw
  have hchanges : sourceChanges (s.setWind c (goStale (s.windOf c))) t = sourceChanges s t :=
    sourceChanges_congr (fun d => (goStale_windOf_kept d).1) rfl rfl
  obtain ⟨he, ho⟩ := postAll_congr (sourceChanges s t) (s := s) (t := s.setWind c (goStale (s.windOf c)))
    rfl rfl rfl rfl rfl
  have hflight : t.inFlight = selectionNotices (s.setWind c (goStale (s.windOf c))) t := by
    conv_lhs => rw [hr]
    rw [State.setWind_inFlight, hq, List.nil_append]
  rw [hchanges, he, ho, State.setWind_inFlight, hq, List.nil_append, ← hflight] at hr
  have hcrane (d : Crane) : t.crane d = s.crane d := by rw [hr]; rfl
  have hprofile (d : Crane) : t.profileOf d = s.profileOf d := by rw [hr]; rfl
  refine ⟨hr, fun d => ?_, fun d hd => ?_, fun m => ?_⟩
  · rw [hw, State.setWind_windOf]
    split <;> rfl
  · rw [hw, if_neg (by rw [State.setWind_crane, hd]; simp)]
    exact (goStale_windOf_kept d).1
  · rw [hflight, mem_selectionNotices, or_comm]
    simp only [State.setWind_crane, hcrane, hprofile, goStale_beaconCondition, goStale_windOf_kept, and_self_left]

/-- Settles O47: the expiry of the position stale timer replaces the record by a lost one, and that of the wind stale
timer is a record gone stale and a selection of the sources. -/
theorem staleTimersExpire : Obligations.StaleTimersExpire := by
  intro s c h p w lost
  refine ⟨fun hp => ?_, fun hp => ?_, fun hw => ?_, fun hw => ?_⟩
  · rw [exec_positionStaleExpiry h, expirePosition]
    exact congrArg _ (if_pos hp)
  · obtain ⟨t, ht⟩ : ∃ t, s.relocated c p.expired lost [.craneCondition c, .limit c] = t := ⟨_, rfl⟩
    have hpos := relocated_expired ht
    have hframe := relocated_frame ht
    rw [hpos] at hframe
    refine ⟨t, ?_, hframe, fun k d change => ?_, (mem_relocated_else h.2.1 ht).mpr (by simp),
      (mem_relocated_else h.2.1 ht).mpr (by simp),
      tellsBeacons_of_mem (fun m => (mem_relocated_inFlight h.2.1 ht).trans or_assoc.symm) (by simp), fun m hm => ?_⟩
    · rw [exec_positionStaleExpiry h, expirePosition_running hp, positionEvents_lost, ← ht]
    · rw [presence_mem_relocated h.2.1 ht (by simp), hpos]
      simp only [List.contains_eq_mem, mem_sectorsOf, Bool.decide_eq_true]
      rfl
    · rcases (mem_relocated_inFlight h.2.1 ht).mp hm with ⟨k, change, e, -⟩ | hm | ⟨d, cond, e, -⟩
      · exact .inr (.inr (.inl ⟨k, change, e⟩))
      · simp only [List.mem_cons, List.not_mem_nil, or_false] at hm
        exact hm.imp_right .inl
      · exact .inr (.inr (.inr ⟨d, cond, e⟩))
  · rw [exec_windStaleExpiry h, expireWindStale]
    exact congrArg _ (if_pos hw)
  · obtain ⟨t, ht⟩ : ∃ t, (s.setWind c (goStale w)).reselected true = t := ⟨_, rfl⟩
    obtain ⟨hframe, hwind, habsent, hmem⟩ := expireWindStale_spec h.2.1 ht
    refine ⟨t, ?_, hframe, (hwind c).trans (by rw [if_pos rfl]; rfl), fun d hd => (hwind d).trans (by rw [if_neg hd]),
      habsent, ht ▸ reselected_selected, fun d => (hmem _).trans (by simp), tellsBeacons_of_mem hmem (by simp),
      fun m hm => ?_⟩
    · rw [exec_windStaleExpiry h, expireWindStale_running hw, ← ht]
    · rcases (hmem m).mp hm with ⟨d, e, -⟩ | ⟨d, cond, e, -⟩
      · exact .inl ⟨d, e⟩
      · exact .inr ⟨d, cond, e⟩

end Sys2Proof.Machine
end

/-! ## The ZONE contribution and the knocks (R25, R36 to R41, R53): O54 -/

section
namespace Sys2Proof.Machine

variable {s : State} {c : Crane} {i j : Nat} {g b : Segment}

/-! ### Barred segments and the exit case (R36, R37) -/

theorem barred_iff : s.barred c g = true ↔ s.Bars c g := by
  unfold State.barred State.Bars
  cases hk : g.kind with
  | own => simp
  | barred =>
    simp only [inVolume, Bool.and_eq_true, inBand_iff, Bool.or_eq_true, beq_iff_eq, decide_eq_true_eq]
    rfl
  | shared =>
    dsimp only
    by_cases hm : s.isMember g.sector c = true
    · have hs := sharedSector_iff.mpr ⟨hk, rfl, hm⟩
      simp only [hs, hm, State.holds, Bool.and_eq_true, Bool.not_eq_true', beq_eq_false_iff_ne, Bool.or_eq_true,
        beq_iff_eq, inBand_iff, true_and]
      rfl
    · have hs : s.sharedSector c g = none := if_neg fun h => hm h.2
      simp [hs, hm]

theorem isMember_of_bars_shared (h : s.Bars c g) (hk : g.kind = .shared) : s.isMember g.sector c = true := by
  unfold State.Bars at h
  rw [hk] at h
  exact h.1

/-- R37: a crane has a place to exit exactly when it is an exit crane in the segment it stands in. -/
theorem exitPlace_isSome_iff (hg : s.StandsIn c i g) : (s.exitPlace c).isSome = true ↔ s.ExitsFrom c g := by
  unfold State.exitPlace State.ExitsFrom
  simp only [current_iff.mpr ⟨g, hg⟩, segmentAt_of_standsIn hg, ← barred_iff]
  by_cases hb : s.barred c g = true
  · rw [if_pos hb]
    cases hs : s.sharedSector c g with
    | none =>
      have hk : g.kind ≠ .shared := fun hk =>
        absurd hs (by rw [sharedSector_iff.mpr ⟨hk, rfl, isMember_of_bars_shared (barred_iff.mp hb) hk⟩]; nofun)
      simp [hb, hk]
    | some k =>
      obtain ⟨hk, rfl, -⟩ := sharedSector_iff.mp hs
      by_cases hl : c ∈ s.locksOf g.sector <;> simp [hb, hk, hl]
  · simp [hb]

/-! ### Ramps and distances (R38 to R41) -/

theorem ramp_ramps (p : AxisParams) (d : Nat) : p.Ramps d (ramp p (some d)) := by
  refine ⟨fun h => if_pos h, fun h h' => ?_, fun h h' => ?_⟩
  · exact (if_neg (not_le.mpr h)).trans (if_pos h')
  · exact (if_neg (not_le.mpr h)).trans (if_neg (not_lt.mpr h'))

/-- R38: the index of the `m`th segment beyond index `i` of `n`, forward or backward. -/
def indexBeyond (n i : Nat) (forward : Bool) (m : Nat) : Nat := if forward = true then (i + m) % n else (i + n - m) % n

theorem scanOrder_eq (n i : Nat) (forward : Bool) :
    scanOrder n i forward = (List.range (n - 1)).map (fun m => indexBeyond n i forward (m + 1)) := by
  refine List.map_congr_left fun m _ => ?_
  unfold indexBeyond
  cases forward
  · exact congrArg (· % n) (by omega)
  · exact congrArg (· % n) (by omega)

theorem firstBarrier_iff {forward : Bool} :
    s.FirstBarrier c i forward j b ↔
      ∃ m, 0 < m ∧ m < (s.zone c).length ∧ j = indexBeyond (s.zone c).length i forward m ∧ (s.zone c)[j]? = some b ∧
        s.Bars c b ∧ ∀ m' b', 0 < m' → m' < m →
          (s.zone c)[indexBeyond (s.zone c).length i forward m']? = some b' → ¬ s.Bars c b' := Iff.rfl

/-- R38: the scan stops at the first barrier. -/
theorem slewBarrier_iff {forward : Bool} :
    s.slewBarrier c i forward = some j ↔ ∃ b, s.FirstBarrier c i forward j b := by
  have hlt {m : Nat} (hm : m < (s.zone c).length) : indexBeyond (s.zone c).length i forward m < (s.zone c).length := by
    unfold indexBeyond
    split <;> exact Nat.mod_lt _ (by omega)
  rw [State.slewBarrier, scanOrder_eq, List.find?_map, Option.map_eq_some_iff]
  simp only [find?_ascending List.pairwise_lt_range, List.mem_range, Function.comp_apply, ← Bool.not_eq_true,
    barred_iff, firstBarrier_iff]
  constructor
  · rintro ⟨m, ⟨hm, hbars, hfirst⟩, rfl⟩
    refine ⟨_, m + 1, by omega, by omega, rfl, getElem?_segmentAt (hlt (by omega)), hbars, fun m' b' h0 hm' hb' => ?_⟩
    obtain ⟨k, rfl⟩ := Nat.exists_eq_add_of_le' h0
    have hk := hfirst k (by omega) (by omega)
    rwa [segmentAt_of_getElem? hb'] at hk
  · rintro ⟨b, m, h0, hm, rfl, hb, hbars, hfirst⟩
    obtain ⟨k, rfl⟩ := Nat.exists_eq_add_of_le' h0
    refine ⟨k, ⟨by omega, ?_, fun k' hk' hlt' => ?_⟩, rfl⟩
    · show s.Bars c (segmentAt _ _)
      rwa [segmentAt_of_getElem? hb]
    · exact hfirst (k' + 1) _ (by omega) (by omega) (getElem?_segmentAt (hlt (by omega)))

theorem slewBarrier_none {forward : Bool} (h : ∀ j b, ¬ s.FirstBarrier c i forward j b) :
    s.slewBarrier c i forward = none :=
  Option.eq_none_iff_forall_ne_some.mpr fun j hj => (slewBarrier_iff.mp hj).elim (h j)

theorem firstBarrier_segmentAt {forward : Bool} (h : s.FirstBarrier c i forward j b) : segmentAt (s.zone c) j = b := by
  obtain ⟨m, -, -, -, hb, -⟩ := h
  exact segmentAt_of_getElem? hb

theorem slewDistance_forward (h : s.FirstBarrier c i true j b) :
    s.slewDistance c i true = some ((b.start + 8192 - (s.position c).angle) % 8192) := by
  rw [State.slewDistance, slewBarrier_iff.mpr ⟨b, h⟩, Option.map_some, firstBarrier_segmentAt h]
  rfl

theorem slewDistance_backward (h : s.FirstBarrier c i false j b) {after : Segment}
    (ha : (s.zone c)[(j + 1) % (s.zone c).length]? = some after) :
    s.slewDistance c i false = some (((s.position c).angle + 1 + 8192 - after.start) % 8192) := by
  have hend : segmentEnd (s.zone c) j = after.start := by
    rw [segmentEnd, segmentAt, List.getD_eq_getElem?_getD, ha]
    rfl
  rw [State.slewDistance, slewBarrier_iff.mpr ⟨b, h⟩, Option.map_some, hend]
  rfl

theorem slewDistance_none {forward : Bool} (h : ∀ j b, ¬ s.FirstBarrier c i forward j b) :
    s.slewDistance c i forward = none := by
  rw [State.slewDistance, slewBarrier_none h]
  rfl

/-- R39: the segments that bar the trolley beyond their band. -/
def State.BarsTrolley (s : State) (c : Crane) (g : Segment) : Prop :=
  (g.kind = .barred ∧ (g.floor = 0 ∨ s.evalHeight c < g.floor)) ∨
  (g.kind = .shared ∧ s.isMember g.sector c = true ∧ (s.sector g.sector).clash = .hook ∧
    holderOf (s.entry g.sector) ≠ some c ∧ c ∉ s.locksOf g.sector)

theorem barsTrolley_iff : s.barsTrolley c g = true ↔ s.BarsTrolley c g := by
  unfold State.barsTrolley State.BarsTrolley
  cases hk : g.kind with
  | own => simp
  | barred => simp
  | shared =>
    by_cases hm : s.isMember g.sector c = true
    · have hs := sharedSector_iff.mpr ⟨hk, rfl, hm⟩
      simp [hs, hm, State.holds, and_assoc]
    · have hs : s.sharedSector c g = none := if_neg fun h => hm h.2
      simp [hs, hm]

theorem trolleyDistance_outward :
    (s.BarsTrolley c g → s.evalRadius c < g.rLo → s.trolleyDistance c g true = some (g.rLo - s.evalRadius c)) ∧
    (¬ s.BarsTrolley c g ∨ g.rLo ≤ s.evalRadius c → s.trolleyDistance c g true = none) := by
  refine ⟨fun hb hr => (if_pos (barsTrolley_iff.mpr hb)).trans (if_pos hr), fun h => ?_⟩
  unfold State.trolleyDistance
  dsimp only
  split
  · next hb => exact if_neg (not_lt.mpr (h.resolve_left (not_not.mpr (barsTrolley_iff.mp hb))))
  · rfl

theorem trolleyDistance_inward :
    (s.BarsTrolley c g → g.rHi < s.evalRadius c → s.trolleyDistance c g false = some (s.evalRadius c - g.rHi)) ∧
    (¬ s.BarsTrolley c g ∨ s.evalRadius c ≤ g.rHi → s.trolleyDistance c g false = none) := by
  refine ⟨fun hb hr => (if_pos (barsTrolley_iff.mpr hb)).trans (if_pos hr), fun h => ?_⟩
  unfold State.trolleyDistance
  dsimp only
  split
  · next hb => exact if_neg (not_lt.mpr (h.resolve_left (not_not.mpr (barsTrolley_iff.mp hb))))
  · rfl

/-- R40: the segments whose floor the hook is above. -/
def State.Above (s : State) (c : Crane) (g : Segment) : Prop :=
  g.kind = .barred ∧ g.floor ≠ 0 ∧ g.rLo ≤ s.evalRadius c ∧ s.evalRadius c ≤ g.rHi ∧ g.floor ≤ s.evalHeight c

theorem hoistDistance_downward :
    (s.Above c g → s.hoistDistance c g = some (s.evalHeight c - g.floor)) ∧
    (¬ s.Above c g → s.hoistDistance c g = none) := by
  unfold State.hoistDistance State.Above
  simp only [inBand_iff, and_assoc]
  exact ⟨fun h => if_pos h, fun h => if_neg h⟩

/-! ### The contribution (R37, R41) -/

/-- R37: without a position and without a segment the contribution is 1000. -/
theorem zoneLimits_unplaced (h : (s.position c).state = .none ∨ (s.position c).state = .lost ∨ s.zone c = []) :
    s.zoneLimits c = fullLimits := by
  have hcurrent : s.current c = none := by
    refine Option.eq_none_iff_forall_ne_some.mpr fun i hi => ?_
    obtain ⟨g, hstate, hg, -⟩ := current_iff.mp hi
    rcases h with h | h | h <;> simp_all
  unfold State.zoneLimits
  rw [hcurrent]
  cases s.exitPlace c <;> rfl

theorem zoneLimits_exits (hg : s.StandsIn c i g) (he : s.ExitsFrom c g) : s.zoneLimits c = fullLimits := by
  obtain ⟨x, hx⟩ := Option.isSome_iff_exists.mp ((exitPlace_isSome_iff hg).mpr he)
  simp only [State.zoneLimits, hx]

theorem zoneLimits_stays (hg : s.StandsIn c i g) (he : ¬ s.ExitsFrom c g) :
    s.zoneLimits c =
      { slewPos := ramp (s.crane c).slew (s.slewDistance c i true)
        slewNeg := ramp (s.crane c).slew (s.slewDistance c i false)
        trolleyPos := ramp (s.crane c).trolley (s.trolleyDistance c g true)
        trolleyNeg := ramp (s.crane c).trolley (s.trolleyDistance c g false)
        hoistPos := 1000
        hoistNeg := ramp (s.crane c).hoist (s.hoistDistance c g) } := by
  have hx : s.exitPlace c = none := by
    rw [← Option.isNone_iff_eq_none, ← Option.isSome_eq_false_iff, ← Bool.not_eq_true, exitPlace_isSome_iff hg]
    exact he
  simp only [State.zoneLimits, hx, current_iff.mpr ⟨g, hg⟩, segmentAt_of_standsIn hg]

/-! ### Knocks (R52, R53) -/

theorem get_lowerLimits (l m : Limits) (a : Axis) (positive : Bool) :
    (lowerLimits l m).get a positive = min (l.get a positive) (m.get a positive) := by
  cases a <;> cases positive <;> rfl

theorem siteLimits_le (a : Axis) (positive : Bool) : s.siteLimits.get a positive ≤ 1000 := by
  unfold State.siteLimits
  split <;> cases a <;> cases positive <;> decide

/-- R52: where the reason is ZONE, ZONE is the first contribution to be the lowest, so it lies below SITE. -/
theorem zone_lt_of_reason {a : Axis} {d : Int} (h : reasonOf (s.contributions c) a d = .zone) :
    (s.zoneLimits c).get a (demandsPositive d) < 1000 := by
  unfold reasonOf at h
  dsimp only at h
  split at h
  · cases h
  · split at h
    · next x hx =>
      have hsite : s.siteLimits.get a (demandsPositive d) ≠
          (composeLimits (s.contributions c)).get a (demandsPositive d) := by
        intro he
        rw [State.contributions, List.find?_cons, ← State.contributions, he, beq_self_eq_true] at hx
        cases hx
        cases h
      have hle : (composeLimits (s.contributions c)).get a (demandsPositive d) ≤
          s.siteLimits.get a (demandsPositive d) := (get_lowerLimits _ _ _ _).trans_le (Nat.min_le_left _ _)
      have hbound := siteLimits_le (s := s) a (demandsPositive d)
      have hzone : ∀ y ∈ s.contributions c, y.1 = .zone → y.2 = s.zoneLimits c := by simp [State.contributions]
      have hval := List.find?_some hx
      rw [← hzone x (List.mem_of_find?_eq_some hx) h, beq_iff_eq.mp hval]
      omega
    · cases h

/-- R39, R53: ZONE holds the trolley back only in a segment that bars it. -/
theorem barsTrolley_of_zone_lt (hg : s.StandsIn c i g) {positive : Bool}
    (h : (s.zoneLimits c).get .trolley positive < 1000) : s.BarsTrolley c g := by
  by_contra hb
  have hlimit : (s.zoneLimits c).get .trolley positive = 1000 := by
    by_cases he : s.ExitsFrom c g
    · rw [zoneLimits_exits hg he]
      cases positive <;> rfl
    · rw [zoneLimits_stays hg he]
      cases positive with
      | true => exact congrArg (ramp _) (trolleyDistance_outward.2 (.inl hb))
      | false => exact congrArg (ramp _) (trolleyDistance_inward.2 (.inl hb))
  omega

theorem slewKnock_iff {forward : Bool} {k : Sector} :
    s.slewKnock c forward = some k ↔
      ∃ i g, s.StandsIn c i g ∧ ∃ j b, s.FirstBarrier c i forward j b ∧ b.kind = .shared ∧ b.sector = k := by
  unfold State.slewKnock
  constructor
  · intro h
    split at h
    · cases h
    · next i hi =>
      obtain ⟨g, hg⟩ := current_iff.mp hi
      split at h
      · cases h
      · next j hj =>
        obtain ⟨b, hb⟩ := slewBarrier_iff.mp hj
        rw [firstBarrier_segmentAt hb, sharedSector_iff] at h
        exact ⟨i, g, hg, j, b, hb, h.1, h.2.1⟩
  · rintro ⟨i, g, hg, j, b, hb, hk, rfl⟩
    have hbars : s.Bars c b := by
      obtain ⟨m, -, -, -, -, hbars, -⟩ := hb
      exact hbars
    simp only [current_iff.mpr ⟨g, hg⟩, slewBarrier_iff.mpr ⟨b, hb⟩, firstBarrier_segmentAt hb]
    exact sharedSector_iff.mpr ⟨hk, rfl, isMember_of_bars_shared hbars hk⟩

theorem trolleyKnock_iff {k : Sector} :
    s.trolleyKnock c = some k ↔
      ∃ i g, s.StandsIn c i g ∧ g.kind = .shared ∧ g.sector = k ∧ s.isMember k c = true := by
  unfold State.trolleyKnock
  constructor
  · intro h
    split at h
    · cases h
    · next i hi =>
      obtain ⟨g, hg⟩ := current_iff.mp hi
      rw [segmentAt_of_standsIn hg, sharedSector_iff] at h
      exact ⟨i, g, hg, h⟩
  · rintro ⟨i, g, hg, h⟩
    simp only [current_iff.mpr ⟨g, hg⟩, segmentAt_of_standsIn hg]
    exact sharedSector_iff.mpr h

theorem mem_knocksOf {demand : PerAxis Int} {reasons : PerAxis Reason} {k : Sector} :
    k ∈ s.knocksOf c demand reasons ↔
      ((demand.slew ≠ 0 ∧ reasons.slew = .zone) ∧ s.slewKnock c (demandsPositive demand.slew) = some k) ∨
      ((demand.trolley ≠ 0 ∧ reasons.trolley = .zone) ∧ s.trolleyKnock c = some k) := by
  have hmem (P : Prop) [Decidable P] (x : Option Sector) : k ∈ (if P then x.toList else []) ↔ P ∧ x = some k := by
    split <;> simp_all
  unfold State.knocksOf
  dsimp only
  rw [List.mem_append, List.mem_filter, hmem, hmem]
  by_cases hs : (demand.slew ≠ 0 ∧ reasons.slew = .zone) ∧ s.slewKnock c (demandsPositive demand.slew) = some k
  · exact iff_of_true (.inl hs) (.inl hs)
  · simp only [hs, false_or, List.contains_eq_mem, hmem, decide_false, Bool.not_false, and_true]

theorem knocksOf_nodup (demand : PerAxis Int) (reasons : PerAxis Reason) : (s.knocksOf c demand reasons).Nodup := by
  have hone (P : Prop) [Decidable P] (x : Option Sector) : (if P then x.toList else []).Nodup := by
    split
    · cases x <;> simp
    · simp
  refine (hone _ _).append ((hone _ _).filter _) fun k hk hk' => ?_
  simpa [hk] using (List.mem_filter.mp hk').2

/-- Settles O54: the limits are read off the current segment and the first barriers of the two scans; a reason ZONE lies
below 1000, so it comes with a barrier. -/
theorem zoneHoldsBack : Obligations.ZoneHoldsBack := by
  intro s c z p r h l x demand
  refine ⟨zoneLimits_unplaced, fun i g hg => ⟨zoneLimits_exits hg, fun he => ?_⟩, knocksOf_nodup _ _, fun k => ?_⟩
  · intro barring above
    have hl : l = _ := zoneLimits_stays hg he
    refine ⟨fun j b hb => ?_, fun hb => ?_, fun j b after hb ha => ?_, fun hb => ?_, fun hb hr => ?_, fun hb => ?_,
      fun hb hr => ?_, fun hb => ?_, by rw [hl], fun ha => ?_, fun ha => ?_⟩ <;> rw [hl]
    · rw [slewDistance_forward hb]; exact ramp_ramps _ _
    · rw [slewDistance_none hb]; rfl
    · rw [slewDistance_backward hb ha]; exact ramp_ramps _ _
    · rw [slewDistance_none hb]; rfl
    · rw [trolleyDistance_outward.1 hb hr]; exact ramp_ramps _ _
    · rw [trolleyDistance_outward.2 hb]; rfl
    · rw [trolleyDistance_inward.1 hb hr]; exact ramp_ramps _ _
    · rw [trolleyDistance_inward.2 hb]; rfl
    · rw [hoistDistance_downward.1 ha]; exact ramp_ramps _ _
    · rw [hoistDistance_downward.2 ha]; rfl
  · refine mem_knocksOf.trans ?_
    rw [slewKnock_iff, trolleyKnock_iff]
    constructor
    · rintro (⟨⟨hd, hr⟩, i, g, hg, hb⟩ | ⟨⟨hd, hr⟩, i, g, hg, hk, rfl, -⟩)
      · exact ⟨i, g, hg, .inl ⟨hd, hr, hb⟩⟩
      · obtain ⟨hk', -⟩ | ⟨-, -, -, hh, -⟩ := barsTrolley_of_zone_lt hg (zone_lt_of_reason hr)
        · cases hk.symm.trans hk'
        · exact ⟨i, g, hg, .inr ⟨hd, hr, hk, rfl, hh⟩⟩
    · rintro ⟨i, g, hg, ⟨hd, hr, hb⟩ | ⟨hd, hr, hk, rfl, -⟩⟩
      · exact .inl ⟨⟨hd, hr⟩, i, g, hg, hb⟩
      · obtain ⟨hk', -⟩ | ⟨-, hm, -⟩ := barsTrolley_of_zone_lt hg (zone_lt_of_reason hr)
        · cases hk.symm.trans hk'
        · exact .inr ⟨⟨hd, hr⟩, i, g, hg, hk, rfl, hm⟩

end Sys2Proof.Machine
end

/-! ## Limits composed, speeds and reasons (R35, R46, R47, R51, R52): O53 -/

section
namespace Sys2Proof.Machine

variable {s : State} {c : Crane} {cs : List (Reason × Limits)} {a : Axis} {positive : Bool} {d : Int}

/-! ### The lowest of the contributions (R51) -/

@[simp] theorem get_fullLimits (a : Axis) (positive : Bool) : fullLimits.get a positive = 1000 := by
  cases a <;> cases positive <;> rfl

@[simp] theorem get_zeroLimits (a : Axis) (positive : Bool) : zeroLimits.get a positive = 0 := by
  cases a <;> cases positive <;> rfl

theorem composeLimits_le {x : Reason × Limits} (h : x ∈ cs) : (composeLimits cs).get a positive ≤ x.2.get a positive := by
  induction cs with
  | nil => cases h
  | cons y ys ih =>
    refine (get_lowerLimits y.2 (composeLimits ys) a positive).trans_le ?_
    rcases List.mem_cons.mp h with rfl | h
    · exact Nat.min_le_left _ _
    · exact (Nat.min_le_right _ _).trans (ih h)

/-- The composed limit is one of the contributions', or the 1000 of none in force. -/
theorem composeLimits_attained (cs : List (Reason × Limits)) (a : Axis) (positive : Bool) :
    (composeLimits cs).get a positive = 1000 ∨ ∃ x ∈ cs, (composeLimits cs).get a positive = x.2.get a positive := by
  induction cs with
  | nil => exact .inl (get_fullLimits a positive)
  | cons y ys ih =>
    have hget : (composeLimits (y :: ys)).get a positive = min (y.2.get a positive) ((composeLimits ys).get a positive) :=
      get_lowerLimits _ _ _ _
    rw [hget]
    rcases min_choice (y.2.get a positive) ((composeLimits ys).get a positive) with h | h <;> rw [h]
    · exact .inr ⟨y, List.mem_cons_self, rfl⟩
    · exact ih.imp_right fun ⟨x, hx, he⟩ => ⟨x, List.mem_cons_of_mem _ hx, he⟩

/-- SITE is never above 1000, so the composed limit is always a contribution's. -/
theorem limit_contributed (s : State) (c : Crane) (a : Axis) (positive : Bool) :
    ∃ x ∈ s.contributions c, (s.compute c).limits.get a positive = x.2.get a positive := by
  rcases composeLimits_attained (s.contributions c) a positive with h | h
  · have hmem : (Reason.site, s.siteLimits) ∈ s.contributions c := List.mem_cons_self
    exact ⟨_, hmem, le_antisymm (composeLimits_le hmem) ((siteLimits_le a positive).trans_eq h.symm)⟩
  · exact h

/-- No contribution goes by the reason NONE. -/
theorem contribution_reason_ne_none {x : Reason × Limits} (h : x ∈ s.contributions c) : x.1 ≠ .none := by
  simp only [State.contributions, List.mem_cons, List.not_mem_nil, or_false] at h
  rcases h with rfl | rfl | rfl | rfl | rfl | rfl | rfl <;> nofun

/-! ### The permitted speed of an axis (R35, R51) -/

theorem permitOf_nonneg {pos neg : Nat} (h : 0 ≤ d) : permitOf d pos neg = min d pos := if_pos h

theorem permitOf_nonpos {pos neg : Nat} (h : d ≤ 0) : permitOf d pos neg = -min (-d) neg := by
  unfold permitOf
  split <;> omega

/-- The size of a permitted speed is the lower of the demand's and the limit in its direction. -/
theorem permitOf_natAbs (d : Int) (l : Limits) (a : Axis) :
    (permitOf d (l.get a true) (l.get a false)).natAbs = min d.natAbs (l.get a (decide (0 ≤ d))) := by
  by_cases h : 0 ≤ d
  · rw [permitOf_nonneg h, decide_eq_true h]; omega
  · rw [permitOf_nonpos (by omega), decide_eq_false h]; omega

theorem permitOf_eq_demand_iff (d : Int) (l : Limits) (a : Axis) :
    permitOf d (l.get a true) (l.get a false) = d ↔ d.natAbs ≤ l.get a (decide (0 ≤ d)) := by
  by_cases h : 0 ≤ d
  · rw [permitOf_nonneg h, decide_eq_true h]; omega
  · rw [permitOf_nonpos (by omega), decide_eq_false h]; omega

theorem speeds_on (s : State) (c : Crane) (a : Axis) :
    (s.compute c).speeds.on a = permitOf ((s.permit c).demand.on a) ((s.compute c).limits.get a true)
      ((s.compute c).limits.get a false) := by
  cases a <;> rfl

theorem reasons_on (s : State) (c : Crane) (a : Axis) :
    (s.compute c).reasons.on a = reasonOf (s.contributions c) a ((s.permit c).demand.on a) := by
  cases a <;> rfl

/-- R51: a contribution of 0 in every direction permits nothing. -/
theorem speeds_zero {x : Reason × Limits} (h : x ∈ s.contributions c) (hx : x.2 = zeroLimits) :
    (s.compute c).speeds = ⟨0, 0, 0⟩ := by
  have hzero (a : Axis) : (s.compute c).speeds.on a = 0 := by
    have hle : (s.compute c).limits.get a (decide (0 ≤ (s.permit c).demand.on a)) ≤ _ := composeLimits_le h
    rw [hx, get_zeroLimits] at hle
    rw [← Int.natAbs_eq_zero, speeds_on, permitOf_natAbs]
    omega
  calc (s.compute c).speeds
      = ⟨(s.compute c).speeds.on .slew, (s.compute c).speeds.on .trolley, (s.compute c).speeds.on .hoist⟩ := rfl
    _ = ⟨0, 0, 0⟩ := by rw [hzero, hzero, hzero]

/-! ### The reason of an axis (R52) -/

/-- R52: the reason of an axis that is held back is that of the first contribution equal to the limit. -/
theorem reasonOf_first (h : (s.compute c).limits.get a (decide (0 ≤ d)) < d.natAbs) :
    ∃ before l after, s.contributions c = before ++ (reasonOf (s.contributions c) a d, l) :: after ∧
      l.get a (decide (0 ≤ d)) = (s.compute c).limits.get a (decide (0 ≤ d)) ∧
      ∀ y ∈ before, y.2.get a (decide (0 ≤ d)) ≠ (s.compute c).limits.get a (decide (0 ≤ d)) := by
  obtain ⟨y, hy, he⟩ := limit_contributed s c a (decide (0 ≤ d))
  cases hf : (s.contributions c).find?
      (fun x => x.2.get a (demandsPositive d) == (composeLimits (s.contributions c)).get a (demandsPositive d)) with
  | none => exact absurd (beq_iff_eq.mpr he.symm) (List.find?_eq_none.mp hf y hy)
  | some x =>
    have hr : reasonOf (s.contributions c) a d = x.1 := (if_neg (not_le.mpr h)).trans (by rw [hf])
    obtain ⟨hx, before, after, hsplit, hbefore⟩ := List.find?_eq_some_iff_append.mp hf
    refine ⟨before, x.2, after, hr ▸ hsplit, beq_iff_eq.mp hx, fun z hz => ?_⟩
    exact bne_iff_ne.mp (hbefore z hz)

theorem reasonOf_eq_none_iff :
    reasonOf (s.contributions c) a d = .none ↔ d.natAbs ≤ (s.compute c).limits.get a (decide (0 ≤ d)) := by
  refine ⟨fun h => ?_, fun h => if_pos h⟩
  by_contra hlt
  obtain ⟨before, l, after, hsplit, -⟩ := reasonOf_first (not_le.mp hlt)
  rw [h] at hsplit
  exact contribution_reason_ne_none (x := (.none, l)) (hsplit ▸ List.mem_append_right _ List.mem_cons_self) rfl

/-! ### What permits nothing (R35, R46, R47) -/

/-- R46, R47: in CONFIG, under SITE HOLD, without a position and on the way to vane a contribution is 0. -/
theorem contributes_zero (h : s.mode = .config ∨ s.hold = true ∨ s.located c = false ∨
    (s.windOf c).state = .vanePending ∨ (s.windOf c).state = .vane) : ∃ x ∈ s.contributions c, x.2 = zeroLimits := by
  have hsite (hs : s.mode = .config ∨ s.hold = true) : ∃ x ∈ s.contributions c, x.2 = zeroLimits :=
    ⟨(.site, s.siteLimits), by simp [State.contributions], if_pos hs⟩
  have hwind (hw : s.windLimits c = zeroLimits) : ∃ x ∈ s.contributions c, x.2 = zeroLimits :=
    ⟨(.wind, s.windLimits c), by simp [State.contributions], hw⟩
  rcases h with h | h | h | h | h
  · exact hsite (.inl h)
  · exact hsite (.inr h)
  · exact ⟨(.posn, s.posnLimits c), by simp [State.contributions], if_neg (by simp [h])⟩
  · exact hwind (by rw [State.windLimits, h])
  · exact hwind (by rw [State.windLimits, h])

/-- Settles O53: a speed is the demand cut at the composed limit, which is the lowest contribution and is one of them; a
contribution of 0 leaves nothing. -/
theorem speedsStayWithinLimits : Obligations.SpeedsStayWithinLimits := by
  intro s c _ x demand
  refine ⟨fun a => ⟨fun hd => ?_, fun hd => ?_, fun reason l hl => ?_, ?_, fun hr => ?_⟩, rfl, fun h => ?_⟩
  · rw [speeds_on, permitOf_nonneg hd]
    exact ⟨le_min hd (Int.natCast_nonneg _), min_le_left _ _⟩
  · rw [speeds_on, permitOf_nonpos hd]
    exact ⟨by omega, by omega⟩
  · rw [speeds_on, permitOf_natAbs]
    exact (Nat.min_le_right _ _).trans (composeLimits_le hl)
  · rw [speeds_on, reasons_on, reasonOf_eq_none_iff]
    exact permitOf_eq_demand_iff _ _ _
  · rw [reasons_on] at hr ⊢
    have hheld := not_le.mp (mt reasonOf_eq_none_iff.mpr hr)
    obtain ⟨before, l, after, hsplit, hl, hbefore⟩ := reasonOf_first hheld
    refine ⟨before, l, after, hsplit, ?_, fun y hy => ?_⟩
    · rw [speeds_on, permitOf_natAbs, hl]
      exact Nat.min_eq_right hheld.le
    · rw [hl]
      exact lt_of_le_of_ne (composeLimits_le (hsplit ▸ List.mem_append_left _ hy)) (hbefore y hy).symm
  · obtain ⟨y, hy, hzero⟩ := contributes_zero h
    exact speeds_zero hy hzero

end Sys2Proof.Machine
end

/-! ## The permit records stay sound (R35, R51, R139, R142, R149): O11 -/

section
namespace Sys2Proof.Machine

variable {s t : State}

/-! ### What the records' soundness reads -/

/-- What `State.PermitsSound` asks of the permit record of a crane that is present or absent. -/
def PermitRecord.SoundFor (r : PermitRecord) (present : Bool) : Prop :=
  r.demand.WithinThousand ∧ r.last.WithinThousand ∧ r.refresh.isSome = present ∧ (present = false → r.timeout = none)

theorem permitsSound_iff : s.PermitsSound ↔ ∀ c, (s.permit c).SoundFor (s.crane c).present := Iff.rfl

/-- What `State.PermitsSound` reads: the crane records and the permit records. -/
def State.permitView (s : State) : Bank 8 CraneRecord × Bank 8 PermitRecord := (s.cranes, s.permits)

theorem State.PermitsSound.of_view (h : s.PermitsSound) (hv : t.permitView = s.permitView) : t.PermitsSound :=
  fun c => by
    rw [show t.permit c = s.permit c from congrArg (fun v => v.2.read c) hv,
      show t.crane c = s.crane c from congrArg (fun v => v.1.read c) hv]
    exact h c

/-- States that differ in one block's fields only, none of them a crane or permit record, have the same view. -/
theorem permitView_of_frame {blank : State → State} (hb : blank t = blank s)
    (hv : ∀ u, (blank u).permitView = u.permitView := by intro _; rfl) : t.permitView = s.permitView :=
  (hv t).symm.trans ((congrArg State.permitView hb).trans (hv s))

/-- A block that leaves the crane and permit records alone keeps the permit records sound. -/
theorem State.PermitsSound.of_frame {blank : State → State} (h : s.PermitsSound) (hb : blank t = blank s)
    (hv : ∀ u, (blank u).permitView = u.permitView := by intro _; rfl) : t.PermitsSound :=
  h.of_view (permitView_of_frame hb hv)

@[simp] theorem post_permitView (s : State) (b : EventBody) : (s.post b).permitView = s.permitView := by
  simp [State.permitView]

/-- One permit record replaced by a sound one. -/
theorem State.PermitsSound.setPermit (h : s.PermitsSound) {c : Crane} {r : PermitRecord}
    (hr : r.SoundFor (s.crane c).present) : (s.setPermit c r).PermitsSound := by
  refine permitsSound_iff.mpr fun d => ?_
  rw [State.setPermit_permit, State.setPermit_crane]
  split
  · next hd => exact hd ▸ hr
  · exact h d

/-! ### Demands and speeds in range (R35, R51) -/

theorem zero_withinThousand : (⟨0, 0, 0⟩ : PerAxis Int).WithinThousand := ⟨by decide, by decide, by decide⟩

theorem clampDemand_natAbs (d : Half) : (clampDemand d).natAbs ≤ 1000 := by
  unfold clampDemand
  omega

/-- R51: a permitted speed is no larger than the demand. -/
theorem speeds_withinThousand {c : Crane} (h : (s.permit c).demand.WithinThousand) :
    (s.compute c).speeds.WithinThousand := by
  have hle (a : Axis) : ((s.compute c).speeds.on a).natAbs ≤ ((s.permit c).demand.on a).natAbs := by
    rw [speeds_on, permitOf_natAbs]
    exact Nat.min_le_left _ _
  obtain ⟨hslew, htrolley, hhoist⟩ := h
  exact ⟨(hle .slew).trans hslew, (hle .trolley).trans htrolley, (hle .hoist).trans hhoist⟩

/-! ### Permits issued (R142 to R145) -/

/-- R142, R143: a permit issued to a present crane restarts its refresh timer. -/
theorem computeAndIssue_keepsPermits {c : Crane} (hp : (s.crane c).present = true) (h : s.PermitsSound) :
    (computeAndIssue c s).PermitsSound := by
  obtain ⟨hdemand, -, -, htimeout⟩ := h c
  have hset := h.setPermit (c := c)
    (r := { s.permit c with
      seq := (s.permit c).seq + 1, last := (s.compute c).speeds, refresh := some s.site.permitRefresh })
    ⟨hdemand, speeds_withinThousand hdemand, hp.symm, htimeout⟩
  exact hset.of_view rfl

theorem issueAll_keepsPermits (h : s.PermitsSound) : (issueAll s).PermitsSound := by
  have hboth : (issueAll s).PermitsSound ∧ (issueAll s).cranes = s.cranes := by
    refine List.foldlRecOn (motive := fun t : State => t.PermitsSound ∧ t.cranes = s.cranes) _ _ ⟨h, rfl⟩ ?_
    intro t ⟨ht, hcranes⟩ c hc
    have hp : (t.crane c).present = true := by
      rw [State.crane, hcranes]
      exact (List.mem_filter.mp hc).2
    have hkept : (computeAndIssue c t).cranes = t.cranes := by
      rw [frame_of_butPermits (computeAndIssue_butPermits c t)]
    exact ⟨computeAndIssue_keepsPermits hp ht, hkept.trans hcranes⟩
  exact hboth.1

/-- R140: the demand of record of a present crane, clamped. -/
theorem takeDemand_keepsPermits {c : Crane} (f : DemandFrame) (hp : (s.crane c).present = true) (h : s.PermitsSound) :
    (takeDemand c f s).PermitsSound := by
  obtain ⟨-, hlast, hrefresh, -⟩ := h c
  unfold takeDemand
  dsimp only
  split
  · refine computeAndIssue_keepsPermits hp (h.setPermit ⟨⟨?_, ?_, ?_⟩, hlast, hrefresh, fun he => ?_⟩)
    · exact clampDemand_natAbs _
    · exact clampDemand_natAbs _
    · exact clampDemand_natAbs _
    · rw [hp] at he; cases he
  · exact h

/-- R141: the demand timeout leaves a demand of zero. -/
theorem expireDemand_keepsPermits (c : Crane) (h : s.PermitsSound) : (expireDemand c s).PermitsSound := by
  obtain ⟨-, hlast, hrefresh, -⟩ := h c
  unfold expireDemand
  dsimp only
  split
  · exact h
  · exact h.setPermit ⟨zero_withinThousand, hlast, hrefresh, fun _ => rfl⟩

/-- R142: only the refresh timer of a present crane runs, so only its expiry issues a permit. -/
theorem expireRefresh_keepsPermits (c : Crane) (h : s.PermitsSound) : (expireRefresh c s).PermitsSound := by
  obtain ⟨-, -, hrefresh, -⟩ := h c
  unfold expireRefresh
  split
  · exact h
  · next hrun => exact computeAndIssue_keepsPermits (hrefresh.symm.trans (Option.isSome_iff_ne_none.mpr hrun)) h

theorem takeLimitNotice_keepsPermits (c : Crane) (h : s.PermitsSound) : (takeLimitNotice c s).PermitsSound := by
  unfold takeLimitNotice
  dsimp only
  split
  · next hp =>
    split
    · exact computeAndIssue_keepsPermits hp h
    · exact h.of_view rfl
  · exact h

/-- R145: SITE HOLD issues a permit to every present crane. -/
theorem assertHold_keepsPermits (h : s.PermitsSound) : (assertHold s).PermitsSound := by
  unfold assertHold
  split
  · exact h
  · exact issueAll_keepsPermits (h.of_view (post_permitView _ _))

/-! ### Ticks and resets -/

/-- R142: a tick runs the timers down and neither starts nor stops one. -/
theorem runTickTimers_keepsPermits (h : s.PermitsSound) : (runTickTimers s).PermitsSound := by
  refine permitsSound_iff.mpr fun c => ?_
  have hpermit : (runTickTimers s).permit c =
      { s.permit c with timeout := runDown (s.permit c).timeout, refresh := runDown (s.permit c).refresh } :=
    Bank.read_update _ _ _
  obtain ⟨hdemand, hlast, hrefresh, htimeout⟩ := h c
  rw [hpermit]
  exact ⟨hdemand, hlast, Option.isSome_map.trans hrefresh, fun hp => congrArg runDown (htimeout hp)⟩

theorem sampleHold_permitView (low : Bool) (s : State) : (sampleHold low s).permitView = s.permitView := by
  unfold sampleHold
  dsimp only
  repeat' split
  all_goals rfl

theorem takeTick_keepsPermits (holdLow : Bool) (h : s.PermitsSound) : (takeTick holdLow s).PermitsSound := by
  have hrun : (runTickTimers { s with cycles := 0, divisor := s.site.tickDivisor }).PermitsSound :=
    runTickTimers_keepsPermits (h.of_view rfl)
  refine hrun.of_view ((sampleHold_permitView _ _).trans ?_)
  split <;> rfl

/-- A device in reset has every crane absent and every permit record at its reset value (R139). -/
theorem cleared_permitsSound (h : t.permitView = State.cleared.permitView) : t.PermitsSound := by
  have hc : State.cleared.PermitsSound := fun c => by
    simp only [State.permit, State.crane, State.cleared, Bank.read_fill]
    exact ⟨zero_withinThousand, zero_withinThousand, rfl, fun _ => rfl⟩
  exact hc.of_view h

theorem takeReset_keepsPermits (trigger : ResetTrigger) (h : s.PermitsSound) : (takeReset trigger s).PermitsSound := by
  unfold takeReset
  dsimp only
  repeat' split
  · exact cleared_permitsSound rfl
  · exact cleared_permitsSound rfl
  · exact cleared_permitsSound rfl
  · exact h.of_view rfl

/-! ### Crane records (R139, R149) -/

/-- A crane record replaced, with its permit record sound for it afterwards. -/
theorem State.PermitsSound.setCrane (h : s.PermitsSound) {c : Crane} {x : CraneRecord} {r : PermitRecord}
    (hv : t.permitView = (s.cranes.write c x, s.permits.write c r)) (hr : r.SoundFor x.present) : t.PermitsSound := by
  refine State.PermitsSound.of_view (s := (s.setCrane c x).setPermit c r) (permitsSound_iff.mpr fun d => ?_) hv
  rw [State.setPermit_permit, State.setPermit_crane, State.setCrane_crane]
  split
  · exact hr
  · exact h d

/-- R139, R149: the timers of a crane made absent stop; one that was absent has them stopped. -/
theorem makeAbsent_keepsPermits (c : Crane) (h : s.PermitsSound) : (makeAbsent c s).PermitsSound := by
  have hview : (makeAbsent c s).permitView = (s.dropped c).permitView := by
    have hu := makeAbsent_frame c s
    generalize makeAbsent c s = u at hu
    rw [hu]
    rfl
  obtain ⟨hdemand, hlast, hrefresh, htimeout⟩ := h c
  cases hp : (s.crane c).present with
  | true =>
    refine h.setCrane (c := c) (x := .absent) (r := absentPermit (s.permit c)) (hview.trans ?_)
      ⟨zero_withinThousand, zero_withinThousand, rfl, fun _ => rfl⟩
    exact congrArg (Prod.mk _) (if_pos hp)
  | false =>
    refine h.setCrane (c := c) (x := .absent) (r := s.permit c) (hview.trans ?_)
      ⟨hdemand, hlast, hrefresh.trans hp, fun _ => htimeout hp⟩
    exact congrArg (Prod.mk _) ((if_neg (by simp [hp])).trans (Bank.write_read _ _).symm)

/-- R139, R142: the refresh timer of a crane made present starts; one that was present has it running. -/
theorem makePresent_keepsPermits (c : Crane) {r : CraneRecord} (hr : r.present = true) (h : s.PermitsSound) :
    (makePresent c r s).PermitsSound := by
  have hview : (makePresent c r s).permitView = (s.recorded c r).permitView := by
    have hu := makePresent_frame c r s
    generalize makePresent c r s = u at hu
    rw [hu]
    rfl
  obtain ⟨hdemand, hlast, hrefresh, -⟩ := h c
  have hnot {p : Prop} (he : r.present = false) : p := absurd (hr.symm.trans he) (by decide)
  cases hp : (s.crane c).present with
  | true =>
    refine h.setCrane (c := c) (x := r) (r := s.permit c) (hview.trans ?_)
      ⟨hdemand, hlast, (hrefresh.trans hp).trans hr.symm, hnot⟩
    exact congrArg (Prod.mk _) ((if_pos hp).trans (Bank.write_read _ _).symm)
  | false =>
    refine h.setCrane (c := c) (x := r) (r := presentPermit s.site.permitRefresh (s.permit c)) (hview.trans ?_)
      ⟨zero_withinThousand, zero_withinThousand, hr.symm, hnot⟩
    exact congrArg (Prod.mk _) (if_neg (by simp [hp]))

/-- R4: a record that WRITE_CRANE accepts is that of a present crane. -/
theorem readCraneRecord_present {fields : List Nat} {r : CraneRecord} (h : readCraneRecord fields = some r) :
    r.present = true := by
  unfold readCraneRecord at h
  split at h
  · dsimp only at h
    split at h
    · cases h
    · split at h
      · cases h; rfl
      · cases h
  · cases h

/-! ### Operations, notices and commands -/

/-- No operation breaks the soundness of a permit record. -/
theorem Operates.keepsPermits (ho : Operates s t) (h : s.PermitsSound) : t.PermitsSound := by
  cases ho with
  | same => exact h
  | site => exact h.of_view rfl
  | absent c => exact makeAbsent_keepsPermits c h
  | present c fields r _ hr => exact makePresent_keepsPermits c (readCraneRecord_present hr) h
  | assembly => exact h.of_view rfl
  | zone c z => exact h.of_view ((permitView_of_frame (recomputePresence_butPositions _ _ _)).trans rfl)
  | sector k r =>
    have members (skip : Option Sector) :
        (recomputeMembers k (s.sector k).members skip (s.setSector k r)).permitView = s.permitView :=
      (permitView_of_frame (recomputeMembers_butPositions _ _ _ _)).trans rfl
    refine h.of_view ?_
    unfold putSector
    dsimp only
    split <;> exact members _
  | profile n p =>
    exact h.of_view (foldl_keeps State.permitView (fun t c => t.setWind c (restartCounting (t.windOf c)))
      (fun _ _ => rfl) _ _)
  | pattern cond p => exact h.of_view ((permitView_of_frame (State.restartShowing_butGenerators _ _)).trans rfl)
  | arm =>
    refine h.of_view ?_
    rw [armSite, post_permitView, permitView_of_frame (armBookings_butArming _),
      permitView_of_frame (setUpSectors_butEntries _)]
    rfl
  | disarm =>
    have hcleared : (disarmBookings (clearSectors { s with mode := .config })).PermitsSound := by
      refine h.of_view ?_
      rw [permitView_of_frame (disarmBookings_butArming _), permitView_of_frame (clearSectors_butEntries _)]
      rfl
    exact (issueAll_keepsPermits hcleared).of_view (post_permitView _ _)
  | clock n => exact h.of_view ((permitView_of_frame (evaluateWindows_butBookings _ _)).trans rfl)
  | mask => exact h.of_view rfl
  | book b => exact h.of_frame (addBooking_butBookings _ _)
  | cancel id => exact h.of_frame (cancelBooking_butBookings _ _)
  | purge => exact h.of_view rfl
  | close k => exact h.of_frame (closeSector_butEntries _ _)
  | openUp k => exact h.of_frame (openSector_butEntries _ _)
  | vane c => exact h.of_frame (enterVanePending_butWinds _ _ _)
  | resume c => exact h.of_frame (resumeCrane_butWinds _ _)

/-- A good frame keeps the permit records sound; of the frames of a crane link only a DEMAND frame changes one. -/
theorem takeFrame_keepsPermits (f : GoodFrame) (h : s.PermitsSound) : (takeFrame f s).PermitsSound := by
  have handed (c : Crane) (g : State → State) (hg : (s.crane c).present = true → (g s).PermitsSound) :
      (handOn c g s).PermitsSound := by
    unfold handOn
    split
    · next hp => exact hg hp
    · exact h.of_view rfl
  cases f with
  | motion c m => exact handed _ _ fun _ => h.of_frame (takeMotion_butPositions _ _ _)
  | wind c w => exact handed _ _ fun _ => h.of_frame (takeWind_butWinds _ _ _)
  | demand c d => exact handed _ _ fun hp => takeDemand_keepsPermits d hp h
  | request tag code ops =>
    rcases takeRequest_cases tag code ops s with he | ⟨t, reply, ht, he⟩
    · rw [takeFrame, he]; exact h
    · rw [takeFrame, he]; exact (ht.keepsPermits h).of_view rfl

theorem expire_keepsPermits (e : Expiry) (h : s.PermitsSound) : (expire e s).PermitsSound := by
  cases e with
  | demandTimeout c => exact expireDemand_keepsPermits c h
  | refresh c => exact expireRefresh_keepsPermits c h
  | positionStale c => exact h.of_frame (expirePosition_butPositions _ _)
  | windStale c => exact h.of_frame (expireWindStale_butWinds _ _)
  | keep k c => exact h.of_frame (expireKeep_butEntries _ _ _)
  | clearing k => exact h.of_frame (expireClearing_butEntries _ _)
  | hold k => exact h.of_frame (expireHold_butEntries _ _)
  | recovery c => exact h.of_frame (expireRecovery_butWinds _ _)
  | vaneDelay c => exact h.of_frame (expireVaneDelay_butWinds _ _)
  | vaneTimeout c => exact h.of_frame (expireVaneTimeout_butWinds _ _)
  | phaseEnd n => exact h.of_frame (State.endPhase_butGenerators _ _)

/-- No notice breaks the soundness of a permit record. -/
theorem takeNotice_keepsPermits (n : Notice) (s : State) (h : s.PermitsSound) : (takeNotice n s).PermitsSound := by
  cases n with
  | frame f => exact takeFrame_keepsPermits f h
  | limit c => exact takeLimitNotice_keepsPermits c h
  | holdAsserted => exact assertHold_keepsPermits h
  | expiry e =>
    rw [takeNotice]
    split
    · exact expire_keepsPermits e h
    · exact h
  | presence k c ch => exact h.of_frame (reportPresence_butEntries _ _ _ _)
  | knock k c => exact h.of_frame (knockSector_butEntries _ _ _)
  | claimant k left cl => exact h.of_frame (changeClaimant_butEntries _ _ _ _)
  | lock k c => exact h.of_frame (lockSector_butEntries _ _ _)
  | unlock k c => exact h.of_frame (unlockSector_butEntries _ _ _)
  | liftCount id => exact h.of_frame (takeLiftCount_butBookings _ _)
  | loadSample c x => exact h.of_frame (takeSample_butDetectors _ _ _)
  | motionTaken c => exact h.of_frame (takeMotionNotice_butWinds _ _)
  | evaluation c => exact h.of_frame (takeEvaluation_butWinds _ _)
  | craneCondition c => exact h.of_frame (takeCraneCondition_butBookings _ _)
  | handshake k => exact h.of_frame (takeHandshake_butWinds _ _)
  | beacon c cond => exact h.of_frame (State.showCondition_butGenerators _ _ _)
  | clockAdvance =>
    rw [takeNotice, advanceClock]
    split <;> exact h.of_view rfl
  | minuteBoundary => exact h.of_frame (evaluateWindows_butBookings _ _)
  | holdReleased =>
    rw [takeNotice, releaseHold]
    split
    · exact h.of_view (post_permitView _ _)
    · exact h
  | tickDone => exact h

/-- No command breaks the soundness of a permit record. -/
theorem Acts.keepsPermits (ha : Acts s t) (h : s.PermitsSound) : t.PermitsSound := by
  have rescanned (l : Link) (stored : List Byte) {u : State} (hu : u.permitView = s.permitView) :
      (rescanOctets l stored u).PermitsSound :=
    h.of_view ((congrArg State.permitView (rescanOctets_frame l stored u)).trans hu)
  cases ha with
  | frame f => exact takeFrame_keepsPermits f (h.of_view rfl)
  | unknown tag code =>
    unfold request answerRequest
    split <;> exact h.of_view rfl
  | notice n => exact takeNotice_keepsPermits n s h
  | expiry e => exact expire_keepsPermits e h
  | misdirected l => exact h.of_view rfl
  | length l kind len => exact rescanned l _ rfl
  | crc l octets => exact rescanned l _ rfl
  | permitSent c => unfold completePermit; split <;> exact h.of_view rfl
  | begins =>
    unfold beginSending
    split
    · exact h
    · split <;> exact h.of_view rfl
  | replySent => unfold completeReply; split <;> exact h.of_view rfl
  | eventSent => unfold completeEvent; split <;> exact h.of_view rfl
  | posting b => exact h.of_view (post_permitView _ _)
  | lift c => exact h.of_frame (attributeLift_butEntries _ _)
  | tick holdLow => exact takeTick_keepsPermits holdLow h
  | reset trigger => exact takeReset_keepsPermits trigger h
  | resetEnd =>
    unfold endReset
    split
    · exact h
    · exact cleared_permitsSound rfl

/-- Settles O11: a permit record changes by a demand, a permit issued to a present crane, a tick, a crane record written
and a reset, and each leaves it in range and its timers as the crane's presence calls for. -/
theorem permitsStaySound : Obligations.PermitsStaySound := fun _ _ hs h =>
  step_keeps State.PermitsSound (fun _ _ h => h.of_view rfl) (fun _ _ h => h.of_view rfl) takeNotice_keepsPermits
    (fun i s hs => (effect_acts i s).keepsPermits hs) hs h

end Sys2Proof.Machine
end

/-! ## What issues a permit (R140 to R144): O58 -/

section
namespace Sys2Proof.Machine

variable {s : State} {c : Crane}

/-- R144: on some axis the new limit, in the direction of the speed last permitted, lies below that speed. -/
def Limits.FallenBelow (l : Limits) (last : PerAxis Int) : Prop :=
  ∃ a : Axis, last.on a ≠ 0 ∧ ((l.get a (decide (0 < last.on a)) : Nat) : Int) < (last.on a).natAbs

theorem urgentTest_iff {x : Computation} {last : PerAxis Int} :
    urgentTest x last = true ↔ x.limits.FallenBelow last := by
  have hfallen (a : Axis) : fallen x.limits a (last.on a) = true ↔
      last.on a ≠ 0 ∧ ((x.limits.get a (decide (0 < last.on a)) : Nat) : Int) < (last.on a).natAbs := by
    rw [fallen, Bool.and_eq_true, decide_eq_true_eq, decide_eq_true_eq, Int.ofNat_lt]
  unfold Limits.FallenBelow
  simp only [← hfallen]
  constructor
  · intro h
    rcases Bool.or_eq_true_iff.mp h with h | h
    · rcases Bool.or_eq_true_iff.mp h with h | h
      · exact ⟨.slew, h⟩
      · exact ⟨.trolley, h⟩
    · exact ⟨.hoist, h⟩
  · rintro ⟨a, h⟩
    unfold urgentTest
    cases a with
    | slew => rw [show fallen x.limits .slew last.slew = true from h]; rfl
    | trolley => rw [show fallen x.limits .trolley last.trolley = true from h, Bool.or_true]; rfl
    | hoist => rw [show fallen x.limits .hoist last.hoist = true from h, Bool.or_true]

/-- R140: an accepted DEMAND frame becomes the demand of record, and a permit is issued for it. -/
theorem takeDemand_accepted {f : DemandFrame} (h : seqAccepted (s.permit c).seqRef f.seq = true) :
    takeDemand c f s = computeAndIssue c (s.setPermit c
      { s.permit c with
        seqRef := some f.seq, echoed := f.seq,
        demand := ⟨clampDemand f.slew, clampDemand f.trolley, clampDemand f.hoist⟩, demandStale := false,
        timeout := some s.site.demandTimeout }) :=
  if_pos h

/-- R144: a limit notice of a present crane issues the permit of its computation when a limit has fallen. -/
theorem takeLimitNotice_urgent (hp : (s.crane c).present = true)
    (hu : (s.compute c).limits.FallenBelow (s.permit c).last) : takeLimitNotice c s = computeAndIssue c s :=
  (if_pos hp).trans (if_pos (urgentTest_iff.mpr hu))

/-- R53, R144: otherwise it sends the knocks of its computation alone (log 11). -/
theorem takeLimitNotice_calm (hp : (s.crane c).present = true)
    (hu : ¬ (s.compute c).limits.FallenBelow (s.permit c).last) :
    takeLimitNotice c s = s.send ((s.compute c).knocks.map (fun k => .knock k c)) :=
  (if_pos hp).trans (if_neg (mt urgentTest_iff.mp hu))

/-- Settles O58: an accepted demand, a running refresh timer and a fallen limit each lead to `computeAndIssue`, whose
permit is the one stated; the demand timeout and the other limit notices do not. -/
theorem permitsIssued : Obligations.PermitsIssued := by
  intro s c h r clamp last limits urgent
  refine ⟨fun f hp hseq => ?_, fun hstopped => ?_, fun hruns => ?_, fun hstopped => ?_, fun hruns => ?_, fun hp => ?_,
    fun hp hu => ?_, fun hp hu => ?_⟩
  · have htaken := takeDemand_accepted (s := s.hunting (linkOf c)) (c := c) (f := f) (seqAccepted_newer hseq)
    exact ⟨_, (exec_demand h c f).trans (congrArg _ ((if_pos hp).trans htaken)), computeAndIssue_issues _ c⟩
  · exact (exec_refreshExpiry h c).trans (congrArg _ (if_pos hstopped))
  · exact ⟨_, (exec_refreshExpiry h c).trans (congrArg _ (if_neg hruns)), computeAndIssue_issues s c⟩
  · exact (exec_demandTimeoutExpiry h c).trans (congrArg _ (if_pos hstopped))
  · exact (exec_demandTimeoutExpiry h c).trans (congrArg _ (if_neg hruns))
  · exact (exec_limitNotice h c).trans (congrArg _ (if_neg (by simp [hp])))
  · exact ⟨_, (exec_limitNotice h c).trans (congrArg _ (takeLimitNotice_urgent hp hu)), computeAndIssue_issues s c⟩
  · exact (exec_limitNotice h c).trans (congrArg _ (takeLimitNotice_calm hp hu))

end Sys2Proof.Machine
end

/-! ## The terms of a sector's entry (R45, R54, R55, R57, R59, R68, R72, R133): O36 -/

section
namespace Sys2Proof.Machine

variable {e : SectorEntry} {c : Crane}

/-! ### Holder, owner and grant record (R54) -/

theorem holderOf_iff : holderOf e = some c ↔ ∃ g, e.base = .held c g := by
  unfold holderOf
  cases e.base <;> simp

theorem ownerOf_iff :
    ownerOf e = some c ↔ (∃ g, e.base = .held c g) ∨ ∃ g left, e.base = .clearing c g left := by
  unfold ownerOf
  cases e.base <;> simp

theorem grantOf_iff {g : Grant} :
    grantOf e = some g ↔ (∃ h, e.base = .held h g) ∨ ∃ f left, e.base = .clearing f g left := by
  unfold grantOf
  cases e.base <;> simp

/-! ### The grant record changed, and its yield flag cleared (R68) -/

theorem mapGrant_held {change : Grant → Grant} {h : Crane} {g : Grant} (hb : e.base = .held h g) :
    mapGrant change e = { e with base := .held h (change g) } := by
  rw [mapGrant, hb]

theorem mapGrant_clearing {change : Grant → Grant} {f : Crane} {g : Grant} {left : Nat}
    (hb : e.base = .clearing f g left) : mapGrant change e = { e with base := .clearing f (change g) left } := by
  rw [mapGrant, hb]

theorem mapGrant_none {change : Grant → Grant} (hg : grantOf e = none) : mapGrant change e = e := by
  obtain ⟨base, queue, locks, closed, presence, obstruction, claimant⟩ := e
  cases base with
  | free => rfl
  | contested => rfl
  | held h g => cases hg
  | clearing f g left => cases hg

theorem clearIdleYield_waiting (h : hasWaiter e = true) : clearIdleYield e = e := if_pos h

theorem clearIdleYield_idle (h : hasWaiter e = false) :
    clearIdleYield e = mapGrant (fun g => { g with yielding := none }) e :=
  if_neg (by simp [h])

/-! ### Its state and its lock set (R55, R72) -/

theorem lockSet_eq_nil_iff (clash : ClashKind) : lockSet clash e = [] ↔ e.locks = [] := by
  cases clash <;> simp [lockSet]

theorem stateOf_closed (clash : ClashKind) (h : e.closed = true) : stateOf clash e = .closed := if_pos h

theorem stateOf_locked (clash : ClashKind) (h : e.closed = false) (hl : e.locks ≠ []) : stateOf clash e = .locked :=
  (if_neg (by simp [h])).trans (if_pos (mt (lockSet_eq_nil_iff clash).mp hl))

theorem stateOf_base (clash : ClashKind) (h : e.closed = false) (hl : e.locks = []) :
    stateOf clash e = baseState e :=
  (if_neg (by simp [h])).trans (if_neg (not_not.mpr ((lockSet_eq_nil_iff clash).mpr hl)))

/-! ### Waiters and intruders (R45, R59) -/

theorem hasWaiter_iff :
    hasWaiter e = true ↔ e.queue ≠ [] ∨ ∃ cl, e.claimant = some cl ∧ ownerOf e ≠ some cl.crane := by
  unfold hasWaiter
  cases e.claimant <;> simp

theorem intruded_iff : intruded e = some c ↔ (∃ g, e.base = .held c g) ∧ ∃ d ∈ e.presence, d ≠ c := by
  rw [← holderOf_iff, intruded]
  cases holderOf e with
  | none => simp
  | some h =>
    simp only [List.any_eq_true, bne_iff_ne, Option.ite_none_right_eq_some, Option.some.injEq]
    constructor
    · rintro ⟨hd, rfl⟩
      exact ⟨rfl, hd⟩
    · rintro ⟨rfl, hd⟩
      exact ⟨hd, rfl⟩

theorem queued_iff : queued e c = true ↔ ∃ q ∈ e.queue, q.crane = c := by
  simp [queued]

/-- Settles O36: each term is read off the entry's base state, queue, locks and claimant. -/
theorem sectorTermsMean : Obligations.SectorTermsMean := by
  refine ⟨fun e => ⟨fun h => holderOf_iff, fun o => ownerOf_iff, fun g => grantOf_iff, fun clash =>
      ⟨stateOf_closed clash, stateOf_locked clash, fun h hl => ?_⟩,
    rfl, (lockSet_eq_nil_iff .jib).mpr, fun first later hl => by rw [lockSet, hl]; rfl, hasWaiter_iff,
    clearIdleYield_waiting, fun h => ?_, fun change => ⟨fun _ _ => mapGrant_held, fun _ _ _ => mapGrant_clearing,
      mapGrant_none⟩, fun h => intruded_iff, fun c => ⟨queued_iff, rfl⟩⟩, fun s k => ⟨rfl, rfl, ?_⟩⟩
  · rw [stateOf_base clash h hl, baseState]
    refine ⟨fun hb => ?_, fun hb => ?_, fun _ _ hb => ?_, fun _ _ _ hb => ?_⟩ <;> rw [hb]
  · rw [clearIdleYield_idle h]
    exact ⟨fun _ _ => mapGrant_held, fun _ _ _ => mapGrant_clearing, mapGrant_none⟩
  · refine List.filter_congr fun d _ => ?_
    simp [Bool.decide_and]

end Sys2Proof.Machine
end

/-! ## The contributions but EXIT and ZONE, no-pick and the limits (R34, R46 to R51): O56 -/

section
namespace Sys2Proof.Machine

variable {s : State} {c : Crane}

/-! ### No-pick (R49) -/

/-- R49: the crane is present in a sector it holds whose yield or overstay flag is set. -/
theorem inFlaggedSector_iff : s.inFlaggedSector c = true ↔
    ∃ k g, (s.position c).present = some k ∧ (s.entry k).base = .held c g ∧
      (g.yielding ≠ none ∨ g.overstay = true) := by
  unfold State.inFlaggedSector
  cases (s.position c).present with
  | none => simp
  | some k =>
    simp only [Bool.and_eq_true, holds_iff, Option.some.injEq]
    constructor
    · rintro ⟨⟨g, hg⟩, hf⟩
      simp only [grantOf, hg, Bool.or_eq_true, Option.isSome_iff_ne_none] at hf
      exact ⟨k, g, rfl, hg, hf⟩
    · rintro ⟨_, g, rfl, hg, hf⟩
      simp only [grantOf, hg, Bool.or_eq_true, Option.isSome_iff_ne_none]
      exact ⟨⟨g, rfl⟩, hf⟩

/-- R37, R42: a crane has a place to exit exactly when it is an exit crane. -/
theorem exits_iff : (s.exitPlace c).isSome = true ↔ ∃ i g, s.StandsIn c i g ∧ s.ExitsFrom c g := by
  constructor
  · intro h
    cases hi : s.current c with
    | none => simp [State.exitPlace, hi] at h
    | some i =>
      obtain ⟨g, hg⟩ := current_iff.mp hi
      exact ⟨i, g, hg, (exitPlace_isSome_iff hg).mp h⟩
  · rintro ⟨i, g, hg, he⟩
    exact (exitPlace_isSome_iff hg).mpr he

theorem noPick_iff : s.noPick c = true ↔ s.UnderNoPick c := by
  unfold State.noPick State.UnderNoPick
  rw [Bool.or_eq_true, Bool.or_eq_true, beq_iff_eq, inFlaggedSector_iff, exits_iff, or_assoc]

/-- R49: no-pick takes the hoist's upward limit while the detector is PICKING. -/
theorem withNoPick_picking {condition : Bool} {l : Limits} (h : condition = true)
    (hp : (s.detector c).state = .picking) : s.withNoPick c condition l = { l with hoistPos := 0 } := by
  simp [State.withNoPick, State.picking, h, hp]

theorem withNoPick_else {condition : Bool} {l : Limits} (h : condition = false ∨ (s.detector c).state ≠ .picking) :
    s.withNoPick c condition l = l := by
  refine if_neg ?_
  rcases h with h | h <;> simp [State.picking, h]

/-! ### POSN, WIND, SECT and BOOK (R46, R47, R48, R50) -/

theorem located_of_unplaced (h : (s.position c).state = .none ∨ (s.position c).state = .lost) :
    s.located c = false := by
  rcases h with h | h <;> simp [State.located, h]

/-- R46: without a position POSN permits nothing. -/
theorem posnLimits_unplaced (h : (s.position c).state = .none ∨ (s.position c).state = .lost) :
    s.posnLimits c = zeroLimits :=
  if_neg (by simp [located_of_unplaced h])

/-- R47, R49: in STOP the stop caps are the limits, under no-pick. -/
theorem windLimits_stop (h : (s.windOf c).state = .stop) :
    s.windLimits c = { capLimits (s.profileOf c).stopCaps with
      hoistPos := if (s.detector c).state = .picking then 0 else (s.profileOf c).stopCaps.hoist } := by
  simp only [State.windLimits, h]
  split
  · next hp => exact withNoPick_picking rfl hp
  · next hp => exact withNoPick_else (.inr hp)

/-- R48: the crane holds a sector whose overstay flag is set. -/
theorem overstays_iff : s.overstays c = true ↔ ∃ k g, (s.entry k).base = .held c g ∧ g.overstay = true := by
  simp only [State.overstays, State.heldBy, List.any_eq_true, List.mem_filter, mem_allSectors, true_and, holds_iff]
  constructor
  · rintro ⟨k, ⟨g, hg⟩, ho⟩
    simp only [grantOf, hg] at ho
    exact ⟨k, g, hg, ho⟩
  · rintro ⟨k, g, hg, ho⟩
    exact ⟨k, ⟨g, hg⟩, by simpa only [grantOf, hg] using ho⟩

theorem overloadedSector_isSome_iff {load : Nat} : (s.overloadedSector c load).isSome = true ↔
    ∃ k id m, s.bookedMax c k = some (id, m) ∧ m < load := by
  have hfind : s.overloadedSector c load = allSectors.findSome? (s.overloadIn c load) := rfl
  rw [hfind, List.findSome?_isSome_iff]
  simp only [mem_allSectors, true_and, Option.isSome_iff_exists, overloadIn_iff]
  constructor
  · rintro ⟨k, _, id, m, hb, hm, -⟩
    exact ⟨k, id, m, hb, hm⟩
  · rintro ⟨k, id, m, hb, hm⟩
    exact ⟨k, _, id, m, hb, hm, rfl⟩

/-- R50: a held or picked load exceeds the max load of the booking under which the crane holds some sector. -/
def State.Overloaded (s : State) (c : Crane) : Prop :=
  ((s.detector c).state = .picking ∨ (s.detector c).state = .loaded) ∧
    ∃ k g id b, (s.entry k).base = .held c g ∧ g.kind = .booked id ∧
      s.bookings.find? (fun b => b.id == id) = some b ∧ 0 < b.maxLoad ∧ b.maxLoad < (s.position c).load

theorem overloaded_iff : s.Overloaded c ↔
    ((s.detector c).state = .picking ∨ (s.detector c).state = .loaded) ∧
      (s.overloadedSector c (s.position c).load).isSome = true := by
  simp only [State.Overloaded, overloadedSector_isSome_iff, bookedMax_iff]
  refine and_congr_right fun _ => exists_congr fun k => ?_
  constructor
  · rintro ⟨g, id, b, hg, hk, hb, hpos, hm⟩
    exact ⟨id, b.maxLoad, ⟨g, b, hg, hk, hb, rfl, hpos⟩, hm⟩
  · rintro ⟨id, m, ⟨g, b, hg, hk, hb, rfl, hpos⟩, hm⟩
    exact ⟨g, id, b, hg, hk, hb, hpos, hm⟩

/-- Settles O56: every contribution is read off its definition, with no-pick, the overstayed sector and the overload in
their rules' words; the limits are the lowest by `composeLimits_le` and `limit_contributed`. -/
theorem limitsAreTheLowest : Obligations.LimitsAreTheLowest := by
  intro s c crane p profile both picking flagged overstays overloaded
  refine ⟨rfl, fun a positive => ⟨fun _ _ hl => composeLimits_le hl, ?_⟩, noPick_iff, noPick_iff, rfl, posnLimits_unplaced,
    fun h => ?_, fun h => ?_, fun h => ?_, windLimits_stop, fun h => ?_, fun pace hlate hprompt => ?_, fun h => ?_,
    fun h => ?_⟩
  · obtain ⟨⟨reason, l⟩, hl, he⟩ := limit_contributed s c a positive
    exact ⟨reason, l, hl, he⟩
  · exact if_pos (located_iff.mpr h)
  · rw [State.windLimits, h]; rfl
  · rw [State.windLimits, h]; rfl
  · rcases h with h | h <;> rw [State.windLimits, h] <;> rfl
  · have hpace : (if s.overstays c = true then s.creepLimits c else fullLimits) = pace := by
      split
      · next ho => exact (hlate (overstays_iff.mp ho)).symm
      · next ho => exact (hprompt (mt overstays_iff.mpr ho)).symm
    rw [State.sectLimits, hpace]
    refine ⟨fun hf hp => withNoPick_picking (inFlaggedSector_iff.mpr hf) hp, fun h => withNoPick_else ?_⟩
    exact h.imp_left fun hf => Bool.eq_false_iff.mpr (mt inFlaggedSector_iff.mp hf)
  · exact if_pos (overloaded_iff.mp h)
  · exact if_neg (mt overloaded_iff.mpr h)

end Sys2Proof.Machine
end

/-! ## The EXIT contribution (R37, R42 to R45, R49): O55 -/

section
namespace Sys2Proof.Machine

variable {s : State} {c : Crane} {i : Nat} {g b : Segment}

/-! ### What an exit crane is exiting (R37, R42, R43) -/

/-- What a crane exits in a segment that bars it. -/
def Segment.exitPlace (g : Segment) : ExitPlace := if g.kind = .shared then .sector g.sector else .barred g

theorem kind_of_bars (h : s.Bars c g) (hk : g.kind ≠ .shared) : g.kind = .barred := by
  cases hg : g.kind with
  | own => rw [State.Bars, hg] at h; exact h.elim
  | barred => rfl
  | shared => exact absurd hg hk

theorem exitPlace_exits (hg : s.StandsIn c i g) (he : s.ExitsFrom c g) : s.exitPlace c = some g.exitPlace := by
  obtain ⟨hb, hl⟩ := he
  unfold State.exitPlace Segment.exitPlace
  simp only [current_iff.mpr ⟨g, hg⟩, segmentAt_of_standsIn hg, barred_iff.mpr hb, if_true]
  by_cases hk : g.kind = .shared
  · simp only [sharedSector_iff.mpr ⟨hk, rfl, isMember_of_bars_shared hb hk⟩, if_pos hk]
    exact if_neg fun h => hl ⟨hk, by simpa using h⟩
  · have hs : s.sharedSector c g = none := if_neg fun h => hk h.1
    simp only [hs, if_neg hk]

/-- R43: segment `b` belongs to the run that a crane barred in segment `g` exits. -/
def State.InRun (s : State) (c : Crane) (g b : Segment) : Prop :=
  if g.kind = .shared then b.kind = .shared ∧ b.sector = g.sector else b.kind = .barred ∧ s.Bars c b

theorem inRun_iff (h : s.Bars c g) : s.inRun c g.exitPlace b = true ↔ s.InRun c g b := by
  unfold State.InRun Segment.exitPlace
  by_cases hk : g.kind = .shared
  · simp only [if_pos hk, State.inRun, beq_iff_eq, sharedSector_iff]
    exact ⟨fun ⟨hb, he, _⟩ => ⟨hb, he⟩, fun ⟨hb, he⟩ => ⟨hb, he, isMember_of_bars_shared h hk⟩⟩
  · simp only [if_neg hk, State.inRun, Bool.and_eq_true, beq_iff_eq, ← barred_iff]
    refine and_congr_right fun hb => ?_
    rw [State.barred, hb]

/-! ### The length of the run (R43) -/

theorem length_takeWhile_range {n k : Nat} {p : Nat → Bool} (hk : k < n) (hin : ∀ m < k, p m = true)
    (hout : p k = false) : ((List.range n).takeWhile p).length = k := by
  obtain ⟨m, rfl⟩ := Nat.exists_eq_add_of_lt hk
  have hin' : ∀ a ∈ List.range k, p a = true := fun a ha => hin a (List.mem_range.mp ha)
  rw [Nat.add_assoc, List.range_add, List.range_succ_eq_map, List.takeWhile_append_of_pos hin', List.map_cons,
    List.takeWhile_cons_of_neg (by simp [hout]), List.append_nil, List.length_range]

theorem runLength_takeWhile (x : ExitPlace) (forward : Bool) :
    s.runLength c x i forward = ((List.range ((s.zone c).length - 1)).takeWhile fun m =>
      s.inRun c x (segmentAt (s.zone c) (indexBeyond (s.zone c).length i forward (m + 1)))).length := by
  rw [State.runLength, scanOrder_eq, List.takeWhile_map, List.length_map]
  rfl

theorem indexBeyond_lt {n : Nat} (hn : 0 < n) (i : Nat) (forward : Bool) (m : Nat) : indexBeyond n i forward m < n := by
  unfold indexBeyond
  split <;> exact Nat.mod_lt _ hn

/-- R43: the run reaches to the first segment that is not of it. -/
theorem runLength_eq {x : ExitPlace} {forward : Bool} {n : Nat} (hn : n + 1 < (s.zone c).length)
    (hin : ∀ m b, m ≤ n → (s.zone c)[indexBeyond (s.zone c).length i forward m]? = some b → s.inRun c x b = true)
    (hb : (s.zone c)[indexBeyond (s.zone c).length i forward (n + 1)]? = some b) (hout : ¬ s.inRun c x b = true) :
    s.runLength c x i forward = n := by
  rw [runLength_takeWhile]
  refine length_takeWhile_range (by omega) (fun m hm => ?_) ?_
  · exact hin (m + 1) _ hm (getElem?_segmentAt (indexBeyond_lt (by omega) _ _ _))
  · rw [segmentAt_of_getElem? hb]
    exact Bool.eq_false_iff.mpr hout

/-- R43: a run of every segment reaches round the whole circle. -/
theorem runLength_circle {x : ExitPlace} {forward : Bool} (hn : 0 < (s.zone c).length)
    (hin : ∀ b ∈ s.zone c, s.inRun c x b = true) : s.runLength c x i forward = (s.zone c).length - 1 := by
  rw [runLength_takeWhile, List.takeWhile_eq_self_iff.mpr, List.length_range]
  intro m _
  exact hin _ (List.mem_of_getElem? (getElem?_segmentAt (indexBeyond_lt hn _ _ _)))

/-! ### Slew limits (R43) -/

theorem segmentAt_of_getElem?_mod {z : List Segment} {j : Nat} (h : z[j % z.length]? = some g) : segmentAt z j = g := by
  rw [segmentAt, List.getD_eq_getElem?_getD, h]
  rfl

theorem exitSlew_circle {x : ExitPlace} (hn : 0 < (s.zone c).length) (hin : ∀ b ∈ s.zone c, s.inRun c x b = true) :
    s.exitSlew c x i = (0, 0) := by
  have hfwd := runLength_circle (i := i) (forward := true) hn hin
  exact if_pos (by omega)

/-- R43: out of a run with two ends, by the nearer usable one. -/
theorem exitSlew_ends {x : ExitPlace} {beyond before first : Segment} {fwd bwd : Nat}
    (hfwd : s.runLength c x i true = fwd) (hbwd : s.runLength c x i false = bwd) (hn : fwd + 1 < (s.zone c).length)
    (hbeyond : segmentAt (s.zone c) (i + fwd + 1) = beyond)
    (hbefore : segmentAt (s.zone c) (i + (s.zone c).length - bwd - 1) = before)
    (hfirst : segmentAt (s.zone c) (i + (s.zone c).length - bwd) = first) :
    let dp := (beyond.start + 8192 - (s.position c).angle) % 8192
    let dn := ((s.position c).angle + 8192 - first.start) % 8192 + 1
    (¬ s.Bars c beyond → (s.Bars c before ∨ dp ≤ dn) → s.exitSlew c x i = ((s.crane c).slew.creep, 0)) ∧
    (¬ s.Bars c before → (s.Bars c beyond ∨ dn < dp) → s.exitSlew c x i = (0, (s.crane c).slew.creep)) ∧
    (s.Bars c beyond → s.Bars c before → s.exitSlew c x i = (0, 0)) := by
  intro dp dn
  have hslew : s.exitSlew c x i =
      if s.barred c beyond = false ∧ (s.barred c before = true ∨ dp ≤ dn) then ((s.crane c).slew.creep, 0)
      else if s.barred c before = false then (0, (s.crane c).slew.creep) else (0, 0) := by
    unfold State.exitSlew
    simp only [hfwd, hbwd, segmentEnd, hbeyond, hbefore, hfirst, Bool.not_eq_true', Bool.not_eq_false']
    exact if_neg (not_le.mpr hn)
  rw [hslew]
  simp only [← barred_iff, Bool.not_eq_true]
  refine ⟨fun hp h => if_pos ⟨hp, h⟩, fun hn h => ?_, fun hp hn => ?_⟩
  · refine (if_neg ?_).trans (if_pos hn)
    rintro ⟨hp, h' | h'⟩
    · rw [hn] at h'; cases h'
    · rcases h with h | h
      · rw [hp] at h; cases h
      · omega
  · simp [hp, hn]

/-! ### Trolley and hoist limits (R44), and intruded holders (R45) -/

/-- R44: the segment whose floor keeps the hook from going down. -/
abbrev Segment.Floored (g : Segment) : Prop := g.kind = .barred ∧ g.floor ≠ 0

/-- R44: the SHARED segment of a JIB sector. -/
abbrev State.Jib (s : State) (g : Segment) : Prop := g.kind = .shared ∧ (s.sector g.sector).clash = .jib

theorem exitOthers_eq (h : s.Bars c g) :
    s.exitOthers c g.exitPlace =
      { fullLimits with
        trolleyPos := if s.Jib g then (s.crane c).trolley.creep else 0
        trolleyNeg := (s.crane c).trolley.creep
        hoistPos := if g.Floored then (s.crane c).hoist.creep else 0
        hoistNeg := if g.Floored then 0 else (s.crane c).hoist.creep } := by
  unfold Segment.exitPlace State.exitOthers
  by_cases hk : g.kind = .shared
  · have hfloor : ¬ g.Floored := fun hf => by rw [hf.1] at hk; cases hk
    by_cases hj : (s.sector g.sector).clash = .jib
    · simp [hk, hfloor, hj, State.Jib]
    · simp [hk, hfloor, hj, State.Jib]
  · have hjib : ¬ s.Jib g := fun hj => hk hj.1
    have hb := kind_of_bars h hk
    by_cases hf : g.floor = 0
    · simp [hb, hjib, hf, Segment.Floored]
    · simp [hb, hjib, hf, Segment.Floored]

theorem isIntruded_iff :
    s.isIntruded c = true ↔ ∃ k, holderOf (s.entry k) = some c ∧ ∃ d ∈ (s.entry k).presence, d ≠ c := by
  simp only [State.isIntruded, List.any_eq_true, mem_allSectors, true_and, beq_iff_eq, intruded_iff, holderOf_iff]

/-! ### The contribution (R37, R49) -/

/-- R45: what holds an intruded holder to its creep, as one value for each axis. -/
def PerAxis.CapsIntruder (cap : PerAxis Nat) (s : State) (c : Crane) : Prop :=
  (if s.isIntruded c = true then s.creepLimits c else fullLimits) = capLimits cap

theorem capsIntruder_of {cap : PerAxis Nat}
    (hin : (∃ k, holderOf (s.entry k) = some c ∧ ∃ d ∈ (s.entry k).presence, d ≠ c) →
      cap = ⟨(s.crane c).slew.creep, (s.crane c).trolley.creep, (s.crane c).hoist.creep⟩)
    (hout : (¬ ∃ k, holderOf (s.entry k) = some c ∧ ∃ d ∈ (s.entry k).presence, d ≠ c) → cap = ⟨1000, 1000, 1000⟩) :
    cap.CapsIntruder s c := by
  unfold PerAxis.CapsIntruder
  split
  · next h => rw [hin (isIntruded_iff.mp h)]; rfl
  · next h => rw [hout (mt isIntruded_iff.mpr h)]; rfl

/-- R37: without a position the contribution is 1000. -/
theorem exitContribution_unplaced (h : s.located c = false) : s.exitContribution c = fullLimits := by
  have hx : s.exitPlace c = none := by simp [State.exitPlace, State.current, h]
  exact (withNoPick_else (.inl (by rw [hx]; rfl))).trans (if_neg (by simp [h]))

/-- R45: a crane that is no exit crane is held back as an intruded holder alone. -/
theorem exitContribution_stays {cap : PerAxis Nat} (hcap : cap.CapsIntruder s c) (h : s.located c = true)
    (hx : s.exitPlace c = none) : s.exitContribution c = lowerLimits fullLimits (capLimits cap) := by
  refine (withNoPick_else (.inl (by rw [hx]; rfl))).trans ((if_pos h).trans ?_)
  rw [hcap, hx]

/-- R43 to R45, R49: an exit crane creeps out, and under no-pick does not hoist while PICKING. -/
theorem exitContribution_exits {cap : PerAxis Nat} (hcap : cap.CapsIntruder s c) (hg : s.StandsIn c i g)
    (he : s.ExitsFrom c g) :
    s.exitContribution c =
      { slewPos := min (s.exitSlew c g.exitPlace i).1 cap.slew
        slewNeg := min (s.exitSlew c g.exitPlace i).2 cap.slew
        trolleyPos := min (if s.Jib g then (s.crane c).trolley.creep else 0) cap.trolley
        trolleyNeg := min (s.crane c).trolley.creep cap.trolley
        hoistPos := if (s.detector c).state = .picking then 0
          else min (if g.Floored then (s.crane c).hoist.creep else 0) cap.hoist
        hoistNeg := min (if g.Floored then 0 else (s.crane c).hoist.creep) cap.hoist } := by
  have hx := exitPlace_exits hg he
  have hlimits : s.exitLimits c = lowerLimits { s.exitOthers c g.exitPlace with
      slewPos := (s.exitSlew c g.exitPlace i).1, slewNeg := (s.exitSlew c g.exitPlace i).2 } (capLimits cap) := by
    rw [State.exitLimits, if_pos (located_iff.mpr hg.1), hcap, hx, current_iff.mpr ⟨g, hg⟩]
  rw [State.exitContribution, hx, hlimits, exitOthers_eq he.1]
  by_cases hp : (s.detector c).state = .picking
  · rw [if_pos hp]
    exact withNoPick_picking rfl hp
  · rw [if_neg hp]
    exact withNoPick_else (.inr hp)

/-- Settles O55: the contribution of a crane that stays is the intruder's cap; that of an exit crane follows the ends of
its run, which are where the two scans meet a segment that is not of it. -/
theorem exitLeadsOut : Obligations.ExitLeadsOut := by
  intro s c z p crane l intrudedHolder cap hin hout
  have hcap : cap.CapsIntruder s c := capsIntruder_of hin hout
  refine ⟨fun h => exitContribution_unplaced (located_of_unplaced h), fun h hstays => ?_, fun i g hg he => ?_⟩
  · refine exitContribution_stays hcap (located_iff.mpr h) (Option.isNone_iff_eq_none.mp ?_)
    rw [← Option.isSome_eq_false_iff, Bool.eq_false_iff, Ne, exits_iff]
    rintro ⟨i, g, hg, he⟩
    exact hstays i g hg he
  · intro inRun picking jib floored
    have hl : l = _ := exitContribution_exits hcap hg he
    have hrun (b : Segment) : s.inRun c g.exitPlace b = true ↔ inRun b := inRun_iff he.1
    have hplace := (List.getElem?_eq_some_iff.mp hg.2.1).1
    refine ⟨by rw [hl], by rw [hl], by rw [hl], by rw [hl], fun hall => ?_, ?_⟩
    · rw [hl, exitSlew_circle (Nat.zero_lt_of_lt hplace) fun b hb => (hrun b).mpr (hall b hb)]
      exact ⟨Nat.zero_min _, Nat.zero_min _⟩
    · intro fwd bwd hfwd hbwd hinf hinb beyond hbeyond houtf before hbefore houtb first hfirst dp dn
      have hreach : s.runLength c g.exitPlace i true = fwd :=
        runLength_eq hfwd (fun m b hm hb => (hrun b).mpr (hinf m b hm hb)) hbeyond (mt (hrun _).mp houtf)
      have hreachBack : s.runLength c g.exitPlace i false = bwd :=
        runLength_eq hbwd (fun m b hm hb => (hrun b).mpr (hinb m b hm hb)) hbefore (mt (hrun _).mp houtb)
      obtain ⟨hpos, hneg, hnone⟩ := exitSlew_ends hreach hreachBack hfwd (segmentAt_of_getElem?_mod hbeyond)
        (segmentAt_of_getElem?_mod hbefore) (segmentAt_of_getElem?_mod hfirst)
      refine ⟨fun hp h => ?_, fun hn h => ?_, fun hp hn => ?_⟩
      · rw [hl, hpos hp h]; exact ⟨rfl, Nat.zero_min _⟩
      · rw [hl, hneg hn h]; exact ⟨Nat.zero_min _, rfl⟩
      · rw [hl, hnone hp hn]; exact ⟨Nat.zero_min _, Nat.zero_min _⟩

end Sys2Proof.Machine
end

/-! ## A grant record changed, and an entry judged (R55, R60, R62, R66 to R71) -/

section
namespace Sys2Proof.Machine

variable {x : SectorContext} {e e' e'' : SectorEntry} {c : Crane}

/-! ### The grant record changed -/

theorem mapGrant_mapGrant (f g : Grant → Grant) (e : SectorEntry) :
    mapGrant f (mapGrant g e) = mapGrant (fun r => f (g r)) e := by
  unfold mapGrant
  cases e.base <;> rfl

theorem mapGrant_id (e : SectorEntry) : mapGrant (fun g => g) e = e := by
  obtain ⟨base, queue, locks, closed, presence, obstruction, claimant⟩ := e
  cases base <;> rfl

@[simp] theorem mapGrant_queue (f : Grant → Grant) (e : SectorEntry) : (mapGrant f e).queue = e.queue := rfl
@[simp] theorem mapGrant_locks (f : Grant → Grant) (e : SectorEntry) : (mapGrant f e).locks = e.locks := rfl
@[simp] theorem mapGrant_closed (f : Grant → Grant) (e : SectorEntry) : (mapGrant f e).closed = e.closed := rfl
@[simp] theorem mapGrant_presence (f : Grant → Grant) (e : SectorEntry) : (mapGrant f e).presence = e.presence := rfl
@[simp] theorem mapGrant_obstruction (f : Grant → Grant) (e : SectorEntry) :
    (mapGrant f e).obstruction = e.obstruction := rfl
@[simp] theorem mapGrant_claimant (f : Grant → Grant) (e : SectorEntry) : (mapGrant f e).claimant = e.claimant := rfl

@[simp] theorem mapGrant_holderOf (f : Grant → Grant) (e : SectorEntry) : holderOf (mapGrant f e) = holderOf e := by
  unfold holderOf mapGrant
  cases e.base <;> rfl

@[simp] theorem mapGrant_ownerOf (f : Grant → Grant) (e : SectorEntry) : ownerOf (mapGrant f e) = ownerOf e := by
  unfold ownerOf mapGrant
  cases e.base <;> rfl

@[simp] theorem mapGrant_grantOf (f : Grant → Grant) (e : SectorEntry) :
    grantOf (mapGrant f e) = (grantOf e).map f := by
  unfold grantOf mapGrant
  cases e.base <;> rfl

@[simp] theorem mapGrant_baseState (f : Grant → Grant) (e : SectorEntry) : baseState (mapGrant f e) = baseState e := by
  unfold baseState mapGrant
  cases e.base <;> rfl

@[simp] theorem mapGrant_hasWaiter (f : Grant → Grant) (e : SectorEntry) : hasWaiter (mapGrant f e) = hasWaiter e := by
  unfold hasWaiter
  rw [mapGrant_ownerOf]
  rfl

@[simp] theorem mapGrant_stateOf (f : Grant → Grant) (clash : ClashKind) (e : SectorEntry) :
    stateOf clash (mapGrant f e) = stateOf clash e := by
  unfold stateOf
  rw [mapGrant_baseState]
  rfl

/-- R54: a grant record and its owner stand and fall together. -/
theorem ownerOf_eq_none_iff : ownerOf e = none ↔ grantOf e = none := by
  unfold ownerOf grantOf
  cases e.base <;> simp

/-- The second entry is the first with at most the grant record changed. -/
def SectorEntry.Regrants (e e' : SectorEntry) : Prop := ∃ f, e' = mapGrant f e

theorem SectorEntry.Regrants.refl (e : SectorEntry) : e.Regrants e := ⟨fun g => g, (mapGrant_id e).symm⟩

theorem SectorEntry.Regrants.of_map (f : Grant → Grant) (e : SectorEntry) : e.Regrants (mapGrant f e) := ⟨f, rfl⟩

theorem SectorEntry.Regrants.trans (h : e.Regrants e') (h' : e'.Regrants e'') : e.Regrants e'' := by
  obtain ⟨f, rfl⟩ := h
  obtain ⟨g, rfl⟩ := h'
  exact ⟨_, mapGrant_mapGrant g f e⟩

theorem setYield_regrants (x : SectorContext) (cause : YieldCause) (e : SectorEntry) :
    e.Regrants (setYield x cause e).1 := by
  unfold setYield
  split
  · split
    · exact .of_map _ e
    · exact .refl e
  · exact .refl e

theorem setOverstay_regrants (x : SectorContext) (e : SectorEntry) : e.Regrants (setOverstay x e).1 := by
  unfold setOverstay
  split
  · exact .of_map _ e
  · exact .refl e

theorem clearIdleYield_regrants (e : SectorEntry) : e.Regrants (clearIdleYield e) := by
  unfold clearIdleYield
  split
  · exact .refl e
  · exact .of_map _ e

/-- R66, R67: the arrival of a waiter sets flags of the grant. -/
theorem waiterArrives_regrants (x : SectorContext) (e : SectorEntry) : e.Regrants (waiterArrives x e).1 := by
  unfold waiterArrives
  split
  · exact .refl e
  · have hover (b : Bool) : e.Regrants (if b = true then setOverstay x e else (e, [])).1 := by
      split
      · exact setOverstay_regrants x e
      · exact .refl e
    rw [chain_fst]
    split
    · exact (hover _).trans (setYield_regrants x _ _)
    · exact hover _

/-- R71: so does the end of a booking's priority. -/
theorem endListed_regrants (x : SectorContext) (left : List (Half × BookingState)) (e : SectorEntry) :
    e.Regrants (endListed x left e).1 := by
  have hend : e.Regrants (endPriority x e).1 := by
    unfold endPriority
    dsimp only
    split
    · exact (SectorEntry.Regrants.of_map _ e).trans (setYield_regrants x _ _)
    · exact .of_map _ e
  unfold endListed
  split
  · split
    · split
      · exact hend
      · exact .refl e
    · exact .refl e
  · exact .refl e

/-- R69: and a new claimant. -/
theorem applyClaimant_regrants (x : SectorContext) (e : SectorEntry) : e.Regrants (applyClaimant x e).1 := by
  unfold applyClaimant
  split
  · split
    · split
      · exact .of_map _ e
      · split
        · exact .refl e
        · exact .of_map _ e
    · exact setYield_regrants x _ e
  · exact .refl e

/-- R67: and a lift of a ROUTINE grant. -/
theorem countSlice_regrants (x : SectorContext) (g : Grant) (e : SectorEntry) : e.Regrants (countSlice x g e).1 := by
  unfold countSlice
  split
  · dsimp only
    split
    · exact (SectorEntry.Regrants.of_map _ e).trans (setYield_regrants x _ _)
    · exact .of_map _ e
  · exact .refl e

/-! ### The state of a sector (R55) -/

/-- R55: neither CLOSED nor LOCKED, a sector is in its base state. -/
theorem stateOf_open {clash : ClashKind} {st : SectorState} (h : stateOf clash e = st) (hc : st ≠ .closed)
    (hl : st ≠ .locked) : e.closed = false ∧ e.locks = [] ∧ baseState e = st := by
  have hclosed : e.closed = false := by
    by_contra hn
    exact hc (h.symm.trans (stateOf_closed clash (by simpa using hn)))
  have hlocks : e.locks = [] := by
    by_contra hn
    exact hl (h.symm.trans (stateOf_locked clash hclosed hn))
  exact ⟨hclosed, hlocks, (stateOf_base clash hclosed hlocks).symm.trans h⟩

theorem baseState_free : baseState e = .free ↔ e.base = .free := by
  unfold baseState
  cases e.base <;> simp

theorem baseState_contested : baseState e = .contested ↔ e.base = .contested := by
  unfold baseState
  cases e.base <;> simp

theorem stateOf_free {clash : ClashKind} :
    stateOf clash e = .free ↔ e.closed = false ∧ e.locks = [] ∧ e.base = .free := by
  refine ⟨fun h => ?_, fun ⟨hc, hl, hb⟩ => (stateOf_base clash hc hl).trans (baseState_free.mpr hb)⟩
  obtain ⟨hc, hl, hb⟩ := stateOf_open h nofun nofun
  exact ⟨hc, hl, baseState_free.mp hb⟩

theorem stateOf_contested {clash : ClashKind} :
    stateOf clash e = .contested ↔ e.closed = false ∧ e.locks = [] ∧ e.base = .contested := by
  refine ⟨fun h => ?_, fun ⟨hc, hl, hb⟩ => (stateOf_base clash hc hl).trans (baseState_contested.mpr hb)⟩
  obtain ⟨hc, hl, hb⟩ := stateOf_open h nofun nofun
  exact ⟨hc, hl, baseState_contested.mp hb⟩

/-- An entry without an owner is FREE or CONTESTED in its base state. -/
theorem base_of_unowned (h : ownerOf e = none) : e.base = .free ∨ e.base = .contested := by
  unfold ownerOf at h
  split at h
  · cases h
  · cases h
  · next hheld hclearing =>
    cases hb : e.base with
    | free => exact .inl rfl
    | contested => exact .inr rfl
    | held c g => exact absurd hb (hheld c g)
    | clearing f g n => exact absurd hb (hclearing f g n)

/-! ### An entry judged (R60, R62, R68) -/

theorem clearIdleYield_unowned (h : ownerOf e = none) : clearIdleYield e = e :=
  clearIdleYield_of_none fun g hg => by rw [ownerOf_eq_none_iff.mp h] at hg; cases hg

/-- R78: outside the ARMED site an entry is not judged. -/
theorem judge_unarmed (h : x.armed = false) (entering : Option Crane) : judge x entering e = (e, []) :=
  if_neg (by simp [h])

/-- An entry that is not evaluated by what it takes: neither FREE, nor CONTESTED with one member or none present. -/
def SectorEntry.Settled (clash : ClashKind) (e : SectorEntry) : Prop :=
  stateOf clash e ≠ .free ∧ (stateOf clash e = .contested → 2 ≤ e.presence.length)

/-- R68: a settled entry has an idle yield flag cleared, and nothing else. -/
theorem judge_settled (ha : x.armed = true) (h : e.Settled x.record.clash) (entering : Option Crane) :
    judge x entering e = (clearIdleYield e, []) := by
  obtain ⟨hfree, hcontested⟩ := h
  have hmembers : ¬ (stateOf x.record.clash e = .contested ∧ e.presence.length ≤ 1) := fun hn => by
    have := hcontested hn.1
    omega
  unfold judge
  simp only [if_pos ha, if_neg hmembers, if_neg hfree]

theorem judge_settled_unowned (h : e.Settled x.record.clash) (hn : ownerOf e = none) (entering : Option Crane) :
    judge x entering e = (e, []) := by
  cases ha : x.armed with
  | false => exact judge_unarmed ha entering
  | true => rw [judge_settled ha h, clearIdleYield_unowned hn]

section
variable (hl : e.locks = [])
include hl

/-- R60: only of the sole member present does it matter whether its entering is reported, and only where none
obstructs. -/
theorem evaluateGrant_entering (hp : ∀ c, e.presence = [c] → e.obstruction ≠ []) (entering : Option Crane) :
    evaluateGrant x entering e = evaluateGrant x none e := by
  unfold evaluateGrant
  rw [unlocked_presence hl]
  match hpresence : e.presence with
  | [] => cases e.claimant <;> cases e.queue <;> rfl
  | [c] => exact (if_pos (hp c hpresence)).trans (if_pos (hp c hpresence)).symm
  | _ :: _ :: _ => rfl

/-- R60: with no member present and no claimant the sector goes to the head of the queue. -/
theorem evaluateGrant_queue (hp : e.presence = []) (ho : e.obstruction = []) (hcl : e.claimant = none)
    {q : QueueEntry} {rest : List QueueEntry} (hq : e.queue = q :: rest) :
    evaluateGrant x none e = grantSector x q.crane .routine (if q.resume = true then 2 else 3) e := by
  unfold evaluateGrant
  rw [unlocked_presence hl, hp, hcl, hq]
  dsimp only
  rw [if_neg (by simp [ho])]

/-- R60, R62: the sole member present is granted the sector; the entering of a member that nothing has called is an
intrusion. -/
theorem evaluateGrant_sole {c : Crane} (hp : e.presence = [c]) (ho : e.obstruction = []) (entering : Option Crane) :
    (∀ cl, e.claimant = some cl → cl.crane = c →
      evaluateGrant x entering e = grantSector x c (.booked cl.booking) 0 e) ∧
    (∀ cl, e.claimant = some cl → cl.crane ≠ c →
      evaluateGrant x entering e = chain (grantSector x c .routine 0 e) fun e' =>
        chain (e', if entering = some c ∧ queued e c = false then [intrusion x c .free] else [])
          (setYield x .booking)) ∧
    (e.claimant = none →
      evaluateGrant x entering e = chain (grantSector x c .routine 0 e) fun e' =>
        (e', if entering = some c ∧ queued e c = false then [intrusion x c .free] else [])) := by
  unfold evaluateGrant
  rw [unlocked_presence hl, hp]
  dsimp only
  rw [if_neg (by simp [ho])]
  refine ⟨fun cl hcl hc => ?_, fun cl hcl hc => ?_, fun hcl => ?_⟩
  · simp [claims, hcl, hc, chain]
  · simp [claims, hcl, hc]
  · simp [claims, hcl, chain]

end

/-- The grant evaluation of a FREE or CONTESTED entry with no lock requests (R60, R62). -/
theorem judge_evaluates (ha : x.armed = true) (hc : e.closed = false) (hl : e.locks = []) (hn : ownerOf e = none)
    (entering : Option Crane) :
    GrantEvaluation x.sector x.record entering e (judge x entering e).1 (judge x entering e).2 := by
  by_cases hstays : e.base = .contested ∧ 2 ≤ e.presence.length
  · obtain ⟨hb, hp⟩ := hstays
    have hstate : stateOf x.record.clash e = .contested := stateOf_contested.mpr ⟨hc, hl, hb⟩
    rw [judge_settled_unowned ⟨by rw [hstate]; exact nofun, fun _ => hp⟩ hn]
    refine ⟨fun _ _ => ⟨rfl, rfl⟩, fun _ h => absurd hb h, fun h => by omega, fun _ => ⟨fun c h => ?_, fun h => ?_⟩⟩
    · rw [h] at hp; simp at hp
    · rw [h] at hp; simp at hp
  · obtain ⟨f, hf⟩ : ∃ f : SectorEntry, f = { e with base := .free } := ⟨_, rfl⟩
    have hfree : stateOf x.record.clash f = .free := by rw [hf]; exact stateOf_free.mpr ⟨hc, hl, rfl⟩
    have hjudge : judge x entering e =
        (clearIdleYield (evaluateGrant x entering f).1, (evaluateGrant x entering f).2) := by
      have hfreed : (if stateOf x.record.clash e = .contested ∧ e.presence.length ≤ 1 then { e with base := .free }
          else e) = f := by
        rw [hf]
        rcases base_of_unowned hn with hb | hb
        · rw [if_neg (by rw [stateOf_contested, hb]; exact nofun), ← hb]
        · rw [if_pos ⟨stateOf_contested.mpr ⟨hc, hl, hb⟩, by have := mt (And.intro hb) hstays; omega⟩]
      unfold judge
      simp only [if_pos ha, hfreed, if_pos hfree]
    have hfl : f.locks = [] := by rw [hf]; exact hl
    have hsets : f.presence = e.presence ∧ f.obstruction = e.obstruction ∧ f.claimant = e.claimant ∧
        f.queue = e.queue := by rw [hf]; exact ⟨rfl, rfl, rfl, rfl⟩
    obtain ⟨hfp, hfo, hfc, hfq⟩ := hsets
    have hidle : clearIdleYield f = f := clearIdleYield_unowned (by rw [hf]; rfl)
    have hgranted (c : Crane) (g : Grant) (hg : g.yielding = none) :
        clearIdleYield { f with base := .held c g, queue := withdraw f.queue c } =
          { e with base := .held c g, queue := withdraw e.queue c } := by
      rw [clearIdleYield_of_none fun g' hg' => by cases hg'; exact hg, hf]
    have huninvited (c : Crane) : (if entering = some c ∧ queued f c = false then [intrusion x c .free] else []) =
        if entering = some c ∧ ∀ q ∈ e.queue, q.crane ≠ c then [eventOf .intrusion (some c) (some x.sector) 0]
        else [] := by
      have hq : queued f c = false ↔ ∀ q ∈ e.queue, q.crane ≠ c := by simp [queued, hfq]
      simp only [hq]
      rfl
    rw [hjudge]
    refine ⟨fun hp hb => absurd ⟨hb, hp⟩ hstays, fun hp _ => ?_, fun hp ho => ?_, fun ho => ⟨fun c hp =>
      ⟨fun cl hcl hcr => ?_, fun cl hcl hcr => ?_, fun hcl => ?_⟩, fun hp => ?_⟩⟩
    · rw [evaluateGrant_entering hfl (fun c h => by rw [← hfp, h] at hp; simp at hp),
        evaluateGrant_contested hfl (hfp ▸ hp), clearIdleYield_unowned rfl, hfp, hf]
      exact ⟨rfl, rfl⟩
    · rw [evaluateGrant_entering hfl (fun _ _ => hfo ▸ ho), evaluateGrant_obstructed hfl (hfp ▸ hp) (hfo ▸ ho)]
      exact ⟨hidle.trans hf, rfl⟩
    · rw [(evaluateGrant_sole hfl (hfp.trans hp) (hfo.trans ho) entering).1 cl (hfc.trans hcl) hcr, grantSector_eq]
      exact ⟨hgranted c _ rfl, rfl⟩
    · rw [(evaluateGrant_sole hfl (hfp.trans hp) (hfo.trans ho) entering).2.1 cl (hfc.trans hcl) hcr, grantSector_eq,
        huninvited]
      obtain ⟨waiting, hw⟩ : ∃ waiting : SectorEntry, waiting = { e with
        base := .held c { Grant.routineBy x.record with yielding := some .booking }, queue := withdraw e.queue c } :=
        ⟨_, rfl⟩
      have hkept : clearIdleYield waiting = waiting := clearIdleYield_waiting (hasWaiter_iff.mpr
        (.inr ⟨cl, by rw [hw]; exact hcl, by rw [hw]; simpa [ownerOf] using Ne.symm hcr⟩))
      rw [hw] at hkept
      rw [hf]
      exact ⟨hkept, rfl⟩
    · rw [(evaluateGrant_sole hfl (hfp.trans hp) (hfo.trans ho) entering).2.2 (hfc.trans hcl), grantSector_eq,
        huninvited]
      exact ⟨hgranted c _ rfl, rfl⟩
    · have hnobody : ∀ c, f.presence = [c] → f.obstruction ≠ [] := fun c h => by rw [hfp, hp] at h; cases h
      rw [evaluateGrant_entering hfl hnobody]
      refine ⟨fun cl hcl => ?_, fun q rest hcl hq => ?_, fun hcl hq => ?_⟩
      · rw [(evaluateGrant_absent hfl (hfp.trans hp) (hfo.trans ho)).1 cl (hfc.trans hcl), grantSector_eq]
        exact ⟨hgranted _ _ rfl, rfl⟩
      · rw [evaluateGrant_queue hfl (hfp.trans hp) (hfo.trans ho) (hfc.trans hcl) (hfq.trans hq), grantSector_eq]
        exact ⟨hgranted _ _ rfl, rfl⟩
      · rw [(evaluateGrant_absent hfl (hfp.trans hp) (hfo.trans ho)).2 (hfc.trans hcl) (hfq.trans hq)]
        exact ⟨hidle.trans hf, rfl⟩

/-- R60, R62, R68: an entry judged is left as it is, has an idle yield flag cleared, or is evaluated. -/
theorem judge_cases (x : SectorContext) (entering : Option Crane) (e : SectorEntry) :
    judge x entering e = (e, []) ∨ judge x entering e = (clearIdleYield e, []) ∨
      (e.closed = false ∧ e.locks = [] ∧ ownerOf e = none ∧
        GrantEvaluation x.sector x.record entering e (judge x entering e).1 (judge x entering e).2) := by
  cases ha : x.armed with
  | false => exact .inl (judge_unarmed ha entering)
  | true =>
    by_cases hopen : e.closed = false ∧ e.locks = [] ∧ ownerOf e = none
    · obtain ⟨hc, hl, hn⟩ := hopen
      exact .inr (.inr ⟨hc, hl, hn, judge_evaluates ha hc hl hn entering⟩)
    · refine .inr (.inl (judge_settled ha ⟨fun h => hopen ?_, fun h => absurd ?_ hopen⟩ entering))
      · obtain ⟨hc, hl, hb⟩ := stateOf_free.mp h
        exact ⟨hc, hl, by rw [ownerOf, hb]⟩
      · obtain ⟨hc, hl, hb⟩ := stateOf_contested.mp h
        exact ⟨hc, hl, by rw [ownerOf, hb]⟩

/-- An evaluation ends with the sector granted to nobody: FREE, or CONTESTED. -/
def SectorEntry.Ungranted (e e' : SectorEntry) (bs : List EventBody) : Prop :=
  (∃ b, (b = .free ∨ b = .contested) ∧ e' = { e with base := b }) ∧ ∀ b ∈ bs, b.kind = .contested

/-- An evaluation ends with the sector granted to a crane, which its GRANT event names; a yield flag set at once has its
event. -/
def SectorEntry.Granted (k : Sector) (e e' : SectorEntry) (bs : List EventBody) : Prop :=
  ∃ c g how rest, e' = { e with base := .held c g, queue := withdraw e.queue c } ∧
    bs = eventOf .grant (some c) (some k) (grantBooking g.kind) (grantCode g.kind) how :: rest ∧
    (∀ b ∈ rest, b.kind = .intrusion ∨ b.kind = .yield) ∧ g.overstay = false ∧
    (g.yielding ≠ none → eventOf .yield (some c) (some k) 1 ∈ rest)

/-- R60, R62: an evaluation leaves the sector without a grant, or grants it where no member obstructs. -/
theorem GrantEvaluation.outcome {k : Sector} {r : SectorRecord} {entering : Option Crane} {bs : List EventBody}
    (h : GrantEvaluation k r entering e e' bs) : e.Ungranted e' bs ∨ (e.obstruction = [] ∧ e.Granted k e' bs) := by
  have huninvited (c : Crane) : ∀ b ∈ (if entering = some c ∧ ∀ q ∈ e.queue, q.crane ≠ c then
      [eventOf .intrusion (some c) (some k) 0] else []), b.kind = .intrusion ∨ b.kind = .yield := by
    intro b hb
    split at hb
    · rw [List.mem_singleton.mp hb]; exact .inl rfl
    · cases hb
  obtain ⟨hstays, hcontested, hobstructed, hfree⟩ := h
  rcases Nat.lt_or_ge 1 e.presence.length with hp | hp
  · by_cases hb : e.base = .contested
    · obtain ⟨he, rfl⟩ := hstays hp hb
      exact .inl ⟨⟨_, .inr rfl, he.trans (by rw [← hb])⟩, nofun⟩
    · obtain ⟨he, rfl⟩ := hcontested hp hb
      exact .inl ⟨⟨_, .inr rfl, he⟩, fun b hb => by rw [List.mem_singleton.mp hb]; rfl⟩
  · by_cases ho : e.obstruction = []
    · obtain ⟨hone, hnone⟩ := hfree ho
      have hclaimant := Option.eq_none_or_eq_some e.claimant
      rcases Nat.le_one_iff_eq_zero_or_eq_one.mp hp with hp | hp
      · obtain ⟨hclaimed, hqueued, hidle⟩ := hnone (List.length_eq_zero_iff.mp hp)
        rcases hclaimant with hcl | ⟨cl, hcl⟩
        · by_cases hq : e.queue = []
          · obtain ⟨he, rfl⟩ := hidle hcl hq
            exact .inl ⟨⟨_, .inl rfl, he⟩, nofun⟩
          · obtain ⟨q, rest, hq⟩ := List.exists_cons_of_ne_nil hq
            obtain ⟨he, rfl⟩ := hqueued q rest hcl hq
            exact .inr ⟨ho, _, _, _, _, he, rfl, nofun, rfl, fun h => absurd rfl h⟩
        · obtain ⟨he, rfl⟩ := hclaimed cl hcl
          exact .inr ⟨ho, _, _, _, _, he, rfl, nofun, rfl, fun h => absurd rfl h⟩
      · obtain ⟨c, hc⟩ := List.length_eq_one_iff.mp hp
        obtain ⟨hbooked, hpreempted, hroutine⟩ := hone c hc
        rcases hclaimant with hcl | ⟨cl, hcl⟩
        · obtain ⟨he, rfl⟩ := hroutine hcl
          exact .inr ⟨ho, _, _, _, _, he, rfl, huninvited c, rfl, fun h => absurd rfl h⟩
        · by_cases hcr : cl.crane = c
          · obtain ⟨he, rfl⟩ := hbooked cl hcl hcr
            exact .inr ⟨ho, _, _, _, _, he, rfl, nofun, rfl, fun h => absurd rfl h⟩
          · obtain ⟨he, rfl⟩ := hpreempted cl hcl hcr
            refine .inr ⟨ho, _, _, _, _, he, rfl, fun b hb => ?_, rfl, fun _ => List.mem_append_right _ (by simp)⟩
            rcases List.mem_append.mp hb with hb | hb
            · exact huninvited c b hb
            · rw [List.mem_singleton.mp hb]; exact .inr rfl
    · obtain ⟨he, rfl⟩ := hobstructed hp ho
      exact .inl ⟨⟨_, .inl rfl, he⟩, nofun⟩

end Sys2Proof.Machine
end

/-! ## Entries stay sound (R55, R57, R61, R73) -/

section
namespace Sys2Proof.Machine

variable {x : SectorContext} {e e' : SectorEntry} {c : Crane} {entering : Option Crane}

/-! ### What soundness reads -/

/-- An entry whose queue holds no new crane, which has no new holder, and which has no owner while it is closed or has
lock requests. -/
theorem SectorEntry.Sound.of_sublist (h : e.Sound) (hq : (e'.queue.map (·.crane)).Sublist (e.queue.map (·.crane)))
    (hh : ∀ d, holderOf e' = some d → holderOf e = some d)
    (hn : e'.closed = true ∨ e'.locks ≠ [] → ownerOf e' = none) : e'.Sound := by
  obtain ⟨hnodup, hholder, -⟩ := h
  refine ⟨hnodup.sublist hq, fun d hd hm => hholder d (hh d hd) (hq.subset hm), fun hl => ?_⟩
  exact ⟨hn hl, ownerOf_eq_none_iff.mp (hn hl)⟩

theorem SectorEntry.Sound.unowned (h : e.Sound) (hl : e.closed = true ∨ e.locks ≠ []) : ownerOf e = none :=
  (h.2.2 hl).1

/-- A grant record changed. -/
theorem SectorEntry.Sound.regrants (h : e.Sound) (hr : e.Regrants e') : e'.Sound := by
  obtain ⟨f, rfl⟩ := hr
  refine h.of_sublist (List.Sublist.refl _) (fun d hd => (mapGrant_holderOf f e).symm.trans hd) fun hl => ?_
  exact (mapGrant_ownerOf f e).trans (h.unowned hl)

theorem withdraw_sublist (q : List QueueEntry) (c : Crane) :
    ((withdraw q c).map (·.crane)).Sublist (q.map (·.crane)) := List.filter_sublist.map _

theorem not_mem_withdraw (q : List QueueEntry) (c : Crane) : c ∉ (withdraw q c).map (·.crane) := by
  simp [withdraw]

/-- R61: a crane granted an open sector leaves its queue. -/
theorem SectorEntry.Sound.granted (h : e.Sound) (hc : e.closed = false) (hl : e.locks = []) (c : Crane) (g : Grant) :
    ({ e with base := .held c g, queue := withdraw e.queue c } : SectorEntry).Sound := by
  refine ⟨h.1.sublist (withdraw_sublist e.queue c), fun d hd => ?_, fun hn => absurd hn ?_⟩
  · cases hd; exact not_mem_withdraw e.queue c
  · simp [hc, hl]

/-- An entry left without a grant. -/
theorem SectorEntry.Sound.ungranted (h : e.Sound) {b : Base} (hb : b = .free ∨ b = .contested) :
    ({ e with base := b } : SectorEntry).Sound := by
  refine h.of_sublist (List.Sublist.refl _) (fun d hd => ?_) fun _ => ?_
  · rcases hb with rfl | rfl <;> cases hd
  · rcases hb with rfl | rfl <;> rfl

/-- R60, R62, R68: an entry judged. -/
theorem judge_sound (h : e.Sound) : (judge x entering e).1.Sound := by
  rcases judge_cases x entering e with hj | hj | ⟨hc, hl, hn, hj⟩
  · rw [hj]; exact h
  · rw [hj]; exact h.regrants (clearIdleYield_regrants e)
  · rcases hj.outcome with ⟨⟨b, hb, he⟩, -⟩ | ⟨-, c, g, how, rest, he, -⟩
    · rw [he]; exact h.ungranted hb
    · rw [he]; exact h.granted hc hl c g

/-! ### Presence reports (R56, R62, R63, R64) -/

theorem applyReport_queue (c : Crane) (ch : PresenceChange) (e : SectorEntry) :
    (applyReport c ch e).queue = if changeObstructs ch = true then withdraw e.queue c else e.queue := rfl

theorem applyReport_sound (h : e.Sound) (ch : PresenceChange) : (applyReport c ch e).Sound := by
  refine h.of_sublist ?_ (fun _ hd => hd) h.unowned
  rw [applyReport_queue]
  split
  · exact withdraw_sublist e.queue c
  · exact List.Sublist.refl _

theorem reportBase_sound (h : e.Sound) (ch : PresenceChange) : (reportBase x c ch e).1.Sound := by
  have h1 : (applyReport c ch e).Sound := applyReport_sound h ch
  unfold reportBase
  dsimp only
  split
  · next hst hb =>
    obtain ⟨hc, hl, -⟩ := stateOf_open hst nofun nofun
    split
    · split
      · exact h1.of_sublist (List.Sublist.refl _) nofun fun hn => absurd hn (by simp [applyReport, hc, hl])
      · exact h1
    · exact h1
  · next hst hb =>
    obtain ⟨hc, hl, -⟩ := stateOf_open hst nofun nofun
    split
    · split
      · exact h1.granted hc hl c _
      · exact h1
    · exact h1
  · exact h1
  · exact h1

/-! ### Knocks and keep timers (R57, R58, R65) -/

theorem queue_map_crane {q : List QueueEntry} {f : QueueEntry → QueueEntry} (hf : ∀ a, (f a).crane = a.crane) :
    (q.map f).map (·.crane) = q.map (·.crane) := by
  simp [hf]

theorem enqueue_sound (h : e.Sound) (hc : holderOf e ≠ some c) : (enqueue x c e).1.Sound := by
  unfold enqueue
  split
  · refine h.of_sublist ?_ (fun _ hd => hd) h.unowned
    rw [queue_map_crane fun a => by split <;> rfl]
  · next hq =>
    have hnew : c ∉ e.queue.map (·.crane) := by simpa [queued] using hq
    have happended : ({ e with queue := e.queue ++ [{ crane := c, keep := x.keepTime, resume := false }] } :
        SectorEntry).Sound := by
      obtain ⟨hnodup, hholder, hopen⟩ := h
      refine ⟨?_, fun d hd hm => ?_, hopen⟩
      · rw [List.map_append]
        exact hnodup.append (by simp) (by simpa using hnew)
      · rw [List.map_append, List.mem_append] at hm
        rcases hm with hm | hm
        · exact hholder d hd hm
        · have hdc : d = c := by simpa using hm
          exact hc (hdc ▸ hd)
    dsimp only
    split
    · split
      · exact happended
      · exact happended.regrants (waiterArrives_regrants x _)
    · exact h

/-- R65: a knock gives a CLEARING sector back while nothing is queued. -/
theorem knockReturns_base {g : Grant} (h : knockReturns c e = some g) :
    e.queue = [] ∧ ∃ left, e.base = .clearing c g left := by
  unfold knockReturns at h
  split at h
  · next f g' left hb =>
    split at h
    · next hf => cases h; exact ⟨hf.2.1, left, by rw [hb, hf.1]⟩
    · cases h
  · cases h

theorem takeKnock_sound (h : e.Sound) : (takeKnock x c e).1.Sound := by
  unfold takeKnock
  split
  · exact h
  · split
    · exact h
    · next hc =>
      rw [chain_fst]
      refine judge_sound ?_
      split
      · next g hg =>
        obtain ⟨hq, left, hb⟩ := knockReturns_base hg
        have howner : ownerOf e = some c := ownerOf_iff.mpr (.inr ⟨g, left, hb⟩)
        have hopen : e.closed = false ∧ e.locks = [] := by
          by_contra hn
          have := h.unowned (by rw [not_and_or] at hn; simpa using hn)
          rw [howner] at this
          cases this
        have hgranted := h.granted hopen.1 hopen.2 c g
        rw [hq] at hgranted
        rw [hq]
        exact hgranted
      · exact enqueue_sound h fun hh => hc (.inl hh)

theorem withdrawn_sound (h : e.Sound) (c : Crane) : ({ e with queue := withdraw e.queue c } : SectorEntry).Sound :=
  h.of_sublist (withdraw_sublist e.queue c) (fun _ hd => hd) h.unowned

theorem takeKeepExpiry_sound (h : e.Sound) : (takeKeepExpiry x c e).1.Sound := by
  unfold takeKeepExpiry
  split
  · exact judge_sound (withdrawn_sound h c)
  · exact h

/-! ### Bookings, clearing and the hold limit (R64, R66, R69 to R71) -/

/-- What a claimant change makes of an entry before it is judged: the claimant recorded and flags of the grant set. -/
theorem takeClaimant_judges (x : SectorContext) (left : List (Half × BookingState)) (cl : Option Claimant)
    (e : SectorEntry) :
    ∃ e', ({ e with claimant := cl } : SectorEntry).Regrants e' ∧
      (takeClaimant x left cl e).1 = (judge x none e').1 := by
  obtain ⟨f, hf⟩ := endListed_regrants x left e
  have happlied := applyClaimant_regrants x { (endListed x left e).1 with claimant := cl }
  have hrecorded : ({ e with claimant := cl } : SectorEntry).Regrants { (endListed x left e).1 with claimant := cl } :=
    ⟨f, by rw [hf]; rfl⟩
  refine ⟨_, (hrecorded.trans happlied).trans ?_, rfl⟩
  dsimp only
  rw [chain_fst, chain_fst]
  split
  · exact waiterArrives_regrants x _
  · exact .refl _

theorem takeClaimant_sound (h : e.Sound) (left : List (Half × BookingState)) (cl : Option Claimant) :
    (takeClaimant x left cl e).1.Sound := by
  obtain ⟨e', hr, he⟩ := takeClaimant_judges x left cl e
  have hrecorded : ({ e with claimant := cl } : SectorEntry).Sound := h
  rw [he]
  exact judge_sound (hrecorded.regrants hr)

/-- R64, R70: a preempted former holder goes to the head of the queue of a sector that has passed to another crane. -/
theorem resumed_sound (h : e.Sound) {d f : Crane} {keep : Nat} (hd : holderOf e = some d) (hf : d ≠ f) :
    ({ e with queue := { crane := f, keep := keep, resume := true } :: withdraw e.queue f } : SectorEntry).Sound := by
  obtain ⟨hnodup, hholder, hopen⟩ := h
  refine ⟨List.nodup_cons.mpr ⟨not_mem_withdraw e.queue f, hnodup.sublist (withdraw_sublist e.queue f)⟩,
    fun d' hd' hm => ?_, hopen⟩
  have hsame : d' = d := by
    have : some d' = some d := hd'.symm.trans hd
    exact Option.some.inj this
  rcases List.mem_cons.mp hm with hm | hm
  · exact hf (hsame.symm.trans hm)
  · exact hholder d' hd' ((withdraw_sublist e.queue f).subset hm)

theorem takeClearingExpiry_sound (h : e.Sound) : (takeClearingExpiry x e).1.Sound := by
  unfold takeClearingExpiry
  split
  · rw [chain_fst, chain_fst]
    have hfreed : (judge x none { e with base := .free }).1.Sound := judge_sound (h.ungranted (.inl rfl))
    generalize (judge x none { e with base := .free }).1 = e2 at hfreed
    split
    · next d g hb =>
      split
      · next hresume => exact resumed_sound hfreed (holderOf_iff.mpr ⟨g, hb⟩) hresume.2
      · exact hfreed
    · exact hfreed
  · exact h

theorem takeHoldExpiry_sound (h : e.Sound) : (takeHoldExpiry x e).1.Sound := by
  unfold takeHoldExpiry
  split
  · split
    · exact h
    · rw [chain_fst]
      have hstopped : (mapGrant (fun g => { g with hold := none }) e).Sound := h.regrants (.of_map _ e)
      refine judge_sound ?_
      split
      · exact hstopped.regrants (setOverstay_regrants x _)
      · exact hstopped.regrants (.of_map _ _)
  · exact h

/-! ### Locks, closure and lifts (R67, R72 to R75) -/

/-- R73: whoever had the grant of an entry, none has it after its dispossession. -/
theorem dispossess_unowned (x : SectorContext) (cause : Nat) (e : SectorEntry) :
    ownerOf (dispossess x cause e).1 = none := by
  unfold dispossess
  dsimp only
  split
  · split <;> rfl
  · split <;> rfl
  · next hheld hclearing =>
    unfold ownerOf
    split
    · next hb => exact absurd hb (hheld _ _)
    · next hb => exact absurd hb (hclearing _ _ _)
    · rfl

/-- R73: a dispossession changes the base state alone. -/
theorem dispossess_unheld (x : SectorContext) (cause : Nat) (e : SectorEntry) :
    (dispossess x cause e).1.unheld = e.unheld := by
  unfold dispossess
  dsimp only
  split <;> rfl

theorem holderOf_of_unowned (h : ownerOf e = none) : holderOf e = none := by
  rcases base_of_unowned h with hb | hb <;> rw [holderOf, hb]

/-- An entry without an owner is sound when its queue is. -/
theorem sound_of_unowned (hq : (e.queue.map (·.crane)).Nodup) (hn : ownerOf e = none) : e.Sound :=
  have hh : holderOf e = none := holderOf_of_unowned hn
  ⟨hq, fun _ hd => absurd (hh.symm.trans hd) nofun, fun _ => ⟨hn, ownerOf_eq_none_iff.mp hn⟩⟩

theorem dispossess_sound (e : SectorEntry) (hq : (e.queue.map (·.crane)).Nodup) (cause : Nat) :
    (dispossess x cause e).1.Sound :=
  sound_of_unowned (by rw [queue_of_unheld (dispossess_unheld x cause e)]; exact hq) (dispossess_unowned x cause e)

theorem takeLock_sound (h : e.Sound) : (takeLock x c e).1.Sound := by
  have hq : ((withdraw e.queue c).map (·.crane)).Nodup := h.1.sublist (withdraw_sublist e.queue c)
  unfold takeLock
  split
  · rw [chain_fst]
    refine judge_sound ?_
    split
    · exact dispossess_sound _ hq 2
    · next hno =>
      refine sound_of_unowned hq (h.unowned ?_)
      rw [lockSet_eq_nil_iff, not_and_or] at hno
      simpa using hno
  · exact h

theorem takeUnlock_sound (h : e.Sound) : (takeUnlock x c e).1.Sound := by
  unfold takeUnlock
  split
  · refine judge_sound (h.of_sublist (List.Sublist.refl _) (fun _ hd => hd) fun hl => h.unowned (hl.imp_right ?_))
    intro hne hnil
    exact hne (by rw [hnil]; rfl)
  · exact h

theorem takeClose_sound (h : e.Sound) : (takeClose x e).1.Sound := by
  unfold takeClose
  split
  · exact h
  · rw [chain_fst]
    refine judge_sound ?_
    split
    · exact dispossess_sound { e with closed := true } h.1 1
    · next hl => exact sound_of_unowned h.1 (h.unowned (.inr (mt (lockSet_eq_nil_iff _).mpr hl)))

theorem takeOpen_sound (h : e.Sound) : (takeOpen x e).1.Sound := by
  unfold takeOpen
  split
  · next hc => exact judge_sound (sound_of_unowned h.1 (h.unowned (.inl hc)))
  · exact h

theorem takeLift_sound (h : e.Sound) : (takeLift x c e).1.Sound := by
  unfold takeLift
  split
  · exact judge_sound (h.regrants (countSlice_regrants x _ e))
  · exact h

/-! ### Arming, disarming and timers -/

theorem reset_sound : SectorEntry.reset.Sound := sound_of_unowned List.nodup_nil rfl

theorem takeArm_sound (presence obstruction : List Crane) (cl : Option Claimant) :
    (takeArm x presence obstruction cl e).1.Sound :=
  judge_sound (sound_of_unowned List.nodup_nil rfl)

theorem takeDisarm_sound : (takeDisarm e).1.Sound := sound_of_unowned List.nodup_nil rfl

theorem runClearing_sound (h : e.Sound) : (runClearing e).Sound := by
  have hsame : holderOf (runClearing e) = holderOf e ∧ ownerOf (runClearing e) = ownerOf e := by
    unfold holderOf ownerOf runClearing
    cases e.base <;> exact ⟨rfl, rfl⟩
  exact h.of_sublist (List.Sublist.refl _) (fun d hd => hsame.1.symm.trans hd) fun hl => hsame.2.trans (h.unowned hl)

theorem runSectorSecond_sound (h : e.Sound) : (runSectorSecond e).Sound := by
  have hrun := h.regrants (.of_map (fun g => { g with hold := runDown g.hold }) e)
  refine hrun.of_sublist ?_ (fun _ hd => hd) hrun.unowned
  have hcranes : (runSectorSecond e).queue.map (·.crane) = e.queue.map (·.crane) := queue_map_crane fun _ => rfl
  rw [hcranes, mapGrant_queue]

end Sys2Proof.Machine
end

/-! ## What a command can do to a sector's entry (R54 to R78) -/

section
namespace Sys2Proof.Machine

/-- The events that one sector's entry takes between an arming and a disarming (R56 to R75). -/
inductive EntryEvent where
  | report (c : Crane) (ch : PresenceChange)
  | knock (c : Crane)
  | claimant (left : List (Half × BookingState)) (cl : Option Claimant)
  | lock (c : Crane)
  | unlock (c : Crane)
  | close
  | reopen
  | keep (c : Crane)
  | clearing
  | hold
  | lift (c : Crane)

/-- What the entry makes of an event. -/
def EntryEvent.run : EntryEvent → SectorContext → SectorEntry → EntryStep
  | .report c ch, x, e => takeReport x c ch e
  | .knock c, x, e => takeKnock x c e
  | .claimant left cl, x, e => takeClaimant x left cl e
  | .lock c, x, e => takeLock x c e
  | .unlock c, x, e => takeUnlock x c e
  | .close, x, e => takeClose x e
  | .reopen, x, e => takeOpen x e
  | .keep c, x, e => takeKeepExpiry x c e
  | .clearing, x, e => takeClearingExpiry x e
  | .hold, x, e => takeHoldExpiry x e
  | .lift c, x, e => takeLift x c e

/-- The entry as it is, or after one booked-claimant change. -/
def SectorEntry.ToldOnce (z : SectorContext) (e r : SectorEntry) : Prop :=
  r = e ∨ ∃ left cl, r = (takeClaimant z left cl e).1

/-- Everything that a notice or a command can make of a sector's entry `e` in context `x`, with the sector's record and
the site's mode after it. -/
inductive SectorMove (x : SectorContext) (e : SectorEntry) (record : SectorRecord) (mode : Mode) : SectorEntry → Prop
  | kept (hr : record = x.record) (hm : mode = .config → x.armed = false ∨ x.record.enabled = false) :
      SectorMove x e record mode e
  | event (v : EntryEvent) (hr : record = x.record) (hm : mode = .config → x.armed = false)
      (hon : x.record.enabled = true) (hv : v = .close → x.armed = true) : SectorMove x e record mode (v.run x e).1
  | ticked (hr : record = x.record) (hm : mode = .config → x.armed = false) : SectorMove x e record mode (runClearing e)
  | second (hr : record = x.record) (hm : mode = .config → x.armed = false) :
      SectorMove x e record mode (runSectorSecond (runClearing e))
  | written (ha : x.armed = false) : SectorMove x e record mode (if record.enabled = true then e else .reset)
  | setUp (z : SectorContext) (presence obstruction : List Crane) (cl : Option Claimant) (e' : SectorEntry)
      (hr : record = x.record) (hon : x.record.enabled = true) (hm : mode = .armed)
      (h : (takeArm z presence obstruction cl e).1.ToldOnce z e') : SectorMove x e record mode e'
  | cleared (z : SectorContext) (e' : SectorEntry) (hr : record = x.record) (hon : x.record.enabled = true)
      (hz : z.armed = false) (h : (takeDisarm e).1.ToldOnce z e') : SectorMove x e record mode e'
  | reset : SectorMove x e record mode .reset

/-- What becomes of sector `k`'s entry between two states. -/
def State.Moves (s t : State) (k : Sector) : Prop :=
  SectorMove (s.sectorContext k) (s.entry k) (t.sector k) t.mode (t.entry k)

variable {s t : State} {k : Sector}

/-- The fields that the sector arbiter's claims are about. -/
def State.sectorFields (s : State) : Mode × Bank 16 SectorRecord × Bank 16 SectorEntry := (s.mode, s.sectors, s.entries)

theorem armed_of_mode (h : s.mode ≠ .config) : (s.sectorContext k).armed = true := by
  have hm : s.mode = .armed := by
    cases hm : s.mode with
    | config => exact absurd hm h
    | armed => rfl
  simp [State.sectorContext, hm]

theorem unarmed_of_mode (h : s.mode = .config) : (s.sectorContext k).armed = false := by
  simp [State.sectorContext, h]

/-- What follows and leaves the arbiter's fields alone adds nothing. -/
theorem State.Moves.then_fields {u : State} (h : s.Moves t k) (hf : u.sectorFields = t.sectorFields) : s.Moves u k := by
  obtain ⟨hm, hs, he⟩ : u.mode = t.mode ∧ u.sectors = t.sectors ∧ u.entries = t.entries := by
    simpa [State.sectorFields] using hf
  unfold State.Moves State.sector State.entry at *
  rw [hm, hs, he]
  exact h

theorem State.Moves.refl (s : State) (k : Sector) : s.Moves s k := .kept rfl fun h => .inl (unarmed_of_mode h)

theorem State.Moves.of_fields (h : t.sectorFields = s.sectorFields) (k : Sector) : s.Moves t k :=
  (State.Moves.refl s k).then_fields h

/-- States that differ in one block's fields only, none of them the arbiter's. -/
theorem sectorFields_of_frame {blank : State → State} (hb : blank t = blank s)
    (hp : ∀ u, (blank u).sectorFields = u.sectorFields := by intro _; rfl) : t.sectorFields = s.sectorFields :=
  (hp t).symm.trans ((congrArg State.sectorFields hb).trans (hp s))

/-- A block that leaves the arbiter's fields alone moves no entry. -/
theorem State.Moves.of_frame {blank : State → State} (hb : blank t = blank s) (k : Sector)
    (hp : ∀ u, (blank u).sectorFields = u.sectorFields := by intro _; rfl) : s.Moves t k :=
  .of_fields (sectorFields_of_frame hb hp) k

/-- One event of sector `j`'s entry. -/
theorem entryEvent_moves (v : EntryEvent) (hv : v = .close → s.mode ≠ .config) (j k : Sector) :
    s.Moves (entryEvent j v.run s) k := by
  have htakes := entryEvent_taken j v.run s
  generalize entryEvent j v.run s = t at htakes
  have hsector : t.sector k = s.sector k := by rw [htakes]; rfl
  have hmode : t.mode = s.mode := by rw [htakes]
  have hentry : t.entry k = if k = j then (s.taken j v.run).1 else s.entry k := by
    rw [htakes]; exact Bank.read_write _ _ _ _
  unfold State.Moves
  rw [hsector, hmode, hentry]
  by_cases hk : k = j
  · subst hk
    rw [if_pos rfl, State.taken]
    by_cases hon : (s.sector k).enabled = true
    · rw [if_pos hon]
      exact .event v rfl unarmed_of_mode hon fun h => armed_of_mode (hv h)
    · rw [if_neg hon]
      exact State.Moves.refl s k
  · rw [if_neg hk]
    exact State.Moves.refl s k

/-! ### Disarming (R78, R100) -/

/-- R78: the entries cleared one by one. -/
theorem clearSectors_eq (s : State) :
    clearSectors s =
      { s with
          entries := s.entries.updateAt fun k e => if (s.sector k).enabled = true then (takeDisarm e).1 else e } := by
  have hfold (ks : List Sector) (hn : ks.Nodup) (u : State) (hs : u.sectors = s.sectors) :
      ks.foldl (fun t k => if (t.sector k).enabled then t.setEntry k (takeDisarm (t.entry k)).1 else t) u =
        { u with entries := u.entries.updateAt fun k e =>
            if k ∈ ks ∧ (s.sector k).enabled = true then (takeDisarm e).1 else e } := by
    induction ks generalizing u with
    | nil =>
      have hsame : u.entries = u.entries.updateAt fun k e =>
          if k ∈ ([] : List Sector) ∧ (s.sector k).enabled = true then (takeDisarm e).1 else e :=
        Bank.ext_read fun i => by simp
      rw [← hsame]
      rfl
    | cons k ks ih =>
      rw [List.nodup_cons] at hn
      obtain ⟨v, hv⟩ : ∃ v, (if (u.sector k).enabled then u.setEntry k (takeDisarm (u.entry k)).1 else u) = v :=
        ⟨_, rfl⟩
      have hsector : u.sector k = s.sector k := by rw [State.sector, hs]; rfl
      have hframe : v = { u with entries := v.entries } := by rw [← hv]; split <;> rfl
      rw [List.foldl_cons, hv, ih hn.2 v (by rw [hframe]; exact hs), hframe]
      refine congrArg (fun b => ({ u with entries := b } : State)) (Bank.ext_read fun i => ?_)
      have hread : v.entries.read i =
          if i = k ∧ (s.sector k).enabled = true then (takeDisarm (u.entries.read i)).1 else u.entries.read i := by
        rw [← hv, hsector]
        by_cases hon : (s.sector k).enabled = true
        · rw [if_pos hon, State.setEntry_entries, Bank.read_write]
          by_cases hi : i = k
          · subst hi; simp [hon]; rfl
          · simp [hi]
        · simp [hon]
      rw [Bank.read_updateAt, Bank.read_updateAt, hread]
      by_cases hi : i = k
      · subst hi; simp [hn.1]
      · simp [hi]
  refine (hfold allSectors allSectors_nodup s rfl).trans ?_
  simp only [mem_allSectors, true_and]

/-- R164: the state whose entries are cleared. -/
def State.clearing (s : State) : State :=
  { s with
    mode := .config
    entries := s.entries.updateAt fun k e => if (s.sector k).enabled = true then (takeDisarm e).1 else e }

theorem clearing_entry (k : Sector) :
    s.clearing.entry k = if (s.sector k).enabled = true then (takeDisarm (s.entry k)).1 else s.entry k :=
  Bank.read_updateAt _ _ _

/-- R100: the booking table after a disarming. -/
def State.rejudged (s : State) : List Booking :=
  s.bookings.map (({ s with mode := .config } : State).evaluateBooking .mode)

/-- R100, R106, R107: the bookings judged and the arbiter told, before the permits are issued. -/
theorem disarmBookings_spec (s : State) :
    let events := changeEvents s.bookings s.rejudged ++ allSectors.flatMap fun k => (s.clearing.told s.rejudged k).2
    disarmBookings (clearSectors { s with mode := .config }) =
      { s with
        mode := .config
        entries := (disarmBookings (clearSectors { s with mode := .config })).entries
        bookings := s.rejudged
        events := (s.postAll events).events
        overflow := (s.postAll events).overflow
        inFlight := (disarmBookings (clearSectors { s with mode := .config })).inFlight } ∧
    ∀ k, (disarmBookings (clearSectors { s with mode := .config })).entry k = (s.clearing.told s.rejudged k).1 := by
  intro events
  have hclear : clearSectors { s with mode := .config } = s.clearing := clearSectors_eq _
  obtain ⟨hframe, hentry⟩ := changeBookingsAtOnce_spec (s := s.clearing) (after := s.rejudged)
    (evs := changeEvents s.bookings s.rejudged) rfl
  obtain ⟨he, ho⟩ := postAll_congr (s := s) (t := s.clearing) events rfl rfl rfl rfl rfl
  have hdisarm : disarmBookings (clearSectors { s with mode := .config }) =
      s.clearing.changeBookingsAtOnce s.rejudged (changeEvents s.bookings s.rejudged) := by
    rw [hclear]; rfl
  rw [hdisarm]
  refine ⟨hframe.trans ?_, hentry⟩
  rw [he, ho]
  rfl

/-! ### Operations, notices and commands -/

theorem told_toldOnce (after : List Booking) (hon : (s.sector k).enabled = true) :
    (s.entry k).ToldOnce (s.sectorContext k) (s.told after k).1 := by
  unfold State.told
  split
  · rw [State.taken, if_pos hon]
    exact .inr ⟨_, _, rfl⟩
  · exact .inl rfl

theorem armSite_moves (s : State) (k : Sector) : s.Moves (armSite s) k := by
  obtain ⟨hframe, hentry⟩ := armSite_spec s
  obtain ⟨armed, harmed⟩ : ∃ armed : State, armed = { s with mode := .armed } := ⟨_, rfl⟩
  rw [← harmed] at hentry
  have hmode : (armSite s).mode = .armed := by rw [hframe]
  have hrecord : (armSite s).sector k = s.sector k := by rw [hframe]; rfl
  have hsame : armed.sector k = s.sector k ∧ armed.entry k = s.entry k := by rw [harmed]; exact ⟨rfl, rfl⟩
  have hon_iff : (armed.sector k).enabled = (s.sector k).enabled := by rw [hsame.1]
  unfold State.Moves
  rw [hentry]
  cases hon : (s.sector k).enabled with
  | true =>
    refine .setUp (armed.settingUp.sectorContext k) (armed.presentIn k) (armed.obstructing k) (armed.tableClaimant k) _
      hrecord hon hmode ?_
    have htold := told_toldOnce (s := armed.settingUp) (k := k) armed.judged (hon_iff.trans hon)
    rw [settingUp_entry, setUp_enabled (hon_iff.trans hon), hsame.2] at htold
    exact htold
  | false =>
    rw [told_setUp_disabled (hon_iff.trans hon), hsame.2]
    exact .kept hrecord fun _ => .inr hon

theorem disarmSite_moves (s : State) (k : Sector) : s.Moves (disarmSite s) k := by
  obtain ⟨hframe, hentry⟩ := disarmBookings_spec s
  unfold disarmSite
  generalize disarmBookings (clearSectors { s with mode := .config }) = u at hframe hentry
  have hissue := frame_of_butPermits (issueAll_butPermits u)
  have hrecord : ((issueAll u).post (eventOf .disarmed)).sector k = s.sector k := by
    rw [State.post_sector, hissue, hframe]; rfl
  have hentries : ((issueAll u).post (eventOf .disarmed)).entry k = u.entry k := by
    rw [State.post_entry, hissue]; rfl
  unfold State.Moves
  rw [hentries, hentry]
  by_cases hon : (s.sector k).enabled = true
  · refine .cleared (s.clearing.sectorContext k) _ hrecord hon rfl ?_
    have htold := told_toldOnce (s := s.clearing) (k := k) s.rejudged hon
    rw [clearing_entry, if_pos hon] at htold
    exact htold
  · have hoff : (s.sector k).enabled = false := by simpa using hon
    rw [told_disabled (s := s.clearing) hoff, clearing_entry, if_neg hon]
    exact .kept hrecord fun _ => .inr hoff

/-- R78: a sector record is written, and the entry of a sector disabled by it reset. -/
theorem putSector_fields (j : Sector) (r : SectorRecord) (s : State) :
    (putSector j r s).sectorFields =
      (s.mode, s.sectors.write j r, if r.enabled = true then s.entries else s.entries.write j .reset) := by
  have hmembers (skip : Option Sector) :
      (recomputeMembers j (s.sector j).members skip (s.setSector j r)).sectorFields = (s.setSector j r).sectorFields :=
    foldl_keeps State.sectorFields (fun t c => recomputePresence c skip t) (fun _ _ => rfl) _ _
  unfold putSector
  dsimp only
  split
  · exact hmembers none
  · have hfields := hmembers (some j)
    generalize recomputeMembers j (s.sector j).members (some j) (s.setSector j r) = u at hfields
    obtain ⟨hm, hs, he⟩ : u.mode = s.mode ∧ u.sectors = s.sectors.write j r ∧ u.entries = s.entries := by
      simpa [State.sectorFields] using hfields
    simp [State.sectorFields, State.setEntry, hm, hs, he]

theorem putSector_moves (hm : s.mode = .config) (j k : Sector) (r : SectorRecord) : s.Moves (putSector j r s) k := by
  have hfields := putSector_fields j r s
  generalize putSector j r s = t at hfields
  obtain ⟨hmode, hsectors, hentries⟩ : t.mode = s.mode ∧ t.sectors = s.sectors.write j r ∧
      t.entries = if r.enabled = true then s.entries else s.entries.write j .reset := by
    simpa [State.sectorFields] using hfields
  have hrecord : t.sector k = if k = j then r else s.sector k :=
    (congrArg (Bank.read · k) hsectors).trans (Bank.read_write _ _ _ _)
  have hentry : t.entry k = if r.enabled = true then s.entry k else if k = j then .reset else s.entry k := by
    rw [State.entry, hentries]
    split
    · rfl
    · exact Bank.read_write _ _ _ _
  unfold State.Moves
  rw [hrecord, hmode, hentry]
  by_cases hk : k = j
  · rw [if_pos hk, if_pos hk]
    exact .written (unarmed_of_mode hm)
  · rw [if_neg hk, if_neg hk, ite_self]
    exact State.Moves.refl s k

/-- A write of a crane record leaves the sectors alone. -/
theorem makeAbsent_fields (c : Crane) (s : State) : (makeAbsent c s).sectorFields = s.sectorFields := by
  have hlost : (recomputePresence c none (loseAbsent c (s.setCrane c .absent))).sectorFields = s.sectorFields :=
    (sectorFields_of_frame (loseAbsent_butPositions c (s.setCrane c .absent))).trans rfl
  unfold makeAbsent
  dsimp only
  generalize recomputePresence c none (loseAbsent c (s.setCrane c .absent)) = u at hlost ⊢
  rw [sectorFields_of_frame (State.refreshLines_butGenerators _)]
  split
  · exact (sectorFields_of_frame (selectSources_butWinds none _)).trans hlost
  · exact hlost

theorem makePresent_fields (c : Crane) (r : CraneRecord) (s : State) :
    (makePresent c r s).sectorFields = s.sectorFields := by
  unfold makePresent
  dsimp only
  rw [sectorFields_of_frame (State.refreshLines_butGenerators _)]
  split
  · rfl
  · exact (sectorFields_of_frame (selectSources_butWinds none _)).trans rfl

/-- What an operation of the operations table makes of an entry. -/
theorem Operates.moves (ho : Operates s t) (k : Sector) : s.Moves t k := by
  cases ho with
  | same => exact .refl s k
  | site => exact .of_fields rfl k
  | absent c => exact .of_fields (makeAbsent_fields c s) k
  | present c fields r => exact .of_fields (makePresent_fields c r s) k
  | assembly => exact .of_fields rfl k
  | zone c z => exact .of_fields rfl k
  | sector j r hm => exact putSector_moves hm j k r
  | profile n p =>
    have hcounting := foldl_keeps State.sectorFields (fun t c => t.setWind c (restartCounting (t.windOf c)))
      (fun _ _ => rfl) (allCranes.filter fun c => (s.crane c).profile == n) (s.setProfile n p)
    exact .of_fields hcounting k
  | pattern cond p =>
    have hshowing := sectorFields_of_frame
      (State.restartShowing_butGenerators { s with patterns := setPattern s.patterns cond p } cond)
    exact .of_fields hshowing k
  | arm => exact armSite_moves s k
  | disarm => exact disarmSite_moves s k
  | clock n =>
    have hwindows := sectorFields_of_frame
      (evaluateWindows_butBookings .clock { s with clock := BitVec.ofNat 32 n, clockSet := true })
    exact .of_fields hwindows k
  | mask => exact .of_fields rfl k
  | book b => exact .of_frame (addBooking_butBookings _ _) k
  | cancel id => exact .of_frame (cancelBooking_butBookings _ _) k
  | purge => exact .of_fields rfl k
  | close j hm => exact entryEvent_moves .close (fun _ => hm) j k
  | openUp j => exact entryEvent_moves .reopen nofun j k
  | vane c => exact .of_frame (enterVanePending_butWinds _ _ _) k
  | resume c => exact .of_frame (resumeCrane_butWinds _ _) k

theorem takeFrame_moves (f : GoodFrame) (s : State) (k : Sector) : s.Moves (takeFrame f s) k := by
  have handed (c : Crane) (g : State → State) (hg : s.Moves (g s) k) : s.Moves (handOn c g s) k := by
    unfold handOn
    split
    · exact hg
    · exact .of_fields rfl k
  cases f with
  | motion c m => exact handed _ _ (.of_frame (takeMotion_butPositions c m s) k)
  | wind c w => exact handed _ _ (.of_frame (takeWind_butWinds c w s) k)
  | demand c d => exact handed _ _ (.of_frame (takeDemand_butPermits c d s) k)
  | request tag code ops =>
    rcases takeRequest_cases tag code ops s with he | ⟨t, reply, ht, he⟩
    · rw [takeFrame, he]; exact .refl s k
    · rw [takeFrame, he]; exact (ht.moves k).then_fields rfl

theorem expire_moves (e : Expiry) (s : State) (k : Sector) : s.Moves (expire e s) k := by
  cases e with
  | positionStale c => exact .of_frame (expirePosition_butPositions _ _) k
  | windStale c => exact .of_frame (expireWindStale_butWinds _ _) k
  | demandTimeout c => exact .of_frame (expireDemand_butPermits _ _) k
  | refresh c => exact .of_frame (expireRefresh_butPermits _ _) k
  | keep j c => exact entryEvent_moves (.keep c) nofun j k
  | clearing j => exact entryEvent_moves .clearing nofun j k
  | hold j => exact entryEvent_moves .hold nofun j k
  | recovery c => exact .of_frame (expireRecovery_butWinds _ _) k
  | vaneDelay c => exact .of_frame (expireVaneDelay_butWinds _ _) k
  | vaneTimeout c => exact .of_frame (expireVaneTimeout_butWinds _ _) k
  | phaseEnd n => exact .of_frame (State.endPhase_butGenerators _ _) k

/-- R75: a lift is taken by the entry of the sector its crane is present in. -/
theorem attributeLift_moves (c : Crane) (s : State) (k : Sector) : s.Moves (attributeLift c s) k := by
  unfold attributeLift
  split
  · next j _ =>
    have hmoves := entryEvent_moves (s := s) (.lift c) nofun j k
    dsimp only
    split
    · exact hmoves.then_fields rfl
    · exact hmoves
  · exact .refl s k

theorem post_fields (b : EventBody) (s : State) : (s.post b).sectorFields = s.sectorFields := by
  simp [State.sectorFields]

theorem testOverload_fields (c : Crane) (x : Nat) (s : State) : (testOverload c x s).sectorFields = s.sectorFields := by
  unfold testOverload
  dsimp only
  split
  · rfl
  · split
    · rfl
    · exact post_fields _ _

/-- R86: a completed lift is attributed within the sample's event. -/
theorem completeLift_moves (c : Crane) (s : State) (k : Sector) : s.Moves (completeLift c s) k := by
  have hlift : s.Moves (attributeLift c (s.setDetector c { s.detector c with lifts := (s.detector c).lifts + 1 })) k :=
    attributeLift_moves c (s.setDetector c { s.detector c with lifts := (s.detector c).lifts + 1 }) k
  exact hlift.then_fields (post_fields _ _)

theorem takeSample_moves (c : Crane) (x : Nat) (s : State) (k : Sector) : s.Moves (takeSample c x s) k := by
  unfold takeSample
  dsimp only
  refine State.Moves.then_fields (t := if (applySample (s.crane c) (s.noPick c) x (raisePeak x (s.detector c))).2 = true
      then completeLift c (s.setDetector c (applySample (s.crane c) (s.noPick c) x (raisePeak x (s.detector c))).1)
      else s.setDetector c (applySample (s.crane c) (s.noPick c) x (raisePeak x (s.detector c))).1) ?_
    (testOverload_fields c x _)
  split
  · exact completeLift_moves c (s.setDetector c _) k
  · exact .of_fields rfl k

/-- What a notice makes of an entry. -/
theorem takeNotice_moves (n : Notice) (s : State) (k : Sector) : s.Moves (takeNotice n s) k := by
  cases n with
  | frame f => exact takeFrame_moves f s k
  | presence j c ch => exact entryEvent_moves (.report c ch) nofun j k
  | knock j c => exact entryEvent_moves (.knock c) nofun j k
  | claimant j left cl => exact entryEvent_moves (.claimant left cl) nofun j k
  | lock j c => exact entryEvent_moves (.lock c) nofun j k
  | unlock j c => exact entryEvent_moves (.unlock c) nofun j k
  | liftCount id => exact .of_frame (takeLiftCount_butBookings _ _) k
  | loadSample c x => exact takeSample_moves c x s k
  | motionTaken c => exact .of_frame (takeMotionNotice_butWinds _ _) k
  | limit c => exact .of_frame (takeLimitNotice_butPermits _ _) k
  | evaluation c => exact .of_frame (takeEvaluation_butWinds _ _) k
  | craneCondition c => exact .of_frame (takeCraneCondition_butBookings _ _) k
  | handshake j => exact .of_frame (takeHandshake_butWinds _ _) k
  | beacon c cond => exact .of_frame (State.showCondition_butGenerators _ _ _) k
  | expiry e =>
    simp only [takeNotice]
    split
    · exact expire_moves e s k
    · exact .refl s k
  | clockAdvance => simp only [takeNotice, advanceClock]; split <;> exact .of_fields rfl k
  | minuteBoundary => exact .of_frame (evaluateWindows_butBookings _ _) k
  | holdAsserted =>
    simp only [takeNotice, assertHold]
    split
    · exact .refl s k
    · have hposted := post_fields (eventOf .siteHold none none 1) { s with hold := true }
      exact .of_fields ((sectorFields_of_frame (issueAll_butPermits _)).trans hposted) k
  | holdReleased =>
    simp only [takeNotice, releaseHold]
    split
    · exact .of_fields (post_fields (eventOf .siteHold none none 0) { s with hold := false }) k
    · exact .refl s k
  | tickDone => exact .refl s k

theorem sampleHold_fields (low : Bool) (s : State) : (sampleHold low s).sectorFields = s.sectorFields := by
  unfold sampleHold
  dsimp only
  repeat' split
  all_goals rfl

/-- R170: a tick runs the clearing timers down, and the 100th the timers counted in seconds as well. -/
theorem takeTick_moves (holdLow : Bool) (s : State) (k : Sector) : s.Moves (takeTick holdLow s) k := by
  unfold takeTick
  dsimp only
  obtain ⟨u, hu⟩ : ∃ u, runTickTimers { s with cycles := 0, divisor := s.site.tickDivisor } = u := ⟨_, rfl⟩
  have hkept : u.sectors = s.sectors ∧ u.mode = s.mode := by rw [← hu]; exact ⟨rfl, rfl⟩
  have hentry : u.entry k = runClearing (s.entry k) := by rw [← hu]; exact Bank.read_update _ _ _
  have hsector : u.sector k = s.sector k := by rw [State.sector, hkept.1]; rfl
  rw [hu]
  split
  · obtain ⟨v, hv⟩ : ∃ v, takeSecond { u.send (u.expiries tickTimers) with ticks := 0 } = v := ⟨_, rfl⟩
    have hsecond : v.entry k = runSectorSecond (u.entry k) := by rw [← hv]; exact Bank.read_update _ _ _
    have hsame : v.sector k = u.sector k ∧ v.mode = u.mode := by rw [← hv]; exact ⟨rfl, rfl⟩
    rw [hv]
    refine State.Moves.then_fields (t := v) ?_ (sampleHold_fields holdLow v)
    unfold State.Moves
    rw [hsecond, hentry, hsame.1, hsame.2, hsector, hkept.2]
    exact .second rfl unarmed_of_mode
  · refine State.Moves.then_fields (t := u) ?_ (sampleHold_fields holdLow _)
    unfold State.Moves
    rw [hentry, hsector, hkept.2]
    exact .ticked rfl unarmed_of_mode

/-- R54, R169: a device in reset has every entry at its reset value. -/
theorem State.Moves.of_reset (h : t.entries = State.cleared.entries) (k : Sector) : s.Moves t k := by
  have hentry : t.entry k = .reset := by
    rw [State.entry, h]
    exact Bank.read_fill _ _
  unfold State.Moves
  rw [hentry]
  exact .reset

theorem takeReset_moves (trigger : ResetTrigger) (s : State) (k : Sector) : s.Moves (takeReset trigger s) k := by
  unfold takeReset
  dsimp only
  repeat' split
  · exact .of_reset rfl k
  · exact .of_reset rfl k
  · exact .of_reset rfl k
  · exact .of_fields rfl k

/-- What a command makes of an entry. -/
theorem Acts.moves (ha : Acts s t) (k : Sector) : s.Moves t k := by
  have rescanned (l : Link) (stored : List Byte) {u : State} (hu : u.sectorFields = s.sectorFields) :
      s.Moves (rescanOctets l stored u) k :=
    .of_fields ((congrArg State.sectorFields (rescanOctets_frame l stored u)).trans hu) k
  cases ha with
  | frame f => exact takeFrame_moves f (s.setReceiver f.link .hunting) k
  | unknown tag code =>
    unfold request answerRequest
    split <;> exact .of_fields rfl k
  | notice n => exact takeNotice_moves n s k
  | expiry e => exact expire_moves e s k
  | misdirected l => exact .of_fields rfl k
  | length l kind len => exact rescanned l _ rfl
  | crc l octets => exact rescanned l _ rfl
  | permitSent c => exact .of_frame (completePermit_butPermits _ _) k
  | begins =>
    unfold beginSending
    split
    · exact .refl s k
    · split <;> exact .of_fields rfl k
  | replySent => unfold completeReply; split <;> exact .of_fields rfl k
  | eventSent => unfold completeEvent; split <;> exact .of_fields rfl k
  | posting b => exact .of_fields (post_fields b s) k
  | lift c => exact attributeLift_moves c s k
  | tick holdLow => exact takeTick_moves holdLow s k
  | reset trigger => exact takeReset_moves trigger s k
  | resetEnd =>
    unfold endReset
    split
    · exact .refl s k
    · exact .of_reset rfl k

end Sys2Proof.Machine
end

/-! ## Disabled sectors and the entries in CONFIG stay idle (R54, R78): O9; entries stay sound (R55, R57, R61,
R73): O12 -/

section
namespace Sys2Proof.Machine

variable {x : SectorContext} {e e' : SectorEntry} {s t : State}

/-! ### Entries in CONFIG (R78) -/

/-- R78: an entry is FREE with nothing queued, locked or closed. -/
def SectorEntry.Idle (e : SectorEntry) : Prop := e.base = .free ∧ e.queue = [] ∧ e.locks = [] ∧ e.closed = false

theorem reset_idle : SectorEntry.reset.Idle := ⟨rfl, rfl, rfl, rfl⟩

theorem SectorEntry.Idle.unowned (h : e.Idle) : ownerOf e = none := by rw [ownerOf, h.1]

/-- Without an owner there is no grant record to change. -/
theorem SectorEntry.Regrants.of_unowned (h : e.Regrants e') (hn : ownerOf e = none) : e' = e := by
  obtain ⟨f, rfl⟩ := h
  exact mapGrant_none (ownerOf_eq_none_iff.mp hn)

/-- R69: where nobody owns a grant, a booked-claimant change is recorded and the entry judged. -/
theorem takeClaimant_unowned (hn : ownerOf e = none) (left : List (Half × BookingState)) (cl : Option Claimant) :
    takeClaimant x left cl e = judge x none { e with claimant := cl } := by
  have hg : grantOf e = none := ownerOf_eq_none_iff.mp hn
  have hlisted : endListed x left e = (e, []) := by rw [endListed, hg]
  have hrecorded : grantOf { e with claimant := cl } = none := hg
  have howner : ownerOf { e with claimant := cl } = none := hn
  have happlied : applyClaimant x { e with claimant := cl } = ({ e with claimant := cl }, []) := by
    unfold applyClaimant
    rw [hrecorded, howner]
    cases cl <;> rfl
  have harrives : waiterArrives x { e with claimant := cl } = ({ e with claimant := cl }, []) := by
    rw [waiterArrives, hrecorded]
  unfold takeClaimant
  simp only [hlisted, happlied, harrives, chain, ite_self, List.nil_append]

/-- R78: in CONFIG an entry that takes an event stays idle; a sector is closed in the ARMED site only. -/
theorem EntryEvent.run_idle (v : EntryEvent) (ha : x.armed = false) (hv : v ≠ .close) (h : e.Idle) :
    (v.run x e).1.Idle := by
  have hn := h.unowned
  obtain ⟨hb, hq, hl, hc⟩ := h
  have hsame : e.Idle := ⟨hb, hq, hl, hc⟩
  cases v with
  | report c ch =>
    have hfree : stateOf x.record.clash e = .free := stateOf_free.mpr ⟨hc, hl, hb⟩
    have hbase : reportBase x c ch e = (applyReport c ch e, []) := by
      unfold reportBase
      rw [hfree]
    rw [run, takeReport, chain_fst, judge_unarmed ha, hbase]
    refine ⟨hb, ?_, hl, hc⟩
    rw [applyReport_queue, hq]
    split <;> rfl
  | knock c => rw [run, takeKnock, if_pos (by simp [ha])]; exact hsame
  | claimant left cl =>
    rw [run, takeClaimant_unowned hn, judge_unarmed ha]
    exact hsame
  | lock c => rw [run, takeLock, if_neg (by simp [ha])]; exact hsame
  | unlock c =>
    rw [run, takeUnlock]
    split
    · rw [judge_unarmed ha]
      exact ⟨hb, hq, by rw [hl]; rfl, hc⟩
    · exact hsame
  | close => exact absurd rfl hv
  | reopen => rw [run, takeOpen, if_neg (by simp [hc])]; exact hsame
  | keep c =>
    rw [run, takeKeepExpiry, if_neg (by simp [queued, hq])]
    exact hsame
  | clearing => rw [run, takeClearingExpiry, hb]; exact hsame
  | hold => rw [run, takeHoldExpiry, ownerOf_eq_none_iff.mp hn]; exact hsame
  | lift c =>
    have hanswer : answerLift x c e = .craneOnly := by rw [answerLift, hb]
    rw [run, takeLift, hanswer]
    exact hsame

theorem ToldOnce.idle {z : SectorContext} (h : e.ToldOnce z e') (ha : z.armed = false) (he : e.Idle) : e'.Idle := by
  obtain rfl | ⟨left, cl, rfl⟩ := h
  · exact he
  · exact EntryEvent.run_idle (.claimant left cl) ha nofun he

/-- R170: a tick leaves an idle entry as it is. -/
theorem runClearing_idle (h : e.Idle) : runClearing e = e := by
  obtain ⟨base, queue, locks, closed, presence, obstruction, claimant⟩ := e
  obtain ⟨rfl, -, -, -⟩ := h
  rfl

theorem runSectorSecond_idle (h : e.Idle) : runSectorSecond e = e := by
  obtain ⟨base, queue, locks, closed, presence, obstruction, claimant⟩ := e
  obtain ⟨rfl, rfl, -, -⟩ := h
  rfl

/-- R54, R78: what a notice or a command makes of an entry at rest. -/
theorem SectorMove.idle {record : SectorRecord} {mode : Mode} (h : SectorMove x e record mode e')
    (hoff : x.record.enabled = false → e = .reset) (hconfig : x.armed = false → e.Idle) :
    (record.enabled = false → e' = .reset) ∧ (mode = .config → e'.Idle) := by
  have hticked (hr : record = x.record) (hm : mode = .config → x.armed = false) {f : SectorEntry → SectorEntry}
      (hf : ∀ u : SectorEntry, u.Idle → f u = u) : (record.enabled = false → f e = .reset) ∧ (mode = .config → (f e).Idle) := by
    refine ⟨fun hd => ?_, fun hc => ?_⟩
    · rw [hoff (hr ▸ hd), hf _ reset_idle]
    · rw [hf _ (hconfig (hm hc))]; exact hconfig (hm hc)
  cases h with
  | kept hr hm =>
    refine ⟨fun hd => hoff (hr ▸ hd), fun hc => ?_⟩
    rcases hm hc with ha | hd
    · exact hconfig ha
    · rw [hoff hd]; exact reset_idle
  | event v hr hm hon hv =>
    refine ⟨fun hd => absurd (hr ▸ hd : x.record.enabled = false) (by simp [hon]), fun hc => ?_⟩
    exact v.run_idle (hm hc) (fun h => absurd (hv h) (by simp [hm hc])) (hconfig (hm hc))
  | ticked hr hm => exact hticked hr hm fun _ => runClearing_idle
  | second hr hm =>
    exact hticked hr hm (f := fun u => runSectorSecond (runClearing u)) fun u hu => by
      rw [runClearing_idle hu, runSectorSecond_idle hu]
  | written ha =>
    split
    · next hon => exact ⟨fun hd => absurd hon (by simp [hd]), fun _ => hconfig ha⟩
    · exact ⟨fun _ => rfl, fun _ => reset_idle⟩
  | setUp z presence obstruction cl _ hr hon hm =>
    exact ⟨fun hd => absurd (hr ▸ hd : x.record.enabled = false) (by simp [hon]), fun hc => absurd hc (by simp [hm])⟩
  | cleared z _ hr hon hz h =>
    exact ⟨fun hd => absurd (hr ▸ hd : x.record.enabled = false) (by simp [hon]),
      fun _ => ToldOnce.idle h hz ⟨rfl, rfl, rfl, rfl⟩⟩
  | reset => exact ⟨fun _ => rfl, fun _ => reset_idle⟩

theorem State.SectorsIdle.moved (h : s.SectorsIdle) (hm : ∀ k, s.Moves t k) : t.SectorsIdle := by
  obtain ⟨hoff, hconfig⟩ := h
  have hmode (k : Sector) (ha : (s.sectorContext k).armed = false) : s.mode = .config :=
    not_imp_comm.mp (armed_of_mode (k := k)) (by simp [ha])
  have hmoved (k : Sector) := (hm k).idle (hoff k) fun ha => hconfig (hmode k ha) k
  exact ⟨fun k => (hmoved k).1, fun hc k => (hmoved k).2 hc⟩

/-- Settles O9: a disabled sector's entry takes nothing, and in CONFIG no event of an entry begins a grant, a queue, a
lock or a closure; so no notice, no command and no step disturbs an entry at rest. -/
theorem sectorsStayIdle : Obligations.SectorsStayIdle := fun _ _ hs h =>
  step_keeps State.SectorsIdle (fun _ _ h => h) (fun _ _ h => h) (fun n s hs => hs.moved (takeNotice_moves n s))
    (fun i s hs => hs.moved (effect_acts i s).moves) hs h

/-! ### Sound entries -/

/-- R55, R57, R61, R73: an entry that takes an event stays sound. -/
theorem EntryEvent.run_sound (v : EntryEvent) (h : e.Sound) : (v.run x e).1.Sound := by
  cases v with
  | report c ch => exact judge_sound (reportBase_sound h ch)
  | knock c => exact takeKnock_sound h
  | claimant left cl => exact takeClaimant_sound h left cl
  | lock c => exact takeLock_sound h
  | unlock c => exact takeUnlock_sound h
  | close => exact takeClose_sound h
  | reopen => exact takeOpen_sound h
  | keep c => exact takeKeepExpiry_sound h
  | clearing => exact takeClearingExpiry_sound h
  | hold => exact takeHoldExpiry_sound h
  | lift c => exact takeLift_sound h

theorem ToldOnce.sound {z : SectorContext} (h : e.ToldOnce z e') (he : e.Sound) : e'.Sound := by
  obtain rfl | ⟨left, cl, rfl⟩ := h
  · exact he
  · exact takeClaimant_sound he left cl

theorem SectorMove.sound {record : SectorRecord} {mode : Mode} (h : SectorMove x e record mode e') (he : e.Sound) :
    e'.Sound := by
  cases h with
  | kept => exact he
  | event v => exact v.run_sound he
  | ticked => exact runClearing_sound he
  | second => exact runSectorSecond_sound (runClearing_sound he)
  | written =>
    split
    · exact he
    · exact reset_sound
  | setUp z presence obstruction cl _ _ _ _ h => exact ToldOnce.sound h (takeArm_sound presence obstruction cl)
  | cleared z _ _ _ _ h => exact ToldOnce.sound h takeDisarm_sound
  | reset => exact reset_sound

/-- Settles O12: every event that an entry takes keeps its queue free of repeats and of the holder, and ends the grant of
an entry that it closes or locks. -/
theorem sectorEntriesStaySound : Obligations.SectorEntriesStaySound := fun _ _ hs h =>
  step_keeps State.EntriesSound (fun _ _ h => h) (fun _ _ h => h)
    (fun n s hs k => (takeNotice_moves n s k).sound (hs k))
    (fun i s hs k => ((effect_acts i s).moves k).sound (hs k)) hs h

end Sys2Proof.Machine
end

/-! ## No sector is newly granted while a member obstructs it (R60): O43 -/

section
namespace Sys2Proof.Machine

variable {x : SectorContext} {e e' : SectorEntry} {c : Crane} {entering : Option Crane}

/-- Whoever owns the grant of the second entry owned that of the first, unless nobody obstructs the sector. -/
def SectorEntry.PassesOn (e e' : SectorEntry) : Prop :=
  e'.obstruction ≠ [] → ∀ d, ownerOf e' = some d → ownerOf e = some d

theorem SectorEntry.PassesOn.of_owner (h : ownerOf e' = ownerOf e) : e.PassesOn e' := fun _ _ hd => h.symm.trans hd

theorem SectorEntry.PassesOn.of_unowned (h : ownerOf e' = none) : e.PassesOn e' := fun _ _ hd =>
  absurd (h.symm.trans hd) nofun

theorem SectorEntry.Regrants.ownerOf_eq (h : e.Regrants e') : ownerOf e' = ownerOf e := by
  obtain ⟨f, rfl⟩ := h
  exact mapGrant_ownerOf f e

theorem SectorEntry.Regrants.obstruction_eq (h : e.Regrants e') : e'.obstruction = e.obstruction := by
  obtain ⟨f, rfl⟩ := h
  rfl

theorem judge_obstruction (x : SectorContext) (entering : Option Crane) (e : SectorEntry) :
    (judge x entering e).1.obstruction = e.obstruction := by
  rcases judge_cases x entering e with hj | hj | ⟨-, -, -, hj⟩
  · rw [hj]
  · rw [hj]; exact (clearIdleYield_regrants e).obstruction_eq
  · rcases hj.outcome with ⟨⟨b, -, he⟩, -⟩ | ⟨-, c, g, how, rest, he, -⟩ <;> rw [he]

/-- R60: while a member obstructs the sector, an entry judged is granted to nobody. -/
theorem judge_passesOn (x : SectorContext) (entering : Option Crane) (e : SectorEntry) :
    e.PassesOn (judge x entering e).1 := by
  rcases judge_cases x entering e with hj | hj | ⟨-, -, -, hj⟩
  · rw [hj]; exact .of_owner rfl
  · rw [hj]; exact .of_owner (clearIdleYield_regrants e).ownerOf_eq
  · rcases hj.outcome with ⟨⟨b, rfl | rfl, he⟩, -⟩ | ⟨ho, -⟩
    · rw [he]; exact .of_unowned rfl
    · rw [he]; exact .of_unowned rfl
    · intro hobstructed
      rw [judge_obstruction] at hobstructed
      exact absurd ho hobstructed

/-- A change that makes nobody an owner, and the judgement after it. -/
theorem SectorEntry.PassesOn.judged (h : ∀ d, ownerOf e' = some d → ownerOf e = some d) :
    e.PassesOn (judge x entering e').1 := fun ho d hd => h d (judge_passesOn x entering e' ho d hd)

theorem reportBase_ownerOf (ch : PresenceChange) : ownerOf (reportBase x c ch e).1 = ownerOf e := by
  have happlied : ownerOf (applyReport c ch e) = ownerOf e := rfl
  unfold reportBase
  dsimp only
  split
  · next hb =>
    split
    · next hc =>
      split
      · rw [ownerOf, ownerOf, hb, hc]
      · exact happlied
    · exact happlied
  · next hb =>
    split
    · next hc =>
      split
      · rw [ownerOf, ownerOf, hb, hc]
      · exact happlied
    · exact happlied
  · exact happlied
  · exact happlied

theorem enqueue_ownerOf : ownerOf (enqueue x c e).1 = ownerOf e := by
  unfold enqueue
  split
  · rfl
  · split
    · dsimp only
      split
      · rfl
      · exact (waiterArrives_regrants x _).ownerOf_eq
    · rfl

theorem dispossess_passes {cause : Nat} {d : Crane} (h : ownerOf (dispossess x cause e).1 = some d) :
    ownerOf e' = some d := by
  rw [dispossess_unowned] at h
  cases h

/-- R60: an entry that takes an event while a member obstructs the sector is granted to nobody. -/
theorem EntryEvent.run_passesOn (v : EntryEvent) : e.PassesOn (v.run x e).1 := by
  have hkept : e.PassesOn e := .of_owner rfl
  cases v with
  | report c ch => exact .judged fun d hd => (reportBase_ownerOf ch).symm.trans hd
  | knock c =>
    rw [run, takeKnock]
    split
    · exact hkept
    · split
      · exact hkept
      · refine .judged fun d hd => ?_
        split at hd
        · next g hg =>
          obtain ⟨-, left, hb⟩ := knockReturns_base hg
          cases hd
          rw [ownerOf, hb]
        · exact enqueue_ownerOf.symm.trans hd
  | claimant left cl =>
    obtain ⟨e', hr, he⟩ := takeClaimant_judges x left cl e
    rw [run, he]
    exact .judged fun d hd => hr.ownerOf_eq.symm.trans hd
  | lock c =>
    rw [run, takeLock]
    split
    · refine .judged fun d hd => ?_
      split at hd
      · exact dispossess_passes hd
      · exact hd
    · exact hkept
  | unlock c =>
    rw [run, takeUnlock]
    split
    · exact .judged fun d hd => hd
    · exact hkept
  | close =>
    rw [run, takeClose]
    split
    · exact hkept
    · refine .judged fun d hd => ?_
      split at hd
      · exact dispossess_passes hd
      · exact hd
  | reopen =>
    rw [run, takeOpen]
    split
    · exact .judged fun d hd => hd
    · exact hkept
  | keep c =>
    rw [run, takeKeepExpiry]
    split
    · exact .judged fun d hd => hd
    · exact hkept
  | clearing =>
    rw [run, takeClearingExpiry]
    split
    · have hfreed : e.PassesOn (judge x none { e with base := .free }).1 := .judged nofun
      rw [chain_fst, chain_fst]
      generalize (judge x none { e with base := .free }).1 = e2 at hfreed
      split
      · split
        · exact hfreed
        · exact hfreed
      · exact hfreed
    · exact hkept
  | hold =>
    rw [run, takeHoldExpiry]
    split
    · split
      · exact hkept
      · refine .judged fun d hd => ?_
        split at hd
        · exact ((SectorEntry.Regrants.of_map _ e).trans (setOverstay_regrants x _)).ownerOf_eq.symm.trans hd
        · exact ((SectorEntry.Regrants.of_map _ e).trans (.of_map _ _)).ownerOf_eq.symm.trans hd
    · exact hkept
  | lift c =>
    rw [run, takeLift]
    split
    · next g _ _ => exact .judged fun d hd => (countSlice_regrants x g e).ownerOf_eq.symm.trans hd
    · exact hkept

/-- R60, R77: nor is it at an arming. -/
theorem takeArm_obstructed {presence obstruction : List Crane} {cl : Option Claimant}
    (h : (takeArm x presence obstruction cl e).1.obstruction ≠ []) :
    ownerOf (takeArm x presence obstruction cl e).1 = none := by
  by_contra hn
  obtain ⟨d, hd⟩ := Option.ne_none_iff_exists'.mp hn
  have := judge_passesOn x none (freshEntry presence obstruction cl) h d hd
  cases this

/-- An entry without an owner, unless nobody obstructs the sector, still has none after a claimant change. -/
theorem ToldOnce.obstructed {z : SectorContext} (h : e.ToldOnce z e') (hn : e.obstruction ≠ [] → ownerOf e = none)
    (ho : e'.obstruction ≠ []) : ownerOf e' = none := by
  obtain rfl | ⟨left, cl, rfl⟩ := h
  · exact hn ho
  · obtain ⟨u, hr, he⟩ := takeClaimant_judges z left cl e
    have hsame : (takeClaimant z left cl e).1.obstruction = e.obstruction := by
      rw [he, judge_obstruction, hr.obstruction_eq]
    have hnone := hn (hsame ▸ ho)
    by_contra hne
    obtain ⟨d, hd⟩ := Option.ne_none_iff_exists'.mp hne
    have := EntryEvent.run_passesOn (.claimant left cl) ho d hd
    rw [hnone] at this
    cases this

/-- R60: what a notice or a command makes of an entry whose sector a member obstructs. -/
theorem SectorMove.passesOn {record : SectorRecord} {mode : Mode} (h : SectorMove x e record mode e') :
    e.PassesOn e' := by
  have hticked : ownerOf (runClearing e) = ownerOf e := by
    unfold ownerOf runClearing
    cases e.base <;> rfl
  cases h with
  | kept => exact .of_owner rfl
  | event v => exact v.run_passesOn
  | ticked => exact .of_owner hticked
  | second =>
    have hsecond : ownerOf (runSectorSecond (runClearing e)) = ownerOf (runClearing e) := mapGrant_ownerOf _ _
    exact .of_owner (hsecond.trans hticked)
  | written =>
    split
    · exact .of_owner rfl
    · exact .of_unowned rfl
  | setUp z presence obstruction cl _ _ _ _ h =>
    exact fun ho => SectorEntry.PassesOn.of_unowned (ToldOnce.obstructed h takeArm_obstructed ho) ho
  | cleared z _ _ _ _ h => exact fun ho => SectorEntry.PassesOn.of_unowned (ToldOnce.obstructed h (fun _ => rfl) ho) ho
  | reset => exact .of_unowned rfl

/-- Settles O43: a grant begins in an evaluation only, which leaves a sector that a member obstructs without one. -/
theorem noNewGrantWhileObstructed : Obligations.NoNewGrantWhileObstructed := by
  intro i s t hready he k h hobstructed hholder
  have hmoves : s.Moves t k := by
    rcases exec_cases he with rfl | rfl | rfl
    · exact .refl _ k
    · rw [settle_quiet hready.atRest]; exact (effect_acts i s).moves k
    · exact (effect_acts i s).moves k
  obtain ⟨g, hb⟩ := holderOf_iff.mp hholder
  exact hmoves.passesOn hobstructed h (ownerOf_iff.mpr (.inl ⟨g, hb⟩))

end Sys2Proof.Machine
end

/-! ## What is told of a sector's changes (R76): O44 -/

section
namespace Sys2Proof.Machine

variable {x : SectorContext} {e e' : SectorEntry} {c : Crane}

/-! ### What the events of an entry tell -/

/-- What of a grant record the permit path is told when it begins: its overstay flag, its yield flag, or the booking
that owns it. -/
inductive Mark where
  | overstay
  | yield
  | booked (id : Half)

/-- The grant record bears the mark. -/
def Mark.On : Mark → Grant → Prop
  | .overstay, g => g.overstay = true
  | .yield, g => g.yielding ≠ none
  | .booked id, g => g.kind = .booked id

/-- The event record shows that a mark of this kind has begun. -/
def Mark.Shows : Mark → EventBody → Prop
  | .overstay, b => b.kind = .overstay
  | .yield, b => b.kind = .yield
  | .booked _, b => b.kind = .grant ∧ b.argB = 1

/-- The event records of one or more changes of an entry show each grant that ended, no other as ended, and each mark
that began. -/
structure SectorEntry.Tells (e : SectorEntry) (y : EntryStep) : Prop where
  ended : ∀ o, ownerOf e = some o → ownerOf y.1 = some o ∨ ∃ b ∈ y.2, b.kind = .release ∧ b.crane = some o
  released : ∀ b ∈ y.2, b.kind = .release → ∃ o, ownerOf e = some o ∧ b.crane = some o
  marked : ∀ (m : Mark) o g, ownerOf y.1 = some o → grantOf y.1 = some g → m.On g →
    (∃ b ∈ y.2, m.Shows b ∧ b.crane = some o) ∨ ∃ g', ownerOf e = some o ∧ grantOf e = some g' ∧ m.On g'

/-- The same for changes of which none ends a grant. -/
def SectorEntry.Marks (e : SectorEntry) (y : EntryStep) : Prop := e.Tells y ∧ ∀ b ∈ y.2, b.kind ≠ .release

theorem SectorEntry.Tells.chain {y : EntryStep} {f : SectorEntry → EntryStep} (h : e.Tells y) (h' : y.1.Marks (f y.1)) :
    e.Tells (chain y f) := by
  obtain ⟨h', hsilent⟩ := h'
  refine ⟨fun o ho => ?_, fun b hb hk => ?_, fun m o g ho hg hm => ?_⟩
  · rcases h.ended o ho with hy | ⟨b, hb, hk⟩
    · rcases h'.ended o hy with hf | ⟨b, hb, hk⟩
      · exact .inl hf
      · exact absurd hk.1 (hsilent b hb)
    · exact .inr ⟨b, List.mem_append_left _ hb, hk⟩
  · rcases List.mem_append.mp hb with hb | hb
    · exact h.released b hb hk
    · exact absurd hk (hsilent b hb)
  · rcases h'.marked m o g ho hg hm with ⟨b, hb, hs⟩ | ⟨g', ho', hg', hm'⟩
    · exact .inl ⟨b, List.mem_append_right _ hb, hs⟩
    · rcases h.marked m o g' ho' hg' hm' with ⟨b, hb, hs⟩ | hold
      · exact .inl ⟨b, List.mem_append_left _ hb, hs⟩
      · exact .inr hold

theorem SectorEntry.Marks.chain {y : EntryStep} {f : SectorEntry → EntryStep} (h : e.Marks y) (h' : y.1.Marks (f y.1)) :
    e.Marks (chain y f) := by
  refine ⟨h.1.chain h', fun b hb => ?_⟩
  rcases List.mem_append.mp hb with hb | hb
  · exact h.2 b hb
  · exact h'.2 b hb

/-- A change of the grant record by which each mark that begins is shown. -/
theorem SectorEntry.Marks.regrant {f : Grant → Grant} {bs : List EventBody} (hs : ∀ b ∈ bs, b.kind ≠ .release)
    (h : ∀ (m : Mark) o g, ownerOf e = some o → grantOf e = some g → m.On (f g) →
      m.On g ∨ ∃ b ∈ bs, m.Shows b ∧ b.crane = some o) : e.Marks (mapGrant f e, bs) := by
  refine ⟨⟨fun o ho => .inl ((mapGrant_ownerOf f e).trans ho), fun b hb hk => absurd hk (hs b hb),
    fun m o g ho hg hm => ?_⟩, hs⟩
  rw [mapGrant_ownerOf] at ho
  rw [mapGrant_grantOf, Option.map_eq_some_iff] at hg
  obtain ⟨g', hg', rfl⟩ := hg
  rcases h m o g' ho hg' hm with hm' | hshown
  · exact .inr ⟨g', ho, hg', hm'⟩
  · exact .inl hshown

/-- A change that leaves the grant with its owner. -/
theorem SectorEntry.Marks.keep {bs : List EventBody} (ho : ownerOf e' = ownerOf e) (hg : grantOf e' = grantOf e)
    (hs : ∀ b ∈ bs, b.kind ≠ .release) : e.Marks (e', bs) := by
  refine ⟨⟨fun o h => .inl (ho.trans h), fun b hb hk => absurd hk (hs b hb), fun m o g h h' hm => ?_⟩, hs⟩
  exact .inr ⟨g, ho.symm.trans h, hg.symm.trans h', hm⟩

theorem SectorEntry.Marks.refl (e : SectorEntry) : e.Marks (e, []) := .keep rfl rfl nofun

/-- What follows a change that leaves the grant with its owner. -/
theorem SectorEntry.Tells.of_kept {y : EntryStep} (h : e'.Tells y) (ho : ownerOf e' = ownerOf e)
    (hg : grantOf e' = grantOf e) : e.Tells y := by
  obtain ⟨hended, hreleased, hmarked⟩ := h
  rw [ho] at hended
  simp only [ho] at hreleased
  simp only [ho, hg] at hmarked
  exact ⟨hended, hreleased, hmarked⟩

theorem SectorEntry.Marks.of_kept {y : EntryStep} (h : e'.Marks y) (ho : ownerOf e' = ownerOf e)
    (hg : grantOf e' = grantOf e) : e.Marks y := ⟨h.1.of_kept ho hg, h.2⟩

theorem ne_release_of_kind {b b' : EventBody} (hb : b ∈ [b']) (hk : b'.kind ≠ .release) : b.kind ≠ .release := by
  rw [List.mem_singleton.mp hb]
  exact hk

/-! ### Flags (R66 to R71) -/

theorem setYield_marks (cause : YieldCause) : e.Marks (setYield x cause e) := by
  unfold setYield
  split
  · next o g ho hg =>
    split
    · refine .regrant (fun b hb => ne_release_of_kind hb nofun) fun m o' g' ho' _ hm => ?_
      cases m with
      | overstay => exact .inl hm
      | booked id => exact .inl hm
      | yield =>
        have hsame : o = o' := Option.some.inj (ho.symm.trans ho')
        exact .inr ⟨_, List.mem_singleton_self _, rfl, by rw [hsame]; rfl⟩
    · exact .refl e
  · exact .refl e

theorem setOverstay_marks : e.Marks (setOverstay x e) := by
  unfold setOverstay
  split
  · next o ho =>
    refine .regrant (fun b hb => ne_release_of_kind hb nofun) fun m o' g' ho' _ hm => ?_
    cases m with
    | yield => exact .inl hm
    | booked id => exact .inl hm
    | overstay =>
      have hsame : o = o' := Option.some.inj (ho.symm.trans ho')
      exact .inr ⟨_, List.mem_singleton_self _, rfl, by rw [hsame]; rfl⟩
  · exact .refl e

theorem waiterArrives_marks : e.Marks (waiterArrives x e) := by
  have hover (b : Bool) : e.Marks (if b = true then setOverstay x e else (e, [])) := by
    split
    · exact setOverstay_marks
    · exact .refl e
  have hslice (p : Prop) [Decidable p] (e' : SectorEntry) : e'.Marks (if p then setYield x .slice e' else (e', [])) := by
    split
    · exact setYield_marks .slice
    · exact .refl e'
  unfold waiterArrives
  split
  · exact .refl e
  · exact (hover _).chain (hslice _ _)

/-- A change of the grant record by which no mark begins. -/
theorem SectorEntry.Marks.unmark {f : Grant → Grant} (h : ∀ (m : Mark) g, m.On (f g) → m.On g) :
    e.Marks (mapGrant f e, []) := .regrant nofun fun m _ g _ _ hm => .inl (h m g hm)

theorem clearIdleYield_marks : e.Marks (clearIdleYield e, []) := by
  unfold clearIdleYield
  split
  · exact .refl e
  · refine .unmark fun m g hm => ?_
    cases m with
    | overstay => exact hm
    | booked id => exact hm
    | yield => exact absurd rfl hm

theorem endListed_marks (left : List (Half × BookingState)) : e.Marks (endListed x left e) := by
  have hend : e.Marks (endPriority x e) := by
    obtain ⟨f, hf⟩ : ∃ f : Grant → Grant, f = fun g => { g with
      kind := .routine, sliceLeft := x.record.slice, hold := some x.record.holdLimit, expired := false } := ⟨_, rfl⟩
    have hroutine : e.Marks (mapGrant f e, []) := .unmark fun m g hm => by
      rw [hf] at hm
      cases m with
      | overstay => exact hm
      | yield => exact hm
      | booked id => cases hm
    unfold endPriority
    rw [← hf]
    dsimp only
    split
    · exact hroutine.chain (f := setYield x .booking) (setYield_marks .booking)
    · exact hroutine
  unfold endListed
  split
  · split
    · split
      · exact hend
      · exact .refl e
    · exact .refl e
  · exact .refl e

theorem applyClaimant_marks : e.Marks (applyClaimant x e) := by
  have hconverted {o : Crane} {cl : Claimant} (ho : ownerOf e = some o) (hcl : cl.crane = o) :
      ∃ b ∈ [converted x cl], (b.kind = .grant ∧ b.argB = 1) ∧ b.crane = some o :=
    ⟨_, List.mem_singleton_self _, ⟨rfl, rfl⟩, by rw [← hcl]; rfl⟩
  unfold applyClaimant
  split
  · next cl o g _ ho hg =>
    split
    · next hcl =>
      have hshown {o' : Crane} (ho' : ownerOf e = some o') :
          ∃ b ∈ [converted x cl], (b.kind = .grant ∧ b.argB = 1) ∧ b.crane = some o' :=
        hconverted ho' (hcl.trans (Option.some.inj (ho.symm.trans ho')))
      split
      · refine .regrant (fun b hb => ne_release_of_kind hb nofun) fun m o' _ ho' _ hm => ?_
        cases m with
        | overstay => cases hm
        | yield => exact absurd rfl hm
        | booked id => exact .inr (hshown ho')
      · split
        · exact .refl e
        · refine .regrant (fun b hb => ne_release_of_kind hb nofun) fun m o' _ ho' _ hm => ?_
          cases m with
          | overstay => exact .inl hm
          | yield => exact .inl hm
          | booked id => exact .inr (hshown ho')
    · exact setYield_marks .booking
  · exact .refl e

theorem countSlice_marks (g : Grant) : e.Marks (countSlice x g e) := by
  unfold countSlice
  split
  · have hcounted : e.Marks (mapGrant (fun g => { g with sliceLeft := g.sliceLeft - 1 }) e, []) :=
      .unmark fun m g hm => by cases m <;> exact hm
    dsimp only
    split
    · exact hcounted.chain (f := setYield x .slice) (setYield_marks .slice)
    · exact hcounted
  · exact .refl e

/-! ### Judgements and grants that end (R60, R62, R64, R73) -/

theorem judge_marks (entering : Option Crane) : e.Marks (judge x entering e) := by
  rcases judge_cases x entering e with hj | hj | ⟨-, -, hn, hj⟩
  · rw [hj]; exact .refl e
  · rw [hj]; exact clearIdleYield_marks
  · generalize judge x entering e = y at hj
    rcases hj.outcome with ⟨⟨b, hb, he⟩, hbs⟩ | ⟨-, c, g, how, rest, he, hbs, hrest, hover, hyield⟩
    · have hsilent : ∀ b ∈ y.2, b.kind ≠ .release := fun b hb => by rw [hbs b hb]; exact nofun
      have howner : ownerOf y.1 = none := by
        rw [he]
        rcases hb with rfl | rfl <;> rfl
      refine .keep (howner.trans hn.symm) ?_ hsilent
      rw [ownerOf_eq_none_iff.mp howner, ownerOf_eq_none_iff.mp hn]
    · have hsilent : ∀ b ∈ y.2, b.kind ≠ .release := fun b hb => by
        rw [hbs] at hb
        rcases List.mem_cons.mp hb with rfl | hb
        · exact nofun
        · rcases hrest b hb with hk | hk <;> rw [hk] <;> exact nofun
      refine ⟨⟨fun o ho => absurd (hn.symm.trans ho) nofun, fun b hb hk => absurd hk (hsilent b hb),
        fun m o g' ho hg hm => .inl ?_⟩, hsilent⟩
      rw [he] at ho hg
      cases ho
      cases hg
      rw [hbs]
      cases m with
      | overstay => exact absurd (hover.symm.trans hm) nofun
      | yield => exact ⟨_, List.mem_cons_of_mem _ (hyield hm), rfl, rfl⟩
      | booked id =>
        have hkind : g.kind = .booked id := hm
        exact ⟨_, List.mem_cons_self, ⟨rfl, by rw [hkind]; rfl⟩, rfl⟩

/-- A grant that ends is shown by the RELEASE event at the head of the event records. -/
theorem SectorEntry.Tells.ends {y : EntryStep} (o : Crane) (cause : Nat) {rest : List EventBody}
    (ho : ownerOf e = some o) (hn : ownerOf y.1 = none)
    (hbs : y.2 = eventOf .release (some o) (some x.sector) cause :: rest) (hrest : ∀ b ∈ rest, b.kind = .evacuate) :
    e.Tells y := by
  refine ⟨fun o' ho' => .inr ?_, fun b hb _ => ⟨o, ho, ?_⟩, fun _ _ _ ho' => absurd (hn.symm.trans ho') nofun⟩
  · have hsame : o = o' := Option.some.inj (ho.symm.trans ho')
    exact ⟨_, by rw [hbs]; exact List.mem_cons_self, rfl, by rw [← hsame]; rfl⟩
  · rw [hbs] at hb
    rcases List.mem_cons.mp hb with rfl | hb
    · rfl
    · next hk => rw [hrest b hb] at hk; cases hk

theorem dispossess_tells (cause : Nat) (e : SectorEntry) : e.Tells (dispossess x cause e) := by
  have hnone := dispossess_unowned x cause e
  revert hnone
  unfold dispossess
  dsimp only
  split
  · next h g hb =>
    intro hnone
    refine .ends (x := x) h cause (by rw [ownerOf, hb]) hnone rfl fun b hb => ?_
    split at hb
    · rw [List.mem_singleton.mp hb]; rfl
    · cases hb
  · next f g n hb =>
    intro hnone
    exact .ends (x := x) f cause (by rw [ownerOf, hb]) hnone rfl nofun
  · exact fun _ => (SectorEntry.Marks.refl e).1

/-! ### Every event of an entry -/

theorem reportBase_marks (ch : PresenceChange) : e.Marks (reportBase x c ch e) := by
  have happlied {bs : List EventBody} (hs : ∀ b ∈ bs, b.kind ≠ .release) : e.Marks (applyReport c ch e, bs) :=
    .keep rfl rfl hs
  have hintruder (st : SectorState) : ∀ b ∈ (if changeEnters ch = true then [intrusion x c st] else []),
      b.kind ≠ .release := by
    intro b hb
    split at hb
    · exact ne_release_of_kind hb nofun
    · cases hb
  unfold reportBase
  dsimp only
  split
  · next hb =>
    split
    · next hc =>
      split
      · exact .keep (by rw [ownerOf, ownerOf, hb, hc]) (by rw [grantOf, grantOf, hb]) nofun
      · exact happlied nofun
    · exact happlied (hintruder .held)
  · next hb =>
    split
    · next hc =>
      split
      · exact .keep (by rw [ownerOf, ownerOf, hb, hc]) (by rw [grantOf, grantOf, hb]) nofun
      · exact happlied nofun
    · exact happlied (hintruder .clearing)
  · exact happlied (hintruder .contested)
  · exact happlied nofun

theorem enqueue_marks : e.Marks (enqueue x c e) := by
  unfold enqueue
  split
  · exact .keep rfl rfl nofun
  · split
    · have hqueued : e.Marks ({ e with queue := e.queue ++ [{ crane := c, keep := x.keepTime, resume := false }] }, []) :=
        .keep rfl rfl nofun
      dsimp only
      split
      · exact hqueued
      · exact hqueued.chain (f := waiterArrives x) waiterArrives_marks
    · exact .refl e

theorem takeClearingExpiry_tells : e.Tells (takeClearingExpiry x e) := by
  unfold takeClearingExpiry
  split
  · next f g n hb =>
    have hfreed : e.Tells ({ e with base := .free }, [eventOf .release (some f) (some x.sector) 0]) :=
      .ends (x := x) f 0 (by rw [ownerOf, hb]) rfl rfl nofun
    refine (hfreed.chain (judge_marks none)).chain ?_
    generalize (chain ({ e with base := .free }, [eventOf .release (some f) (some x.sector) 0]) (judge x none)).1 = e2
    split
    · split
      · exact .keep rfl rfl nofun
      · exact .refl e2
    · exact .refl e2
  · exact (SectorEntry.Marks.refl e).1

theorem takeHoldExpiry_tells : e.Tells (takeHoldExpiry x e) := by
  unfold takeHoldExpiry
  split
  · split
    · exact (SectorEntry.Marks.refl e).1
    · obtain ⟨e1, he1⟩ : ∃ e1, mapGrant (fun g => { g with hold := none }) e = e1 := ⟨_, rfl⟩
      have hstopped : e.Marks (e1, []) := he1 ▸ .unmark fun m g hm => by cases m <;> exact hm
      rw [he1]
      refine (SectorEntry.Marks.chain (y := _) ?_ (judge_marks none)).1
      split
      · exact hstopped.chain (f := setOverstay x) setOverstay_marks
      · exact hstopped.chain (f := fun e1 => (mapGrant (fun g => { g with expired := true }) e1, []))
          (.unmark fun m g hm => by cases m <;> exact hm)
  · exact (SectorEntry.Marks.refl e).1

/-- R76: the event records of an entry's event show what it ended and what it began. -/
theorem EntryEvent.run_tells (v : EntryEvent) : e.Tells (v.run x e) := by
  have hkept : e.Tells (e, []) := (SectorEntry.Marks.refl e).1
  cases v with
  | report c ch => exact (reportBase_marks ch).1.chain (judge_marks _)
  | knock c =>
    rw [run, takeKnock]
    split
    · exact hkept
    · split
      · exact hkept
      · refine SectorEntry.Tells.chain ?_ (judge_marks none)
        split
        · next g hg =>
          obtain ⟨-, left, hb⟩ := knockReturns_base hg
          exact (SectorEntry.Marks.refl _).1.of_kept (by rw [ownerOf, ownerOf, hb]) (by rw [grantOf, grantOf, hb])
        · exact enqueue_marks.1
  | claimant left cl =>
    rw [run, takeClaimant]
    refine SectorEntry.Tells.chain (SectorEntry.Tells.chain (SectorEntry.Tells.chain (endListed_marks left).1 ?_) ?_)
      (judge_marks none)
    · exact applyClaimant_marks.of_kept rfl rfl
    · split
      · exact waiterArrives_marks
      · exact .refl _
  | lock c =>
    rw [run, takeLock]
    split
    · refine SectorEntry.Tells.chain ?_ (judge_marks none)
      split
      · exact (dispossess_tells 2 _).of_kept rfl rfl
      · exact (SectorEntry.Marks.refl _).1.of_kept rfl rfl
    · exact hkept
  | unlock c =>
    rw [run, takeUnlock]
    split
    · exact (judge_marks none).1.of_kept rfl rfl
    · exact hkept
  | close =>
    rw [run, takeClose]
    split
    · exact hkept
    · refine SectorEntry.Tells.chain ?_ (judge_marks none)
      split
      · exact (dispossess_tells 1 _).of_kept rfl rfl
      · exact (SectorEntry.Marks.refl _).1.of_kept rfl rfl
  | reopen =>
    rw [run, takeOpen]
    split
    · exact (judge_marks none).1.of_kept rfl rfl
    · exact hkept
  | keep c =>
    rw [run, takeKeepExpiry]
    split
    · exact (judge_marks none).1.of_kept rfl rfl
    · exact hkept
  | clearing => exact takeClearingExpiry_tells
  | hold => exact takeHoldExpiry_tells
  | lift c =>
    rw [run, takeLift]
    split
    · exact (countSlice_marks _).1.chain (judge_marks none)
    · exact hkept

end Sys2Proof.Machine
end

/-! ## Everyone is told of a sector's changes (R76): O44 -/

section
namespace Sys2Proof.Machine

variable {e e' : SectorEntry} {c : Crane} {k : Sector} {clash : ClashKind} {bs : List EventBody} {s t : State}

/-! ### The notices of an event -/

theorem exitCranes_iff : c ∈ exitCranes clash e ↔ c ∈ e.presence ∧ holderOf e ≠ some c ∧ c ∉ lockSet clash e := by
  simp [exitCranes]

/-- R76: whom an event gives a limit notice. -/
theorem noticed_iff : noticed clash e e' bs c = true ↔
    (∃ b ∈ bs, b.kind = .release ∧ b.crane = some c) ∨ (c ∈ exitCranes clash e' ∧ c ∉ exitCranes clash e) ∨
      (intruded e' = some c ∧ intruded e ≠ some c) ∨
      (holderOf e' = some c ∧
        ∃ b ∈ bs, (b.kind = .overstay ∨ b.kind = .yield ∨ (b.kind = .grant ∧ b.argB = 1)) ∧ b.crane = some c) := by
  have hnames (kind : EventKind) : bs.any (fun b => b.kind == kind && b.crane == some c) = true ↔
      ∃ b ∈ bs, b.kind = kind ∧ b.crane = some c := by simp
  have hbooked : bs.any (fun b => b.kind == .grant && b.crane == some c && b.argB == 1) = true ↔
      ∃ b ∈ bs, (b.kind = .grant ∧ b.argB = 1) ∧ b.crane = some c := by simp [and_assoc, and_comm (b := _ = some c)]
  have hmarks : ((∃ b ∈ bs, b.kind = .overstay ∧ b.crane = some c) ∨ (∃ b ∈ bs, b.kind = .yield ∧ b.crane = some c) ∨
      ∃ b ∈ bs, (b.kind = .grant ∧ b.argB = 1) ∧ b.crane = some c) ↔
      ∃ b ∈ bs, (b.kind = .overstay ∨ b.kind = .yield ∨ (b.kind = .grant ∧ b.argB = 1)) ∧ b.crane = some c := by
    simp only [or_and_right, and_or_left, exists_or]
  unfold noticed
  dsimp only
  simp only [Bool.or_eq_true, Bool.and_eq_true, hnames, hbooked, ← hmarks]
  simp [or_assoc]

theorem limit_mem : .limit c ∈ sectorNotices k clash e e' bs ↔ noticed clash e e' bs c = true := by
  unfold sectorNotices
  rw [List.mem_append]
  constructor
  · rintro (h | h)
    · simpa [mem_allCranes] using h
    · split at h <;> simp at h
  · intro h
    exact .inl (List.mem_map_of_mem (List.mem_filter.mpr ⟨mem_allCranes c, h⟩))

theorem handshake_mem : .handshake k ∈ sectorNotices k clash e e' bs ↔
    lockSet clash e ≠ lockSet clash e' ∨ (e.presence ≠ e'.presence ∧ e'.locks ≠ []) := by
  unfold sectorNotices
  rw [List.mem_append]
  constructor
  · rintro (h | h)
    · simp at h
    · by_contra hn
      rw [if_neg hn] at h
      cases h
  · intro h
    rw [if_pos h]
    exact .inr (List.mem_singleton_self _)

theorem sectorNotices_kinds {n : Notice} (h : n ∈ sectorNotices k clash e e' bs) :
    n = .handshake k ∨ ∃ c, n = .limit c := by
  unfold sectorNotices at h
  rcases List.mem_append.mp h with h | h
  · obtain ⟨c, -, rfl⟩ := List.mem_map.mp h
    exact .inr ⟨c, rfl⟩
  · split at h
    · exact .inl (List.mem_singleton.mp h)
    · cases h

/-- R76: nothing is told of an entry that stays as it is. -/
theorem sectorNotices_same (k : Sector) (clash : ClashKind) (e : SectorEntry) : sectorNotices k clash e e [] = [] := by
  rw [List.eq_nil_iff_forall_not_mem]
  intro n hn
  rcases sectorNotices_kinds hn with rfl | ⟨c, rfl⟩
  · simpa using handshake_mem.mp hn
  · simpa [noticed_iff] using limit_mem.mp hn

/-! ### The notices of a command -/

/-- Between two states sector `k`'s entry has taken changes that its notices show; beside them there are only `others`
in flight. -/
def State.Notifies (s t : State) (k : Sector) (others : List Notice) : Prop :=
  t.sector k = s.sector k ∧ ∃ bs, (s.entry k).Tells (t.entry k, bs) ∧
    t.inFlight = sectorNotices k (s.sector k).clash (s.entry k) (t.entry k) bs ++ others

theorem entryEvent_notifies (v : EntryEvent) (h : s.inFlight = []) (hon : (s.sector k).enabled = true) :
    s.Notifies (entryEvent k v.run s) k [] := by
  have htakes := entryEvent_takes hon v.run
  have hflight := entryEvent_inFlight hon v.run
  generalize entryEvent k v.run s = t at htakes hflight
  have hentry : t.entry k = (v.run (s.sectorContext k) (s.entry k)).1 := by
    rw [htakes]; exact Bank.read_write_self _ _ _
  refine ⟨by rw [htakes]; rfl, (v.run (s.sectorContext k) (s.entry k)).2, ?_, ?_⟩
  · rw [hentry]; exact v.run_tells
  · rw [hflight, h, hentry]; simp

theorem State.Notifies.same (hs : t.sector k = s.sector k) (he : t.entry k = s.entry k) (hf : t.inFlight = []) :
    s.Notifies t k [] := by
  refine ⟨hs, [], ?_, ?_⟩
  · rw [he]; exact (SectorEntry.Marks.refl _).1
  · rw [hf, he, sectorNotices_same]; rfl

/-- R75: a lift of a BOOKED grant is passed to the booking beside the notices of the entry. -/
theorem attributeLift_notifies (h : s.inFlight = []) (hon : (s.sector k).enabled = true)
    (hp : (s.position c).present = some k) :
    ∃ others, s.Notifies (attributeLift c s) k others ∧ ∀ n ∈ others, ∃ id, n = .liftCount id := by
  obtain ⟨hsector, bs, htells, hflight⟩ := entryEvent_notifies (.lift c) h hon
  unfold attributeLift
  rw [hp]
  dsimp only
  split
  · next id _ =>
    refine ⟨[.liftCount id], ⟨hsector, bs, htells, ?_⟩, fun n hn => ⟨id, List.mem_singleton.mp hn⟩⟩
    rw [State.send_inFlight]
    exact congrArg (· ++ [.liftCount id]) (hflight.trans (List.append_nil _))
  · exact ⟨[], ⟨hsector, bs, htells, hflight⟩, nofun⟩

/-! ### SECTOR_CLOSE and SECTOR_OPEN (R74) -/

/-- R74: an enabled sector's command is passed to the arbiter in the ARMED site, and refused in CONFIG. -/
theorem sectorCommand_enabled (hon : (s.sector k).enabled = true) (f : Sector → State → State) :
    sectorCommand (octet1 k.val) f s = if s.mode = .config then refuse s .notArmed else accept (f k s) := by
  have hk : k.val < 256 := by omega
  have hn : ¬ k.val > 15 := by omega
  have hfin : Fin.ofNat 16 k.val = k := Fin.ofNat_val_eq_self k
  rw [sectorCommand, withOperands_cut (cutFields_last1 k.val), numberOf_octet1 hk]
  simp only [List.headD_cons, hfin, hn, hon, not_true, or_self, if_false]

/-- What a request for an enabled sector leaves of it, answered or discarded. -/
theorem sectorCommand_notifies (v : EntryEvent) (h : s.inFlight = []) (hon : (s.sector k).enabled = true)
    (tag code : Byte) :
    s.Notifies (request tag code (sectorCommand (octet1 k.val) fun j => entryEvent j v.run) s) k [] := by
  by_cases hroom : s.Room
  · rw [request_room hroom, sectorCommand_enabled (s := s.hunting siteLink) hon]
    split
    · exact .same rfl rfl h
    · exact entryEvent_notifies (s := s.hunting siteLink) v h hon
  · rw [request_full (Nat.le_of_not_lt hroom)]
    exact .same rfl rfl h

/-- Every command that is one event of sector `k`'s entry. -/
theorem exec_notifies {i : Instr} (hready : s.Ready) (hon : (s.sector k).enabled = true)
    (hi : (∃ c change, i = .presenceReport k c change) ∨ (∃ c, i = .knock k c) ∨
      (∃ left claimant, i = .bookedClaimantChange k left claimant) ∨ (∃ c, i = .lockRequest k c) ∨
      (∃ c, i = .unlock k c) ∨ (∃ tag, i = .sectorClose tag (octet1 k.val)) ∨
      (∃ tag, i = .sectorOpen tag (octet1 k.val)) ∨ (∃ c, i = .keepTimerExpiry k c) ∨
      i = .clearingExpiry k ∨ i = .holdTimerExpiry k ∨
      (∃ c, i = .liftAttribution c ∧ (s.position c).present = some k)) :
    ∃ t others, exec i s = .next t ∧ s.Notifies t k others ∧
      ∀ n ∈ others, ∃ c id, i = .liftAttribution c ∧ n = .liftCount id := by
  have hflight : s.inFlight = [] := hready.2.1
  have hevent (v : EntryEvent) (he : exec i s = .next (entryEvent k v.run s)) :
      ∃ t others, exec i s = .next t ∧ s.Notifies t k others ∧
        ∀ n ∈ others, ∃ c id, i = .liftAttribution c ∧ n = .liftCount id :=
    ⟨_, [], he, entryEvent_notifies v hflight hon, nofun⟩
  have hrequest (v : EntryEvent) (tag code : Byte) (he : exec i s =
        .next (request tag code (sectorCommand (octet1 k.val) fun j => entryEvent j v.run) s)) :
      ∃ t others, exec i s = .next t ∧ s.Notifies t k others ∧
        ∀ n ∈ others, ∃ c id, i = .liftAttribution c ∧ n = .liftCount id :=
    ⟨_, [], he, sectorCommand_notifies v hflight hon tag code, nofun⟩
  rcases hi with ⟨c, ch, rfl⟩ | ⟨c, rfl⟩ | ⟨left, cl, rfl⟩ | ⟨c, rfl⟩ | ⟨c, rfl⟩ | ⟨tag, rfl⟩ | ⟨tag, rfl⟩ | ⟨c, rfl⟩ |
    rfl | rfl | ⟨c, rfl, hp⟩
  · exact hevent (.report c ch) (exec_presenceReport hready k c ch)
  · exact hevent (.knock c) (exec_knock hready k c)
  · exact hevent (.claimant left cl) (exec_bookedClaimantChange hready k left cl)
  · exact hevent (.lock c) (exec_lockRequest hready k c)
  · exact hevent (.unlock c) (exec_unlock hready k c)
  · exact hrequest .close tag 0x30#8 (exec_sectorClose hready tag _)
  · exact hrequest .reopen tag 0x31#8 (exec_sectorOpen hready tag _)
  · exact hevent (.keep c) (exec_keepTimerExpiry hready k c)
  · exact hevent .clearing (exec_clearingExpiry hready k)
  · exact hevent .hold (exec_holdTimerExpiry hready k)
  · obtain ⟨others, hn, hothers⟩ := attributeLift_notifies hflight hon hp
    refine ⟨_, others, exec_liftAttribution hready c, hn, fun n h => ?_⟩
    obtain ⟨id, rfl⟩ := hothers n h
    exact ⟨c, id, rfl, rfl⟩

/-- Settles O44: an entry's event records show each grant that it ended and each flag and booking that it set, and its
notices are read off them and off the entry before and after it. -/
theorem sectorChangesNotified : Obligations.SectorChangesNotified := by
  intro i k s hready hon hi exits
  obtain ⟨t, others, he, ⟨hsector, bs, htells, hsent⟩, hothers⟩ := exec_notifies hready hon hi
  have hlimit (c : Crane) : .limit c ∈ t.inFlight ↔
      noticed (s.sector k).clash (s.entry k) (t.entry k) bs c = true := by
    rw [hsent, List.mem_append, limit_mem, or_iff_left]
    intro h
    obtain ⟨_, id, -, hn⟩ := hothers _ h
    cases hn
  have hexits (u : State) (hu : u.sector k = s.sector k) (c : Crane) :
      exits u c ↔ c ∈ exitCranes (s.sector k).clash (u.entry k) := by
    rw [exitCranes_iff, ← hu]
    rfl
  have hmark (m : Mark) {h : Crane} {g : Grant} (hb : (t.entry k).base = .held h g) (hm : m.On g)
      (hformer : ∀ g', grantOf (s.entry k) = some g' → ¬ m.On g') : .limit h ∈ t.inFlight := by
    have howner : ownerOf (t.entry k) = some h := ownerOf_iff.mpr (.inl ⟨g, hb⟩)
    have hgrant : grantOf (t.entry k) = some g := grantOf_iff.mpr (.inl ⟨h, hb⟩)
    rcases htells.marked m h g howner hgrant hm with ⟨b, hbs, hshows, hcrane⟩ | ⟨g', -, hg', hm'⟩
    · refine (hlimit h).mpr (noticed_iff.mpr (.inr (.inr (.inr ⟨holderOf_iff.mpr ⟨g, hb⟩, b, hbs, ?_, hcrane⟩))))
      cases m with
      | overstay => exact .inl hshows
      | yield => exact .inr (.inl hshows)
      | booked id => exact .inr (.inr hshows)
    · exact absurd hm' (hformer g' hg')
  refine ⟨t, he, fun o ho hno => ?_, fun c hin hout => ?_, fun h hin hout => ?_, fun h g hb =>
    ⟨fun hg hf => ?_, fun hg hf => ?_, fun id hg hf => ?_⟩, fun c hc => ?_, ?_, fun n hn => ?_⟩
  · rcases htells.ended o ho with hkept | hreleased
    · exact absurd hkept hno
    · exact (hlimit o).mpr (noticed_iff.mpr (.inl hreleased))
  · exact (hlimit c).mpr (noticed_iff.mpr (.inr (.inl ⟨(hexits t hsector c).mp hin, mt (hexits s rfl c).mpr hout⟩)))
  · exact (hlimit h).mpr (noticed_iff.mpr (.inr (.inr (.inl ⟨hin, hout⟩))))
  · exact hmark .overstay hb hg fun g' hg' hm => by
      have := hf g' hg'
      rw [show g'.overstay = true from hm] at this
      cases this
  · exact hmark .yield hb hg fun g' hg' hm => hm (hf g' hg')
  · exact hmark (.booked id) hb hg hf
  · rcases noticed_iff.mp ((hlimit c).mp hc) with ⟨b, hbs, hk, hcrane⟩ | ⟨hin, hout⟩ | ⟨hin, -⟩ | ⟨hholder, -⟩
    · obtain ⟨o, ho, hcrane'⟩ := htells.released b hbs hk
      exact .inl (ho.trans (hcrane'.symm.trans hcrane))
    · exact .inr (.inr ⟨(hexits t hsector c).mpr hin, mt (hexits s rfl c).mp hout⟩)
    · exact .inr (.inl (holderOf_iff.mpr (intruded_iff.mp hin).1))
    · exact .inr (.inl hholder)
  · rw [hsent, List.mem_append, handshake_mem, or_iff_left, State.locksOf, State.locksOf, hsector]
    · exact or_congr ne_comm (and_congr_left fun _ => ne_comm)
    · intro h
      obtain ⟨_, id, -, hn⟩ := hothers _ h
      cases hn
  · rw [hsent, List.mem_append] at hn
    rcases hn with hn | hn
    · rcases sectorNotices_kinds hn with hk | hk
      · exact .inl hk
      · exact .inr (.inl hk)
    · exact .inr (.inr (hothers n hn))

end Sys2Proof.Machine
end

/-! ## One event of an entry, as a command of a quiet device (R54) -/

section
namespace Sys2Proof.Machine

variable {s : State} {k : Sector} {x : SectorContext} {e e' : SectorEntry} {bs : List EventBody}
  {f : SectorContext → SectorEntry → EntryStep}

/-- An enabled sector's entry takes what the event makes of it. -/
theorem entryEvent_becomes (hon : (s.sector k).enabled = true) (h : f (s.sectorContext k) (s.entry k) = (e', bs)) :
    s.EntryTakes (entryEvent k f s) k e' bs := by
  have htakes := entryEvent_takes hon f
  rw [h] at htakes
  exact htakes

/-- An event that leaves the entry as it is and raises nothing leaves the device as it is. -/
theorem entryEvent_same (h : (s.sector k).enabled = true → f (s.sectorContext k) (s.entry k) = (s.entry k, [])) :
    entryEvent k f s = s := by
  by_cases hon : (s.sector k).enabled = true
  · have htakes := entryEvent_becomes hon (h hon)
    have hflight : (entryEvent k f s).inFlight = s.inFlight := by
      rw [entryEvent_inFlight hon, h hon, sectorNotices_same, List.append_nil]
    refine htakes.trans ?_
    rw [hflight, State.entry, Bank.write_read]
    rfl
  · exact entryEvent_disabled (by simpa using hon) f

theorem State.Running.armed (h : s.Running k) : (s.sectorContext k).armed = true :=
  armed_of_mode (by rw [h.2]; exact nofun)

/-- R55: what keeps an entry from being evaluated, in the words of the statements. -/
theorem settled_of_keepsState (h : s.KeepsState k) : (s.entry k).Settled (s.sectorContext k).record.clash := by
  unfold State.KeepsState State.sectorState at h
  unfold SectorEntry.Settled
  show stateOf (s.sector k).clash (s.entry k) ≠ .free ∧
    (stateOf (s.sector k).clash (s.entry k) = .contested → 2 ≤ (s.entry k).presence.length)
  rcases h with h | h | ⟨h | h, -⟩ | ⟨h, hp⟩
  all_goals rw [h]
  · exact ⟨nofun, nofun⟩
  · exact ⟨nofun, nofun⟩
  · exact ⟨nofun, nofun⟩
  · exact ⟨nofun, nofun⟩
  · exact ⟨nofun, fun _ => hp⟩

/-- Settledness is a matter of the state of the sector and of the members present. -/
theorem SectorEntry.Settled.congr {clash : ClashKind} (h : e.Settled clash) (hs : stateOf clash e' = stateOf clash e)
    (hp : e'.presence = e.presence) : e'.Settled clash := by
  obtain ⟨hfree, hcontested⟩ := h
  exact ⟨by rw [hs]; exact hfree, by rw [hs, hp]; exact hcontested⟩

theorem settled_of_state {clash : ClashKind} {st : SectorState} (h : stateOf clash e = st) (hf : st ≠ .free)
    (hc : st ≠ .contested) : e.Settled clash := by
  rw [SectorEntry.Settled, h]
  exact ⟨hf, fun hn => absurd hn hc⟩

/-- R55: a CLOSED entry, or one with lock requests. -/
theorem settled_of_locked {clash : ClashKind} (h : e.closed = true ∨ e.locks ≠ []) : e.Settled clash := by
  by_cases hc : e.closed = true
  · exact settled_of_state (stateOf_closed clash hc) nofun nofun
  · exact settled_of_state (stateOf_locked clash (by simpa using hc) (h.resolve_left hc)) nofun nofun

/-- R55: HELD and CLEARING are settled. -/
theorem settled_of_granted {clash : ClashKind} (h : stateOf clash e = .held ∨ stateOf clash e = .clearing) :
    e.Settled clash := by
  rcases h with h | h
  · exact settled_of_state h nofun nofun
  · exact settled_of_state h nofun nofun

/-- R60, R62: the entry of a sector that is FREE or CONTESTED. -/
theorem unowned_of_state {clash : ClashKind} {st : SectorState} (h : stateOf clash e = st)
    (hst : st = .free ∨ st = .contested) : e.closed = false ∧ e.locks = [] ∧ ownerOf e = none := by
  rcases hst with rfl | rfl
  · obtain ⟨hc, hl, hb⟩ := stateOf_free.mp h
    exact ⟨hc, hl, by rw [ownerOf, hb]⟩
  · obtain ⟨hc, hl, hb⟩ := stateOf_contested.mp h
    exact ⟨hc, hl, by rw [ownerOf, hb]⟩

end Sys2Proof.Machine
end

/-! ## Presence reports (R54, R56, R60 to R64): O37 -/

section
namespace Sys2Proof.Machine

variable {s : State} {k : Sector} {x : SectorContext} {e : SectorEntry} {c d : Crane} {ch : PresenceChange}
  {entering : Option Crane}

/-! ### What a report carries -/

theorem mem_craneAdd {xs : List Crane} : d ∈ craneAdd xs c ↔ d = c ∨ d ∈ xs := by
  simp [craneAdd, mem_allCranes, or_comm]

theorem mem_craneRemove {xs : List Crane} : d ∈ craneRemove xs c ↔ d ∈ xs ∧ d ≠ c := by
  simp [craneRemove]

theorem changeEnters_iff : changeEnters ch = true ↔ ch = .enter ∨ ch = .unobstructEnter := by cases ch <;> decide

theorem changeLeaves_iff : changeLeaves ch = true ↔ ch = .leave ∨ ch = .obstructLeave := by cases ch <;> decide

theorem changeObstructs_iff : changeObstructs ch = true ↔ ch = .obstruct ∨ ch = .obstructLeave := by
  cases ch <;> decide

theorem changeUnobstructs_iff : changeUnobstructs ch = true ↔ ch = .unobstruct ∨ ch = .unobstructEnter := by
  cases ch <;> decide

theorem change_goes_iff :
    (changeLeaves ch || changeObstructs ch) = true ↔ ch ∈ [.leave, .obstruct, .obstructLeave] := by
  cases ch <;> decide

/-- A report that adds a crane to one of the sets does not take it off. -/
theorem mem_reported {xs : List Crane} {add remove : Bool} (hno : ¬ (add = true ∧ remove = true)) :
    d ∈ (if add = true then craneAdd xs c else if remove = true then craneRemove xs c else xs) ↔
      (d = c ∧ add = true) ∨ (d ∈ xs ∧ ¬ (d = c ∧ remove = true)) := by
  cases add with
  | true =>
    have hremove : remove = false := by simpa using hno
    simp [mem_craneAdd, hremove]
  | false => cases remove <;> simp [mem_craneRemove]

/-- R56: the members present after a report. -/
theorem mem_applyReport_presence : d ∈ (applyReport c ch e).presence ↔
    (d = c ∧ (ch = .enter ∨ ch = .unobstructEnter)) ∨
      (d ∈ e.presence ∧ ¬ (d = c ∧ (ch = .leave ∨ ch = .obstructLeave))) := by
  rw [← changeEnters_iff, ← changeLeaves_iff]
  exact mem_reported (by cases ch <;> decide)

/-- R56: the members that obstruct after a report. -/
theorem mem_applyReport_obstruction : d ∈ (applyReport c ch e).obstruction ↔
    (d = c ∧ (ch = .obstruct ∨ ch = .obstructLeave)) ∨
      (d ∈ e.obstruction ∧ ¬ (d = c ∧ (ch = .unobstruct ∨ ch = .unobstructEnter))) := by
  rw [← changeObstructs_iff, ← changeUnobstructs_iff]
  exact mem_reported (by cases ch <;> decide)

theorem applyReport_queue_iff : (applyReport c ch e).queue =
    if ch = .obstruct ∨ ch = .obstructLeave then e.queue.filter (·.crane != c) else e.queue := by
  rw [applyReport_queue]
  simp only [changeObstructs_iff]
  rfl

theorem applyReport_stateOf (clash : ClashKind) : stateOf clash (applyReport c ch e) = stateOf clash e := rfl

/-! ### What a report does in each state of the sector -/

/-- The INTRUSION event of a member that enters a sector in a state. -/
def intruding (x : SectorContext) (c : Crane) (ch : PresenceChange) (st : SectorState) : List EventBody :=
  if changeEnters ch = true then [intrusion x c st] else []

theorem reportBase_held {h : Crane} {g : Grant} (hs : stateOf x.record.clash e = .held) (hb : e.base = .held h g) :
    reportBase x c ch e =
      if h = c then
        if (changeLeaves ch || changeObstructs ch) = true then
          ({ applyReport c ch e with base := .clearing c g x.record.clearingTime }, [])
        else (applyReport c ch e, [])
      else (applyReport c ch e, intruding x c ch .held) := by
  unfold reportBase
  dsimp only
  rw [hs, hb]
  rfl

theorem reportBase_clearing {f : Crane} {g : Grant} {left : Nat} (hs : stateOf x.record.clash e = .clearing)
    (hb : e.base = .clearing f g left) :
    reportBase x c ch e =
      if f = c then
        if changeEnters ch = true then
          ({ applyReport c ch e with base := .held c g, queue := withdraw (applyReport c ch e).queue c }, [])
        else (applyReport c ch e, [])
      else (applyReport c ch e, intruding x c ch .clearing) := by
  unfold reportBase
  dsimp only
  rw [hs, hb]
  rfl

theorem reportBase_contested (hs : stateOf x.record.clash e = .contested) :
    reportBase x c ch e = (applyReport c ch e, intruding x c ch .contested) := by
  unfold reportBase
  dsimp only
  rw [hs]
  rfl

theorem reportBase_other (hh : stateOf x.record.clash e ≠ .held) (hcl : stateOf x.record.clash e ≠ .clearing)
    (hct : stateOf x.record.clash e ≠ .contested) : reportBase x c ch e = (applyReport c ch e, []) := by
  unfold reportBase
  dsimp only
  split
  · next h _ => exact absurd h hh
  · next h _ => exact absurd h hcl
  · next h => exact absurd h hct
  · rfl

/-- A report to a sector that is not FREE: the entry and its judgement. -/
theorem takeReport_unfree (hs : stateOf x.record.clash e ≠ .free) :
    takeReport x c ch e = chain (reportBase x c ch e) (judge x none) := by
  rw [takeReport, if_neg fun h => hs h.1]

theorem intruding_code (st : SectorState) : intruding x c ch st =
    if ch = .enter ∨ ch = .unobstructEnter then [eventOf .intrusion (some c) (some x.sector) (sectorCode st)]
    else [] := by
  simp only [intruding, changeEnters_iff]
  rfl

/-- An event that ends in a settled entry raises nothing after its own events. -/
theorem chain_judge_settled {st : EntryStep} (ha : x.armed = true) (h : st.1.Settled x.record.clash) :
    chain st (judge x entering) = (clearIdleYield st.1, st.2) := by
  rw [chain, judge_settled ha h, List.append_nil]

theorem settled_of_clearing {clash : ClashKind} {f : Crane} {g : Grant} {left : Nat} (hc : e.closed = false)
    (hl : e.locks = []) (hb : e.base = .clearing f g left) : e.Settled clash :=
  settled_of_state (st := .clearing) ((stateOf_base clash hc hl).trans (by rw [baseState, hb])) nofun nofun

theorem settled_of_held {clash : ClashKind} {h : Crane} {g : Grant} (hc : e.closed = false)
    (hl : e.locks = []) (hb : e.base = .held h g) : e.Settled clash :=
  settled_of_state (st := .held) ((stateOf_base clash hc hl).trans (by rw [baseState, hb])) nofun nofun

/-- A report that leaves a HELD or CLEARING entry its base state. -/
theorem applyReport_settled {clash : ClashKind} (h : e.Settled clash) (hn : stateOf clash e ≠ .contested) :
    (applyReport c ch e).Settled clash :=
  ⟨h.1, fun hc => absurd hc hn⟩

/-- R63: a report to a HELD sector. -/
theorem takeReport_held {h : Crane} {g : Grant} (ha : x.armed = true) (hs : stateOf x.record.clash e = .held)
    (hb : e.base = .held h g) :
    (c = h → ch ∈ [.leave, .obstruct, .obstructLeave] → takeReport x c ch e =
      (clearIdleYield { applyReport c ch e with base := .clearing h g x.record.clearingTime }, [])) ∧
    (c = h → ch ∉ [.leave, .obstruct, .obstructLeave] →
      takeReport x c ch e = (clearIdleYield (applyReport c ch e), [])) ∧
    (c ≠ h → takeReport x c ch e = (clearIdleYield (applyReport c ch e), intruding x c ch .held)) := by
  have hstays : (applyReport c ch e).Settled x.record.clash :=
    applyReport_settled (settled_of_state hs nofun nofun) (by rw [hs]; exact nofun)
  obtain ⟨hc, hl, -⟩ := stateOf_open hs nofun nofun
  rw [takeReport_unfree (by rw [hs]; exact nofun), reportBase_held hs hb]
  refine ⟨fun hch hgo => ?_, fun hch hgo => ?_, fun hch => ?_⟩
  · rw [if_pos hch.symm, if_pos (change_goes_iff.mpr hgo), hch]
    exact chain_judge_settled ha (settled_of_clearing hc hl rfl)
  · rw [if_pos hch.symm, if_neg (mt change_goes_iff.mp hgo)]
    exact chain_judge_settled ha hstays
  · rw [if_neg (Ne.symm hch)]
    exact chain_judge_settled ha hstays

/-- R64: a report to a CLEARING sector. -/
theorem takeReport_clearing {f : Crane} {g : Grant} {left : Nat} (ha : x.armed = true)
    (hs : stateOf x.record.clash e = .clearing) (hb : e.base = .clearing f g left) :
    (c = f → (ch = .enter ∨ ch = .unobstructEnter) → takeReport x c ch e =
      (clearIdleYield { applyReport c ch e with
        base := .held f g, queue := withdraw (applyReport c ch e).queue f }, [])) ∧
    (c = f → ¬ (ch = .enter ∨ ch = .unobstructEnter) →
      takeReport x c ch e = (clearIdleYield (applyReport c ch e), [])) ∧
    (c ≠ f → takeReport x c ch e = (clearIdleYield (applyReport c ch e), intruding x c ch .clearing)) := by
  have hstays : (applyReport c ch e).Settled x.record.clash :=
    applyReport_settled (settled_of_state hs nofun nofun) (by rw [hs]; exact nofun)
  obtain ⟨hc, hl, -⟩ := stateOf_open hs nofun nofun
  rw [takeReport_unfree (by rw [hs]; exact nofun), reportBase_clearing hs hb]
  refine ⟨fun hch henter => ?_, fun hch henter => ?_, fun hch => ?_⟩
  · rw [if_pos hch.symm, if_pos (changeEnters_iff.mpr henter), hch]
    exact chain_judge_settled ha (settled_of_held hc hl rfl)
  · rw [if_pos hch.symm, if_neg (mt changeEnters_iff.mp henter)]
    exact chain_judge_settled ha hstays
  · rw [if_neg (Ne.symm hch)]
    exact chain_judge_settled ha hstays

/-- R60: a report to a FREE sector is the changed entry, judged. -/
theorem takeReport_free (hs : stateOf x.record.clash e = .free) : takeReport x c ch e =
    judge x (if ch = .enter ∨ ch = .unobstructEnter then some c else none) (applyReport c ch e) := by
  unfold takeReport
  rw [reportBase_other (by rw [hs]; exact nofun) (by rw [hs]; exact nofun) (by rw [hs]; exact nofun)]
  simp only [hs, true_and, changeEnters_iff]
  rfl

/-- R62: a report to a CONTESTED sector. -/
theorem takeReport_contested (hs : stateOf x.record.clash e = .contested) :
    takeReport x c ch e = chain (applyReport c ch e, intruding x c ch .contested) (judge x none) := by
  rw [takeReport_unfree (by rw [hs]; exact nofun), reportBase_contested hs]

/-- R55: a report to a LOCKED or CLOSED sector without a grant. -/
theorem takeReport_shut (hs : stateOf x.record.clash e = .locked ∨ stateOf x.record.clash e = .closed)
    (hn : ownerOf e = none) : takeReport x c ch e = (applyReport c ch e, []) := by
  obtain ⟨st, hst, hf, hh, hcl, hct⟩ : ∃ st, stateOf x.record.clash e = st ∧ st ≠ .free ∧ st ≠ .held ∧
      st ≠ .clearing ∧ st ≠ .contested := by
    rcases hs with hs | hs
    · exact ⟨_, hs, nofun, nofun, nofun, nofun⟩
    · exact ⟨_, hs, nofun, nofun, nofun, nofun⟩
  rw [takeReport_unfree (by rwa [hst]),
    reportBase_other (by rwa [hst]) (by rwa [hst]) (by rwa [hst]), chain]
  have hset : (applyReport c ch e).Settled x.record.clash := settled_of_state hst hf hct
  rw [judge_settled_unowned hset (by exact hn)]
  rfl

/-- Settles O37: in each state of the sector the report's entry is written out, and then judged: settled it keeps its
state, FREE or CONTESTED it is evaluated. -/
theorem presenceReportTaken : Obligations.PresenceReportTaken := by
  intro s k c ch hready
  dsimp only
  have hexec := exec_presenceReport hready k c ch
  have takes {e' : SectorEntry} {bs : List EventBody} (hon : (s.sector k).enabled = true)
      (h : takeReport (s.sectorContext k) c ch (s.entry k) = (e', bs)) :
      ∃ t, exec (.presenceReport k c ch) s = .next t ∧ s.EntryTakes t k e' bs :=
    ⟨_, hexec, entryEvent_becomes hon h⟩
  have hintrusion (st : SectorState) := intruding_code (x := s.sectorContext k) (c := c) (ch := ch) st
  refine ⟨fun hoff => hexec.trans (congrArg _ (entryEvent_disabled hoff _)),
    ⟨rfl, rfl, rfl, rfl, fun _ => mem_applyReport_presence, fun _ => mem_applyReport_obstruction,
      applyReport_queue_iff⟩,
    fun hon hconfig hfree => takes hon ?_, fun hrun hshut hn => takes hrun.1 (takeReport_shut hshut hn),
    fun hrun hs h g hb => ?_, fun hrun hs f g left hb => ?_, fun hrun hfree => ?_, fun hrun hs => ?_⟩
  · rw [takeReport_free (x := s.sectorContext k) hfree, judge_unarmed (unarmed_of_mode hconfig)]
  · obtain ⟨hgo, hstay, hother⟩ := takeReport_held (c := c) (ch := ch) hrun.armed hs hb
    exact ⟨fun hc hm => takes hrun.1 (hgo hc hm), fun hc hm => takes hrun.1 (hstay hc hm),
      fun hc => takes hrun.1 ((hother hc).trans (by rw [hintrusion]; rfl))⟩
  · obtain ⟨hback, hstay, hother⟩ := takeReport_clearing (c := c) (ch := ch) hrun.armed hs hb
    exact ⟨fun hc hm => takes hrun.1 (hback hc hm), fun hc hm => takes hrun.1 (hstay hc hm),
      fun hc => takes hrun.1 ((hother hc).trans (by rw [hintrusion]; rfl))⟩
  · obtain ⟨hc, hl, hn⟩ := unowned_of_state hfree (.inl rfl)
    obtain ⟨t, ht, htakes⟩ := takes hrun.1 (takeReport_free hfree)
    exact ⟨t, _, _, ht, htakes, judge_evaluates (e := applyReport c ch (s.entry k)) hrun.armed hc hl hn _⟩
  · obtain ⟨hc, hl, hn⟩ := unowned_of_state hs (.inr rfl)
    obtain ⟨t, ht, htakes⟩ := takes hrun.1 ((takeReport_contested (x := s.sectorContext k) hs).trans
      (by rw [chain, hintrusion]))
    exact ⟨t, _, _, ht, htakes, judge_evaluates (e := applyReport c ch (s.entry k)) hrun.armed hc hl hn _⟩

end Sys2Proof.Machine
end

/-! ## Flags of the grant, by equations (R66, R67, R68) -/

section
namespace Sys2Proof.Machine

variable {x : SectorContext} {e : SectorEntry} {c o : Crane} {g : Grant} {cause : YieldCause}

/-- Only what a change makes of the entry's own grant matters. -/
theorem mapGrant_congr {f f' : Grant → Grant} (hg : grantOf e = some g) (h : f g = f' g) :
    mapGrant f e = mapGrant f' e := by
  rcases grantOf_iff.mp hg with ⟨h', hb⟩ | ⟨f', left, hb⟩
  · rw [mapGrant_held hb, mapGrant_held hb, h]
  · rw [mapGrant_clearing hb, mapGrant_clearing hb, h]

/-- A change that leaves the entry's own grant as it is. -/
theorem mapGrant_fixed {f : Grant → Grant} (hg : grantOf e = some g) (h : f g = g) : mapGrant f e = e :=
  (mapGrant_congr (f' := fun g => g) hg h).trans (mapGrant_id e)

theorem setYield_sets (ho : ownerOf e = some o) (hg : grantOf e = some g)
    (h : g.yielding = none ∨ (g.yielding = some .slice ∧ cause = .booking)) :
    setYield x cause e = (mapGrant (fun g => { g with yielding := some cause }) e,
      [eventOf .yield (some o) (some x.sector) (yieldCode cause)]) := by
  unfold setYield
  rw [ho, hg]
  exact if_pos h

/-- R68: cause BOOKING, set over any flag but its own, with one YIELD event. -/
theorem setYield_booking (ho : ownerOf e = some o) (hg : grantOf e = some g) :
    setYield x .booking e = (mapGrant (fun g => { g with yielding := some .booking }) e,
      if g.yielding = some .booking then [] else [eventOf .yield (some o) (some x.sector) 1]) := by
  by_cases h : g.yielding = some .booking
  · have hkeeps : mapGrant (fun g => { g with yielding := some .booking }) e = e :=
      mapGrant_fixed hg (by rw [← h])
    unfold setYield
    rw [ho, hg, hkeeps, if_pos h]
    exact if_neg (by simp [h])
  · rw [setYield_sets ho hg, if_neg h]
    · rfl
    · match hy : g.yielding with
      | none => exact .inl rfl
      | some .slice => exact .inr ⟨rfl, rfl⟩
      | some .booking => exact absurd hy h

theorem setOverstay_owned (ho : ownerOf e = some o) :
    setOverstay x e = (mapGrant (fun g => { g with overstay := true }) e,
      [eventOf .overstay (some o) (some x.sector)]) := by
  rw [setOverstay, ho]

/-- R67: the slice of the ROUTINE grant is spent and its yield flag is clear. -/
def SectorContext.spent (x : SectorContext) (g : Grant) : Bool :=
  g.kind = .routine && x.record.slice != 0 && g.sliceLeft = 0 && g.yielding = none

theorem SectorContext.spent_iff : x.spent g = true ↔
    g.kind = .routine ∧ x.record.slice ≠ 0 ∧ g.sliceLeft = 0 ∧ g.yielding = none := by
  simp [SectorContext.spent, and_assoc]

/-- R66, R67: the arrival of a waiter at a grant. -/
theorem waiterArrives_owned (ho : ownerOf e = some o) (hg : grantOf e = some g) :
    waiterArrives x e =
      (mapGrant (fun g' => { g' with
          overstay := g'.overstay || g'.expired
          yielding := if x.spent g = true then some .slice else g'.yielding }) e,
        (if g.expired = true ∧ g.overstay = false then [eventOf .overstay (some o) (some x.sector)] else []) ++
          (if x.spent g = true then [eventOf .yield (some o) (some x.sector) 0] else [])) := by
  have hover : (if (g.expired && !g.overstay) = true then setOverstay x e else (e, [])) =
      (mapGrant (fun g => { g with overstay := g.overstay || g.expired }) e,
        if g.expired = true ∧ g.overstay = false then [eventOf .overstay (some o) (some x.sector)] else []) := by
    by_cases h : g.expired = true ∧ g.overstay = false
    · rw [if_pos (by simp [h]), if_pos h, setOverstay_owned ho, mapGrant_congr hg]
      simp [h.1]
    · rw [if_neg (by simpa using h), if_neg h, mapGrant_fixed hg]
      have hkeeps : (g.overstay || g.expired) = g.overstay := by
        cases hx : g.expired with
        | false => simp
        | true => simp [show g.overstay = true by simpa [hx] using h]
      rw [hkeeps]
  unfold waiterArrives
  rw [hg]
  dsimp only
  rw [hover, chain]
  by_cases hspent : x.spent g = true
  · obtain ⟨-, -, -, hy⟩ := SectorContext.spent_iff.mp hspent
    have hg' : grantOf (mapGrant (fun g => { g with overstay := g.overstay || g.expired }) e) =
        some { g with overstay := g.overstay || g.expired } := by rw [mapGrant_grantOf, hg]; rfl
    simp only [← SectorContext.spent_iff, if_pos hspent,
      setYield_sets (x := x) (cause := .slice) ((mapGrant_ownerOf _ e).trans ho) hg' (.inl hy), mapGrant_mapGrant]
    rfl
  · simp only [← SectorContext.spent_iff, if_neg hspent]

end Sys2Proof.Machine
end

/-! ## Knocks (R57, R65 to R67): O38 -/

section
namespace Sys2Proof.Machine

variable {s : State} {k : Sector} {x : SectorContext} {e : SectorEntry} {c o : Crane} {g : Grant}

theorem hasWaiter_of_queue (h : e.queue ≠ []) : hasWaiter e = true := hasWaiter_iff.mpr (.inl h)

/-- R57: the queue with the crane's keep timer restarted. -/
def SectorEntry.kept (x : SectorContext) (c : Crane) (e : SectorEntry) : SectorEntry :=
  { e with queue := e.queue.map (fun q => if q.crane = c then { q with keep := x.keepTime } else q) }

/-- R57: the crane appended to the queue. -/
def SectorEntry.appended (x : SectorContext) (c : Crane) (e : SectorEntry) : SectorEntry :=
  { e with queue := e.queue ++ [{ crane := c, keep := x.keepTime, resume := false }] }

theorem enqueue_queued (h : queued e c = true) : enqueue x c e = (e.kept x c, []) := if_pos h

theorem enqueue_full (h : queued e c = false) (hfull : ¬ e.queue.length < 3) : enqueue x c e = (e, []) :=
  (if_neg (by simp [h])).trans (if_neg hfull)

theorem enqueue_room (h : queued e c = false) (hroom : e.queue.length < 3) :
    enqueue x c e = if hasWaiter e = true then (e.appended x c, []) else waiterArrives x (e.appended x c) :=
  (if_neg (by simp [h])).trans (if_pos hroom)

/-- R57: where a crane waits already, or no grant stands, the queue alone changes. -/
theorem enqueue_appends (h : queued e c = false) (hroom : e.queue.length < 3)
    (hw : hasWaiter e = true ∨ grantOf e = none) : enqueue x c e = (e.appended x c, []) := by
  rw [enqueue_room h hroom]
  by_cases hwaits : hasWaiter e = true
  · exact if_pos hwaits
  · have hn : grantOf (e.appended x c) = none := hw.resolve_left hwaits
    rw [if_neg hwaits, waiterArrives, hn]

/-- R57: the entry after a knock that is neither discarded, without effect, nor the former holder's return. -/
def SectorEntry.enqueued (x : SectorContext) (c : Crane) (e : SectorEntry) : SectorEntry :=
  if queued e c = true then e.kept x c else if e.queue.length < 3 then e.appended x c else e

/-- R57: it differs in its queue alone. -/
theorem SectorEntry.enqueued_eq (x : SectorContext) (c : Crane) (e : SectorEntry) :
    e.enqueued x c = { e with queue := (e.enqueued x c).queue } := by
  unfold SectorEntry.enqueued
  split
  · rfl
  · split
    · rfl
    · rfl

/-- R57: the entry of an ungranted sector after a knock that is neither discarded nor without effect. -/
theorem enqueue_ungranted (hn : ownerOf e = none) : enqueue x c e = (e.enqueued x c, []) := by
  unfold SectorEntry.enqueued
  by_cases hq : queued e c = true
  · rw [enqueue_queued hq, if_pos hq]
  · rw [if_neg hq]
    by_cases hroom : e.queue.length < 3
    · rw [enqueue_appends (by simpa using hq) hroom (.inr (ownerOf_eq_none_iff.mp hn)), if_pos hroom]
    · rw [enqueue_full (by simpa using hq) hroom, if_neg hroom]

/-- R65: when a knock gives the sector back. -/
theorem knockReturns_iff : knockReturns c e = some g ↔
    (∃ left, e.base = .clearing c g left) ∧ e.queue = [] ∧ ∀ cl, e.claimant = some cl → cl.crane = c := by
  have hclaims : (e.claimant = none ∨ claims e c = true) ↔ ∀ cl, e.claimant = some cl → cl.crane = c := by
    cases hcl : e.claimant <;> simp [claims, hcl]
  unfold knockReturns
  cases hb : e.base with
  | clearing f g' left =>
    simp only [hclaims, Option.ite_none_right_eq_some, Option.some.injEq, Base.clearing.injEq]
    constructor
    · rintro ⟨⟨rfl, hq, hcl⟩, rfl⟩
      exact ⟨⟨left, rfl, rfl, rfl⟩, hq, hcl⟩
    · rintro ⟨⟨_, rfl, rfl, rfl⟩, hq, hcl⟩
      exact ⟨⟨rfl, hq, hcl⟩, rfl⟩
  | _ => simp

/-- R57: whose knock is neither discarded nor without effect. -/
def SectorEntry.Heeds (x : SectorContext) (c : Crane) (e : SectorEntry) : Prop :=
  x.armed = true ∧ c ∈ x.record.members ∧ holderOf e ≠ some c ∧ c ∉ e.locks

theorem takeKnock_unheeded (h : ¬ e.Heeds x c) : takeKnock x c e = (e, []) := by
  unfold takeKnock
  split
  · rfl
  · next hmember =>
    refine if_pos (by_contra fun hn => h ?_)
    rw [not_or] at hn
    have hboth : x.armed = true ∧ c ∈ x.record.members := by simpa using hmember
    exact ⟨hboth.1, hboth.2, hn.1, hn.2⟩

/-- R65: a knock that gives the sector back. -/
theorem takeKnock_givesBack (h : e.Heeds x c) (hr : knockReturns c e = some g) :
    takeKnock x c e = chain ({ e with base := .held c g }, []) (judge x none) := by
  obtain ⟨ha, hm, hh, hl⟩ := h
  rw [takeKnock, if_neg (by simp [ha, hm]), if_neg (by simp [hh, hl]), hr]

/-- R57: any other knock that is heeded. -/
theorem takeKnock_enqueues (h : e.Heeds x c) (hr : knockReturns c e = none) :
    takeKnock x c e = chain (enqueue x c e) (judge x none) := by
  obtain ⟨ha, hm, hh, hl⟩ := h
  rw [takeKnock, if_neg (by simp [ha, hm]), if_neg (by simp [hh, hl]), hr]

/-- R65: the former holder's knock gives the sector back; nobody waits for it. -/
theorem takeKnock_returns {left : Nat} (h : e.Heeds x c) (hs : stateOf x.record.clash e = .clearing)
    (hb : e.base = .clearing c g left) (hq : e.queue = []) (hcl : ∀ cl, e.claimant = some cl → cl.crane = c) :
    takeKnock x c e = ({ e with base := .held c { g with yielding := none } }, []) := by
  obtain ⟨hc, hl, -⟩ := stateOf_open hs nofun nofun
  have hidle : hasWaiter { e with base := .held c g } = false := by
    rw [Bool.eq_false_iff, Ne, hasWaiter_iff]
    rintro (hn | ⟨cl, hn, hne⟩)
    · exact hn hq
    · exact hne (congrArg some (hcl cl hn).symm)
  rw [takeKnock_givesBack h (knockReturns_iff.mpr ⟨⟨left, hb⟩, hq, hcl⟩)]
  refine (chain_judge_settled h.1 (settled_of_held hc hl rfl)).trans ?_
  rw [clearIdleYield_idle hidle]
  rfl

theorem SectorEntry.Settled.kept (h : e.Settled x.record.clash) : (e.kept x c).Settled x.record.clash := h

theorem SectorEntry.Settled.appended (h : e.Settled x.record.clash) : (e.appended x c).Settled x.record.clash := h

/-- R57, R66, R67: an enqueueing knock at a settled entry. -/
theorem chain_enqueue_settled (ha : x.armed = true) (h : e.Settled x.record.clash) :
    (queued e c = true → chain (enqueue x c e) (judge x none) = (e.kept x c, [])) ∧
    (queued e c = false → 3 ≤ e.queue.length → chain (enqueue x c e) (judge x none) = (e, [])) ∧
    (queued e c = false → e.queue.length < 3 → (hasWaiter e = true ∨ grantOf e = none) →
      chain (enqueue x c e) (judge x none) = (e.appended x c, [])) ∧
    (queued e c = false → e.queue.length < 3 → hasWaiter e = false →
      ∀ o g, ownerOf e = some o → grantOf e = some g →
      chain (enqueue x c e) (judge x none) = waiterArrives x (e.appended x c)) := by
  have happended : hasWaiter (e.appended x c) = true := hasWaiter_of_queue (by simp [SectorEntry.appended])
  refine ⟨fun hq => ?_, fun hq hfull => ?_, fun hq hroom hw => ?_, fun hq hroom hw o g ho hg => ?_⟩
  · obtain ⟨q, hmem, -⟩ := queued_iff.mp hq
    have hwaits : hasWaiter (e.kept x c) = true :=
      hasWaiter_of_queue (by simpa [SectorEntry.kept] using List.ne_nil_of_mem hmem)
    rw [enqueue_queued hq, chain_judge_settled ha h.kept, clearIdleYield_waiting hwaits]
  · have hwaits : hasWaiter e = true := hasWaiter_of_queue (by rintro hn; simp [hn] at hfull)
    rw [enqueue_full hq (by omega), chain_judge_settled ha h, clearIdleYield_waiting hwaits]
  · rw [enqueue_appends hq hroom hw, chain_judge_settled ha h.appended, clearIdleYield_waiting happended]
  · rw [enqueue_room hq hroom, if_neg (by simp [hw])]
    obtain ⟨f, hf⟩ := waiterArrives_regrants x (e.appended x c)
    have hset : (waiterArrives x (e.appended x c)).1.Settled x.record.clash := by
      rw [hf]
      exact h.appended.congr (mapGrant_stateOf _ _ _) rfl
    rw [chain_judge_settled ha hset, clearIdleYield_waiting (by rw [hf, mapGrant_hasWaiter]; exact happended)]

/-- Settles O38: a knock that is heeded gives the sector back or enqueues, and the entry is then judged. -/
theorem knockTaken : Obligations.KnockTaken := by
  intro s k c hready
  dsimp only
  have hexec := exec_knock hready k c
  have takes {e' : SectorEntry} {bs : List EventBody} (hon : (s.sector k).enabled = true)
      (h : takeKnock (s.sectorContext k) c (s.entry k) = (e', bs)) :
      ∃ t, exec (.knock k c) s = .next t ∧ s.EntryTakes t k e' bs := ⟨_, hexec, entryEvent_becomes hon h⟩
  have heeds (h : s.Running k ∧ c ∈ (s.sector k).members ∧ holderOf (s.entry k) ≠ some c ∧ c ∉ (s.entry k).locks) :
      (s.entry k).Heeds (s.sectorContext k) c := ⟨h.1.armed, h.2⟩
  refine ⟨fun hn => hexec.trans (congrArg _ (entryEvent_same fun hon => takeKnock_unheeded fun h => hn ?_)),
    fun hwanted hreturns g left hb => ?_, fun hwanted hkeeps hstays => ?_, fun hwanted hfree => ?_⟩
  · obtain ⟨ha, hrest⟩ := h
    exact ⟨⟨hon, by simpa [State.sectorContext] using ha⟩, hrest⟩
  · obtain ⟨hs, -, hq, hcl⟩ := hreturns
    exact takes hwanted.1.1 (takeKnock_returns (heeds hwanted) hs hb hq hcl)
  · have hstay : knockReturns c (s.entry k) = none := by
      by_contra hn
      obtain ⟨g, hg⟩ := Option.ne_none_iff_exists'.mp hn
      obtain ⟨⟨left, hb⟩, hq, hcl⟩ := knockReturns_iff.mp hg
      have ho : ownerOf (s.entry k) = some c := by rw [ownerOf, hb]
      refine hstays ⟨?_, ho, hq, hcl⟩
      have hbase : baseState (s.entry k) = .clearing := by rw [baseState, hb]
      rcases hkeeps with h | h | ⟨-, h⟩ | ⟨h, -⟩
      · obtain ⟨-, -, hheld⟩ := stateOf_open h nofun nofun
        rw [hbase] at hheld
        cases hheld
      · exact h
      · rw [ho] at h
        cases h
      · obtain ⟨-, -, hn⟩ := unowned_of_state h (.inr rfl)
        rw [ho] at hn
        cases hn
    have hknock := takeKnock_enqueues (heeds hwanted) hstay
    obtain ⟨hkept, hfull, hadds, harrives⟩ :=
      chain_enqueue_settled (c := c) hwanted.1.armed (settled_of_keepsState hkeeps)
    refine ⟨fun hq => takes hwanted.1.1 (hknock.trans (hkept hq)), fun hq hlen => ?_,
      fun hq hlen hw => takes hwanted.1.1 (hknock.trans (hadds hq hlen hw)), fun hq hlen hw o g ho hg =>
      takes hwanted.1.1 (hknock.trans ((harrives hq hlen hw o g ho hg).trans (waiterArrives_owned ho hg)))⟩
    exact hexec.trans (congrArg _ (entryEvent_same fun _ => hknock.trans (hfull hq hlen)))
  · obtain ⟨hc, hl, hn⟩ := unowned_of_state hfree (.inl rfl)
    have hstay : knockReturns c (s.entry k) = none := by
      rw [knockReturns, (stateOf_free.mp hfree).2.2]
    obtain ⟨t, ht, htakes⟩ := takes hwanted.1.1
      ((takeKnock_enqueues (heeds hwanted) hstay).trans (by rw [enqueue_ungranted hn, chain]))
    have hsame := SectorEntry.enqueued_eq (s.sectorContext k) c (s.entry k)
    exact ⟨t, _, _, ht, htakes, judge_evaluates (e := (s.entry k).enqueued (s.sectorContext k) c) hwanted.1.armed
      (by rw [hsame]; exact hc) (by rw [hsame]; exact hl) (by rw [hsame]; exact hn) none⟩

end Sys2Proof.Machine
end

/-! ## Booked-claimant changes (R59, R66, R69, R71): O39 -/

section
namespace Sys2Proof.Machine

variable {s : State} {k : Sector} {x : SectorContext} {e : SectorEntry} {o : Crane} {g : Grant}
  {left : List (Half × BookingState)} {claimant : Option Claimant} {cl : Claimant} {id : Half}

/-! ### The listed booking (R71) -/

theorem endListed_unlisted (hg : grantOf e = some g) (h : ∀ id st, (id, st) ∈ left → g.kind ≠ .booked id) :
    endListed x left e = (e, []) := by
  unfold endListed
  rw [hg]
  cases hk : g.kind with
  | routine => simp [hk]
  | booked id =>
    have hn : left.any (fun b => b.1 == id) = false := by
      rw [List.any_eq_false]
      rintro ⟨i, st⟩ hm
      simpa using fun hi => h i st hm (by rw [hk, hi])
    simp [hk, hn]

/-- R71: what the end of its booking makes of a grant. -/
def SectorContext.demoted (x : SectorContext) (waits : Bool) (g : Grant) : Grant :=
  { g with
    kind := .routine, sliceLeft := x.record.slice, hold := some x.record.holdLimit, expired := false
    yielding := if waits = true then some .booking else g.yielding }

/-- R71: a BOOKED grant whose booking is listed becomes ROUTINE, yielding where a crane waits. -/
theorem endListed_listed {st : BookingState} (ho : ownerOf e = some o) (hg : grantOf e = some g) (hm : (id, st) ∈ left)
    (hk : g.kind = .booked id) :
    endListed x left e =
      (mapGrant (x.demoted (hasWaiter e)) e,
        if hasWaiter e = true ∧ g.yielding ≠ some .booking then [eventOf .yield (some o) (some x.sector) 1] else []) := by
  have hlisted : left.any (fun b => b.1 == id) = true := List.any_eq_true.mpr ⟨_, hm, by simp⟩
  have hend : endListed x left e = endPriority x e := by
    unfold endListed
    rw [hg]
    simp [hk, hlisted]
  rw [hend, endPriority]
  rw [mapGrant_hasWaiter]
  by_cases hw : hasWaiter e = true
  · rw [if_pos hw, setYield_booking ((mapGrant_ownerOf _ e).trans ho) (by rw [mapGrant_grantOf, hg]; rfl),
      mapGrant_mapGrant]
    simp only [hw, true_and, ne_eq, ite_not]
    rfl
  · simp only [hw, false_and, if_false, Bool.false_eq_true]
    rfl

/-! ### The new claimant (R69) -/

/-- R69: another crane's booking makes the grant yield. -/
theorem applyClaimant_other (hcl : e.claimant = some cl) (ho : ownerOf e = some o) (hg : grantOf e = some g)
    (hne : cl.crane ≠ o) : applyClaimant x e = (mapGrant (fun g => { g with yielding := some .booking }) e,
      if g.yielding = some .booking then [] else [eventOf .yield (some o) (some x.sector) 1]) := by
  rw [← setYield_booking ho hg, applyClaimant, hcl, ho, hg]
  exact if_neg hne

theorem applyClaimant_none (hcl : e.claimant = none) : applyClaimant x e = (e, []) := by
  rw [applyClaimant, hcl]

/-- R69: the owner's own booking converts its ROUTINE grant in place. -/
theorem applyClaimant_converts (hcl : e.claimant = some cl) (ho : ownerOf e = some cl.crane) (hg : grantOf e = some g)
    (hk : g.kind = .routine) : applyClaimant x e =
      (mapGrant (fun g => { g with
        kind := .booked cl.booking, hold := none, expired := false, overstay := false, yielding := none }) e,
        [converted x cl]) := by
  rw [applyClaimant, hcl, ho, hg]
  simp [hk]

/-- R69: its BOOKED grant passes to another of its bookings. -/
theorem applyClaimant_booked (hcl : e.claimant = some cl) (ho : ownerOf e = some cl.crane) (hg : grantOf e = some g)
    (hk : g.kind = .booked id) : applyClaimant x e =
      if id = cl.booking then (e, [])
      else (mapGrant (fun g => { g with kind := .booked cl.booking }) e, [converted x cl]) := by
  rw [applyClaimant, hcl, ho, hg]
  simp [hk]

/-! ### The event as a whole -/

/-- A claimant that is no other crane's brings no waiter. -/
theorem hasWaiter_own (h : ∀ cl, e.claimant = some cl → ownerOf e = some cl.crane) :
    hasWaiter e = true ↔ e.queue ≠ [] := by
  rw [hasWaiter_iff]
  exact or_iff_left fun ⟨cl, hcl, hne⟩ => hne (h cl hcl)

/-- The three parts of a booked-claimant change at a HELD or CLEARING entry, and the yield flag cleared where no crane
waits (R68). -/
theorem takeClaimant_parts {f f' f'' : Grant → Grant} {bs bs' bs'' : List EventBody} (ha : x.armed = true)
    (hset : e.Settled x.record.clash) (hend : endListed x left e = (mapGrant f e, bs))
    (happly : applyClaimant x (mapGrant f { e with claimant := claimant }) =
      (mapGrant f' { e with claimant := claimant }, bs'))
    (harrives : (if (!hasWaiter e && hasWaiter { e with claimant := claimant }) = true then
        waiterArrives x (mapGrant f' { e with claimant := claimant })
      else (mapGrant f' { e with claimant := claimant }, [])) = (mapGrant f'' { e with claimant := claimant }, bs'')) :
    takeClaimant x left claimant e =
      (clearIdleYield (mapGrant f'' { e with claimant := claimant }), bs ++ bs' ++ bs'') := by
  have hset' : (mapGrant f'' { e with claimant := claimant }).Settled x.record.clash :=
    hset.congr (mapGrant_stateOf _ _ _) rfl
  have hsecond : chain (endListed x left e) (fun e1 => applyClaimant x { e1 with claimant := claimant }) =
      (mapGrant f' { e with claimant := claimant }, bs ++ bs') := by
    rw [hend]
    exact congrArg (fun st : EntryStep => (st.1, bs ++ st.2)) happly
  have hwaits : hasWaiter (mapGrant f' { e with claimant := claimant }) = hasWaiter { e with claimant := claimant } :=
    mapGrant_hasWaiter _ _
  unfold takeClaimant
  rw [hsecond, chain_judge_settled ha]
  · simp only [chain, hwaits, harrives]
  · simp only [chain, hwaits, harrives]
    exact hset'

/-- The same where no waiter arrives: the claimant is none, or is the owner's. -/
theorem takeClaimant_own {f f' : Grant → Grant} {bs bs' : List EventBody} (ha : x.armed = true)
    (hset : e.Settled x.record.clash) (hown : ∀ cl, claimant = some cl → ownerOf e = some cl.crane)
    (hend : endListed x left e = (mapGrant f e, bs))
    (happly : applyClaimant x (mapGrant f { e with claimant := claimant }) =
      (mapGrant f' { e with claimant := claimant }, bs')) :
    takeClaimant x left claimant e = (clearIdleYield (mapGrant f' { e with claimant := claimant }), bs ++ bs') := by
  have hnew : (!hasWaiter e && hasWaiter { e with claimant := claimant }) = false := by
    by_cases hq : e.queue = []
    · have : hasWaiter { e with claimant := claimant } = false := by
        rw [Bool.eq_false_iff, Ne, hasWaiter_own (e := { e with claimant := claimant }) hown]
        exact not_not.mpr hq
      simp [this]
    · simp [hasWaiter_of_queue hq]
  refine (takeClaimant_parts ha hset hend happly (if_neg (by simp [hnew]))).trans ?_
  rw [List.append_nil]

theorem waits_of_other (ho : ownerOf e = some o) (hne : cl.crane ≠ o) :
    hasWaiter { e with claimant := some cl } = true :=
  hasWaiter_iff.mpr (.inr ⟨cl, rfl, fun h => hne (Option.some.inj (h.symm.trans ho))⟩)

/-- R66, R69: another crane's booking: the grant yields, and overstays where it has expired and no crane waited. -/
theorem takeClaimant_other {f : Grant → Grant} {bs : List EventBody} (ha : x.armed = true)
    (hset : e.Settled x.record.clash) (ho : ownerOf e = some o) (hg : grantOf e = some g) (hne : cl.crane ≠ o)
    (hend : endListed x left e = (mapGrant f e, bs)) :
    takeClaimant x left (some cl) e =
      (mapGrant (fun g' => { f g' with
          yielding := some .booking
          overstay := (f g').overstay || ((f g).expired && !(f g).overstay && !hasWaiter e) })
          { e with claimant := some cl },
        bs ++ ((if (f g).yielding = some .booking then [] else [eventOf .yield (some o) (some x.sector) 1]) ++
          (if ((f g).expired && !(f g).overstay && !hasWaiter e) = true then
            [eventOf .overstay (some o) (some x.sector)] else []))) := by
  have hwaits := waits_of_other ho hne
  have hg1 (f : Grant → Grant) : grantOf (mapGrant f { e with claimant := some cl }) = some (f g) := by
    rw [mapGrant_grantOf]
    exact congrArg (Option.map f) hg
  have ho1 (f : Grant → Grant) : ownerOf (mapGrant f { e with claimant := some cl }) = some o :=
    (mapGrant_ownerOf _ _).trans ho
  have happly := applyClaimant_other (x := x) (e := mapGrant f { e with claimant := some cl }) rfl (ho1 f) (hg1 f) hne
  rw [mapGrant_mapGrant] at happly
  cases hw : hasWaiter e with
  | true =>
    rw [takeClaimant_parts ha hset hend happly (if_neg (by simp [hw])),
      clearIdleYield_waiting ((mapGrant_hasWaiter _ _).trans hwaits)]
    simp
  | false =>
    have hspent : x.spent { f g with yielding := some .booking } = false := by simp [SectorContext.spent]
    have harrives := waiterArrives_owned (x := x) (ho1 fun g => { f g with yielding := some .booking }) (hg1 _)
    rw [mapGrant_mapGrant] at harrives
    simp only [hspent] at harrives
    rw [takeClaimant_parts ha hset hend happly ((if_pos (by simp [hw, hwaits])).trans harrives),
      clearIdleYield_waiting ((mapGrant_hasWaiter _ _).trans hwaits)]
    refine Prod.ext (mapGrant_congr (g := g) hg ?_) ?_
    · have hlate (expired overstay : Bool) : (overstay || expired) = (overstay || (expired && !overstay)) := by
        cases overstay <;> simp
      simpa using hlate _ _
    · simp

/-- R69: the owner's own booking, its grant ROUTINE after R71. -/
theorem takeClaimant_converts {f : Grant → Grant} {bs : List EventBody} (ha : x.armed = true)
    (hset : e.Settled x.record.clash) (ho : ownerOf e = some cl.crane) (hg : grantOf e = some g)
    (hend : endListed x left e = (mapGrant f e, bs)) (hk : (f g).kind = .routine) :
    takeClaimant x left (some cl) e =
      (mapGrant (fun g' => { f g' with
          kind := .booked cl.booking, hold := none, expired := false, overstay := false, yielding := none })
          { e with claimant := some cl }, bs ++ [converted x cl]) := by
  have hg1 : grantOf (mapGrant f { e with claimant := some cl }) = some (f g) := by
    rw [mapGrant_grantOf]
    exact congrArg (Option.map f) hg
  have happly := applyClaimant_converts (x := x) (e := mapGrant f { e with claimant := some cl }) rfl
    ((mapGrant_ownerOf _ _).trans ho) hg1 hk
  rw [mapGrant_mapGrant] at happly
  rw [takeClaimant_own ha hset (fun _ hcl => Option.some.inj hcl ▸ ho) hend happly, clearIdleYield_of_none]
  intro g' hg'
  rw [mapGrant_grantOf] at hg'
  obtain ⟨_, -, rfl⟩ := Option.map_eq_some_iff.mp hg'
  rfl

/-- R69: the owner's own booking, its grant BOOKED and its booking not listed. -/
theorem takeClaimant_booked (ha : x.armed = true) (hset : e.Settled x.record.clash) (ho : ownerOf e = some cl.crane)
    (hg : grantOf e = some g) (hend : endListed x left e = (mapGrant (fun g => g) e, [])) (hk : g.kind = .booked id) :
    takeClaimant x left (some cl) e =
      if id = cl.booking then (clearIdleYield { e with claimant := some cl }, [])
      else (clearIdleYield (mapGrant (fun g => { g with kind := .booked cl.booking }) { e with claimant := some cl }),
        [converted x cl]) := by
  have happly := applyClaimant_booked (x := x) (e := { e with claimant := some cl }) rfl ho hg hk
  rw [← mapGrant_id { e with claimant := some cl }] at happly
  have hown : ∀ cl', some cl = some cl' → ownerOf e = some cl'.crane := fun _ h => Option.some.inj h ▸ ho
  by_cases hid : id = cl.booking
  · rw [if_pos hid] at happly ⊢
    rw [takeClaimant_own ha hset hown hend happly, mapGrant_id]
    rfl
  · rw [if_neg hid, mapGrant_mapGrant] at happly
    rw [if_neg hid]
    exact takeClaimant_own ha hset hown hend happly

/-- R68, R71: without a claimant the queue alone keeps the demoted grant yielding. -/
theorem demoted_unclaimed :
    clearIdleYield (mapGrant (x.demoted (hasWaiter e)) { e with claimant := none }) =
      mapGrant (fun g => { g with
          kind := .routine, sliceLeft := x.record.slice, hold := some x.record.holdLimit, expired := false
          yielding := if e.queue = [] then none else some .booking }) { e with claimant := none } := by
  have hwaits : hasWaiter (mapGrant (x.demoted (hasWaiter e)) { e with claimant := none }) = true ↔ e.queue ≠ [] :=
    hasWaiter_own fun _ h => nomatch h
  by_cases hq : e.queue = []
  · rw [clearIdleYield_idle (by rw [Bool.eq_false_iff, Ne, hwaits]; exact not_not.mpr hq), mapGrant_mapGrant]
    simp only [hq, if_true]
    rfl
  · rw [clearIdleYield_waiting (hwaits.mpr hq), hasWaiter_of_queue hq]
    simp only [hq, if_false]
    rfl

/-- Settles O39: the end of a listed booking, the new claimant and the arrival of a waiter are three changes of the one
grant record, composed. -/
theorem claimantChangeTaken : Obligations.ClaimantChangeTaken := by
  intro s k left claimant hready
  dsimp only
  have hexec := exec_bookedClaimantChange hready k left claimant
  have takes {e' : SectorEntry} {bs : List EventBody} (hon : (s.sector k).enabled = true)
      (h : takeClaimant (s.sectorContext k) left claimant (s.entry k) = (e', bs)) :
      ∃ t, exec (.bookedClaimantChange k left claimant) s = .next t ∧ s.EntryTakes t k e' bs :=
    ⟨_, hexec, entryEvent_becomes hon h⟩
  refine ⟨fun hoff => hexec.trans (congrArg _ (entryEvent_disabled hoff _)), fun hon hconfig hn => takes hon ?_,
    fun hrun hkeeps hn => takes hrun.1 ?_, fun hrun hfree => ?_, fun hrun hs o g ho hg => ?_⟩
  · rw [takeClaimant_unowned hn, judge_unarmed (unarmed_of_mode hconfig)]
  · rw [takeClaimant_unowned hn]
    have hset := settled_of_keepsState hkeeps
    exact judge_settled_unowned (e := { s.entry k with claimant := claimant }) hset hn none
  · obtain ⟨hc, hl, hn⟩ := unowned_of_state hfree (.inl rfl)
    obtain ⟨t, ht, htakes⟩ := takes hrun.1 (takeClaimant_unowned hn left claimant)
    exact ⟨t, _, _, ht, htakes,
      judge_evaluates (e := { s.entry k with claimant := claimant }) hrun.armed hc hl hn none⟩
  · have ha := hrun.armed
    have hset : (s.entry k).Settled (s.sectorContext k).record.clash := settled_of_granted hs
    refine ⟨fun hun => ?_, fun id st hm hk => ?_⟩
    · have hend : endListed (s.sectorContext k) left (s.entry k) = (mapGrant (fun g => g) (s.entry k), []) := by
        rw [endListed_unlisted hg hun, mapGrant_id]
      refine ⟨fun cl hcl hne => takes hrun.1 ?_, fun cl hcl hown hk => takes hrun.1 ?_,
        fun cl hcl hown hk => takes hrun.1 ?_, fun cl id hcl hown hk hid => takes hrun.1 ?_,
        fun hcl => takes hrun.1 ?_⟩
      · rw [hcl, takeClaimant_other ha hset ho hg hne hend]
        rfl
      · subst hcl hown
        exact takeClaimant_converts ha hset ho hg hend hk
      · subst hcl hown
        exact (takeClaimant_booked ha hset ho hg hend hk).trans (if_pos rfl)
      · subst hcl hown
        exact (takeClaimant_booked ha hset ho hg hend hk).trans (if_neg hid)
      · subst hcl
        rw [takeClaimant_own (claimant := none) ha hset nofun hend (applyClaimant_none rfl), mapGrant_id]
        rfl
    · have hend := endListed_listed (x := s.sectorContext k) ho hg hm hk
      refine ⟨fun hcl => takes hrun.1 ?_, fun cl hcl hne => takes hrun.1 ?_, fun cl hcl hown => takes hrun.1 ?_⟩
      · subst hcl
        rw [takeClaimant_own (claimant := none) ha hset nofun hend (applyClaimant_none rfl), List.append_nil,
          demoted_unclaimed]
        rfl
      · rw [hcl, takeClaimant_other ha hset ho hg hne hend]
        refine Prod.ext (mapGrant_congr (g := g) hg ?_) ?_
        · simp [SectorContext.demoted, State.sectorContext]
        · cases hw : hasWaiter (s.entry k) with
          | true => simp [SectorContext.demoted, State.sectorContext]
          | false => simp [SectorContext.demoted, State.sectorContext]
      · subst hcl hown
        exact takeClaimant_converts ha hset ho hg hend rfl

end Sys2Proof.Machine
end

/-! ## The keep, clearing and hold timers (R58, R64, R66, R70): O42 -/

section
namespace Sys2Proof.Machine

variable {s : State} {k : Sector} {x : SectorContext} {e : SectorEntry} {c f o h : Crane} {g : Grant}

theorem takeKeepExpiry_queued (hq : queued e c = true) :
    takeKeepExpiry x c e = judge x none { e with queue := withdraw e.queue c } := if_pos hq

theorem takeKeepExpiry_unqueued (hq : queued e c = false) : takeKeepExpiry x c e = (e, []) := if_neg (by simp [hq])

/-- R70: the former holder, back at the head of the queue with its resume mark set. -/
def SectorEntry.resumed (x : SectorContext) (f : Crane) (e : SectorEntry) : SectorEntry :=
  { e with queue := { crane := f, keep := x.keepTime, resume := true } :: withdraw e.queue f }

/-- R70: the entry after the evaluation, once a former holder's resume claim has been honoured. -/
def SectorContext.honours (x : SectorContext) (f : Crane) (claim : Bool) (e1 : SectorEntry) : SectorEntry :=
  match holderOf e1 with
  | some h => if claim = true ∧ h ≠ f then e1.resumed x f else e1
  | none => e1

/-- R64, R70: the clearing timer's expiry. -/
theorem takeClearingExpiry_clearing {left : Nat} (hb : e.base = .clearing f g left) :
    takeClearingExpiry x e = (x.honours f (resumeClaim f g e) (judge x none { e with base := .free }).1,
      eventOf .release (some f) (some x.sector) 0 :: (judge x none { e with base := .free }).2) := by
  unfold takeClearingExpiry
  rw [hb]
  dsimp only [chain]
  generalize judge x none { e with base := .free } = st
  unfold SectorContext.honours holderOf
  cases hb1 : st.1.base with
  | held h g' =>
    dsimp only
    split
    · simp [SectorEntry.resumed, hb1]
    · simp
  | _ => simp

theorem takeClearingExpiry_idle (h : ∀ f g left, e.base ≠ .clearing f g left) : takeClearingExpiry x e = (e, []) := by
  unfold takeClearingExpiry
  split
  · next hb => exact absurd hb (h _ _ _)
  · rfl

theorem resumeClaim_iff : resumeClaim f g e = true ↔
    g.kind = .routine ∧ g.yielding = some .booking ∧ ∃ cl, e.claimant = some cl ∧ cl.crane ≠ f := by
  cases hcl : e.claimant <;> simp [resumeClaim, claims, hcl, and_assoc]

/-- R66: the hold timer's expiry under a waiter's eyes. -/
theorem takeHoldExpiry_waiting (ha : x.armed = true) (hset : e.Settled x.record.clash) (ho : ownerOf e = some o)
    (hg : grantOf e = some g) (hrun : g.hold ≠ none) (hw : hasWaiter e = true) :
    takeHoldExpiry x e = (mapGrant (fun g => { g with hold := none, overstay := true }) e,
      [eventOf .overstay (some o) (some x.sector)]) := by
  unfold takeHoldExpiry
  rw [hg]
  dsimp only
  rw [if_neg hrun, mapGrant_hasWaiter, if_pos hw, setOverstay_owned ((mapGrant_ownerOf _ e).trans ho),
    mapGrant_mapGrant, chain_judge_settled ha (hset.congr (mapGrant_stateOf _ _ _) rfl),
    clearIdleYield_waiting ((mapGrant_hasWaiter _ _).trans hw)]

/-- R66, R68: the hold timer's expiry while no crane waits. -/
theorem takeHoldExpiry_unwaited (ha : x.armed = true) (hset : e.Settled x.record.clash) (hg : grantOf e = some g)
    (hrun : g.hold ≠ none) (hw : hasWaiter e = false) :
    takeHoldExpiry x e = (mapGrant (fun g => { g with hold := none, expired := true, yielding := none }) e, []) := by
  unfold takeHoldExpiry
  rw [hg]
  dsimp only
  rw [if_neg hrun, mapGrant_hasWaiter, if_neg (by simp [hw]), mapGrant_mapGrant,
    chain_judge_settled ha (hset.congr (mapGrant_stateOf _ _ _) rfl),
    clearIdleYield_idle ((mapGrant_hasWaiter _ _).trans hw), mapGrant_mapGrant]

theorem takeHoldExpiry_stopped (h : ∀ g, grantOf e = some g → g.hold = none) : takeHoldExpiry x e = (e, []) := by
  unfold takeHoldExpiry
  split
  · next hg => exact if_pos (h _ hg)
  · rfl

/-- Settles O42: each expiry is a change of the entry that is then judged; a resume claim is honoured last. -/
theorem sectorTimersExpire : Obligations.SectorTimersExpire := by
  intro s k c hready
  dsimp only
  have hkeep := exec_keepTimerExpiry hready k c
  have hclearing := exec_clearingExpiry hready k
  have hhold := exec_holdTimerExpiry hready k
  refine ⟨fun hq => hkeep.trans (congrArg _ (entryEvent_same fun _ => takeKeepExpiry_unqueued hq)),
    fun hrun hq hkeeps => ⟨_, hkeep, entryEvent_becomes hrun.1 ((takeKeepExpiry_queued hq).trans ?_)⟩,
    fun hrun hq hfree => ?_,
    fun hn => hclearing.trans (congrArg _ (entryEvent_same fun _ => takeClearingExpiry_idle hn)),
    fun hrun hs f g left hb => ?_,
    fun hn => hhold.trans (congrArg _ (entryEvent_same fun _ => takeHoldExpiry_stopped hn)),
    fun hrun hs o g ho hg hne => ⟨fun hw => ⟨_, hhold, entryEvent_becomes hrun.1 ?_⟩,
      fun hw => ⟨_, hhold, entryEvent_becomes hrun.1 ?_⟩⟩⟩
  · have hset := settled_of_keepsState hkeeps
    exact judge_settled (e := { s.entry k with queue := withdraw (s.entry k).queue c }) hrun.armed hset none
  · obtain ⟨hc, hl, hn⟩ := unowned_of_state hfree (.inl rfl)
    exact ⟨_, _, _, hkeep, entryEvent_becomes hrun.1 (takeKeepExpiry_queued hq),
      judge_evaluates (e := { s.entry k with queue := withdraw (s.entry k).queue c }) hrun.armed hc hl hn none⟩
  · obtain ⟨hc, hl, -⟩ := stateOf_open hs nofun nofun
    refine ⟨_, _, _, _, hclearing, entryEvent_becomes hrun.1 (takeClearingExpiry_clearing hb),
      judge_evaluates (e := { s.entry k with base := .free }) hrun.armed hc hl rfl none, ?_, ?_⟩
    · intro h cl hk hy hcl hne hholder hf
      unfold SectorContext.honours
      rw [hholder]
      exact if_pos ⟨resumeClaim_iff.mpr ⟨hk, hy, cl, hcl, hne⟩, hf⟩
    · intro hcase
      unfold SectorContext.honours
      cases hholder : holderOf (judge (s.sectorContext k) none { s.entry k with base := .free }).1 with
      | none => rfl
      | some h =>
        refine if_neg fun ⟨hclaim, hf⟩ => ?_
        obtain ⟨hk, hy, cl, hcl, hne⟩ := resumeClaim_iff.mp hclaim
        rcases hcase with hn | hn | hn | hn | hn
        · exact hn hk
        · exact hn hy
        · exact hne (hn cl hcl)
        · rw [hholder] at hn
          cases hn
        · rw [hholder] at hn
          exact hf (Option.some.inj hn)
  · exact takeHoldExpiry_waiting hrun.armed (settled_of_granted hs) ho hg hne hw
  · exact takeHoldExpiry_unwaited hrun.armed (settled_of_granted hs) hg hne hw

end Sys2Proof.Machine
end

/-! ## Lock requests, closure and opening (R72 to R74): O40 -/

section
namespace Sys2Proof.Machine

variable {s t : State} {k : Sector} {x : SectorContext} {e : SectorEntry} {c f h : Crane} {g : Grant} {cause : Nat}
  {bs : List EventBody} {tag code : Byte}

/-! ### The end of a grant (R73) -/

/-- R73: where two members outside the lock set remain, the sector is CONTESTED under the closure or the lock. -/
def vacated (outside : List Crane) : Base := if 2 ≤ outside.length then .contested else .free

theorem dispossess_held {outside : List Crane} (hb : e.base = .held h g)
    (ho : e.presence.filter (fun c => !(lockSet x.record.clash e).contains c) = outside) :
    dispossess x cause e = ({ e with base := vacated outside },
      eventOf .release (some h) (some x.sector) cause ::
        (if h ∈ outside then [eventOf .evacuate (some h) (some x.sector) cause] else [])) := by
  unfold dispossess
  rw [ho, hb]
  rfl

theorem dispossess_clearing {outside : List Crane} {left : Nat} (hb : e.base = .clearing f g left)
    (ho : e.presence.filter (fun c => !(lockSet x.record.clash e).contains c) = outside) :
    dispossess x cause e =
      ({ e with base := vacated outside }, [eventOf .release (some f) (some x.sector) cause]) := by
  unfold dispossess
  rw [ho, hb]
  rfl

theorem dispossess_idle (hn : ownerOf e = none) : dispossess x cause e = (e, []) := by
  unfold dispossess
  rcases base_of_unowned hn with hb | hb
  · rw [hb]
  · rw [hb]

/-! ### Lock requests and unlocks (R72) -/

/-- R72: the crane among the lock requests, and its queue entry withdrawn. -/
def SectorEntry.locked (c : Crane) (e : SectorEntry) : SectorEntry :=
  { e with locks := if c ∈ e.locks then e.locks else e.locks ++ [c], queue := withdraw e.queue c }

theorem SectorEntry.locked_locks_ne (c : Crane) (e : SectorEntry) : (e.locked c).locks ≠ [] := by
  unfold SectorEntry.locked
  by_cases hm : c ∈ e.locks
  · simpa [hm] using List.ne_nil_of_mem hm
  · simp [hm]

theorem takeLock_discarded (h : ¬ (x.armed = true ∧ c ∈ x.record.members)) : takeLock x c e = (e, []) :=
  if_neg (by simpa using h)

theorem takeLock_taken (h : x.armed = true ∧ c ∈ x.record.members) : takeLock x c e =
    chain (if e.closed = false ∧ lockSet x.record.clash e = [] then dispossess x 2 (e.locked c) else (e.locked c, []))
      (judge x none) := by
  refine (if_pos (by simpa using h)).trans ?_
  simp only [List.contains_iff_mem]
  rfl

/-- R73: a locked entry without a grant stays as it is. -/
theorem chain_locked {st : EntryStep} (hl : st.1.locks ≠ []) (hn : ownerOf st.1 = none) :
    chain st (judge x none) = st := by
  rw [chain, judge_settled_unowned (settled_of_locked (.inr hl)) hn, List.append_nil]

/-- R73: the lock that makes the sector LOCKED ends the grant. -/
theorem takeLock_ends (h : x.armed = true ∧ c ∈ x.record.members) (hc : e.closed = false)
    (hl : lockSet x.record.clash e = []) : takeLock x c e = dispossess x 2 (e.locked c) := by
  rw [takeLock_taken h, if_pos ⟨hc, hl⟩]
  refine chain_locked ?_ (dispossess_unowned _ _ _)
  have hsame : (dispossess x 2 (e.locked c)).1.locks = (e.locked c).locks :=
    (congrArg SectorEntry.locks (dispossess_unheld x 2 (e.locked c)) :)
  rw [hsame]
  exact e.locked_locks_ne c

/-- R72: any other lock request only joins the others. -/
theorem takeLock_joins (h : x.armed = true ∧ c ∈ x.record.members)
    (hs : e.closed = true ∨ lockSet x.record.clash e ≠ []) (hn : ownerOf e = none) :
    takeLock x c e = (e.locked c, []) := by
  rw [takeLock_taken h, if_neg (by rintro ⟨hc, hl⟩; rcases hs with hs | hs; exacts [by simp [hc] at hs, hs hl])]
  exact chain_locked (e.locked_locks_ne c) hn

/-- R72: the lock set of an entry whose first request is the crane's. -/
theorem locked_outside (hl : e.locks = []) :
    (e.locked c).presence.filter (fun d => !(lockSet x.record.clash (e.locked c)).contains d) =
      e.presence.filter (· != c) := by
  have hset : lockSet x.record.clash (e.locked c) = [c] := by
    unfold lockSet SectorEntry.locked
    cases x.record.clash <;> simp [hl]
  rw [hset]
  refine List.filter_congr fun d _ => ?_
  by_cases hd : d = c <;> simp [hd]

theorem takeUnlock_discarded (h : c ∉ x.record.members) : takeUnlock x c e = (e, []) := if_neg (by simpa using h)

theorem takeUnlock_member (h : c ∈ x.record.members) :
    takeUnlock x c e = judge x none { e with locks := e.locks.filter (· != c) } := if_pos (by simpa using h)

/-! ### Closing and opening (R73, R74) -/

theorem takeClose_closed (h : e.closed = true) : takeClose x e = (e, []) := if_pos h

/-- R73: closing a sector that is not LOCKED ends its grant. -/
theorem takeClose_ends (h : e.closed = false) (hl : lockSet x.record.clash e = []) :
    takeClose x e = dispossess x 1 { e with closed := true } := by
  have hshut : (dispossess x 1 { e with closed := true }).1.closed = true :=
    congrArg SectorEntry.closed (dispossess_unheld x 1 { e with closed := true })
  unfold takeClose
  rw [if_neg (by simp [h]), if_pos hl, chain,
    judge_settled_unowned (settled_of_locked (.inl hshut)) (dispossess_unowned _ _ _), List.append_nil]

theorem takeClose_locked (h : e.closed = false) (hl : lockSet x.record.clash e ≠ []) (hn : ownerOf e = none) :
    takeClose x e = ({ e with closed := true }, []) := by
  have hset : SectorEntry.Settled x.record.clash { e with closed := true } := settled_of_locked (.inl rfl)
  unfold takeClose
  rw [if_neg (by simp [h]), if_neg hl, chain, judge_settled_unowned hset hn]
  rfl

theorem takeOpen_closed (h : e.closed = true) : takeOpen x e = judge x none { e with closed := false } := if_pos h

theorem takeOpen_open (h : e.closed = false) : takeOpen x e = (e, []) := if_neg (by simp [h])

/-! ### The commands -/

theorem sectorCommand_badIndex {n : Nat} (hn : n < 256) (h : 15 < n ∨ (s.sector (Fin.ofNat 16 n)).enabled = false)
    (f : Sector → State → State) : sectorCommand (octet1 n) f s = refuse s .badIndex := by
  rw [sectorCommand, withOperands_cut (cutFields_last1 n), numberOf_octet1 hn]
  exact if_pos (h.imp id fun h hn => by cases h.symm.trans hn)

theorem octet1_toNat (n : Byte) : octet1 n.toNat = [n] := by simp [octet1]

/-- A request's event of an entry, and its answer. -/
theorem State.EntryTakes.answered {e' : SectorEntry} (h : (s.hunting siteLink).EntryTakes t k e' bs) :
    (s.answered tag code .ok []).EntryTakes (t.replied tag code []) k e' bs := by
  have hposts := postAll_congr (s := s.hunting siteLink) (t := s.answered tag code .ok []) bs rfl rfl rfl rfl rfl
  refine (congrArg (fun u => u.replied tag code []) h).trans ?_
  rw [State.EntryTakes, hposts.1, hposts.2] at *
  rfl

/-- R74: a command that an enabled sector of the ARMED site takes. -/
theorem request_entryTakes {F : SectorContext → SectorEntry → EntryStep} {e' : SectorEntry} (hroom : s.Room)
    (hrun : s.Running k) (hF : F (s.sectorContext k) (s.entry k) = (e', bs)) :
    (s.answered tag code .ok []).EntryTakes
      (request tag code (sectorCommand (octet1 k.val) fun k => entryEvent k F) s) k e' bs := by
  have hmode : ¬ (s.hunting siteLink).mode = .config := by
    rw [show (s.hunting siteLink).mode = .armed from hrun.2]
    exact nofun
  rw [request_accept hroom ((sectorCommand_enabled (s := s.hunting siteLink) hrun.1 _).trans (if_neg hmode))]
  exact (entryEvent_becomes (s := s.hunting siteLink) hrun.1 hF).answered

/-- R74: a command that leaves the entry as it is. -/
theorem request_entrySame {F : SectorContext → SectorEntry → EntryStep} (hroom : s.Room) (hrun : s.Running k)
    (hF : F (s.sectorContext k) (s.entry k) = (s.entry k, [])) :
    request tag code (sectorCommand (octet1 k.val) fun k => entryEvent k F) s = s.answered tag code .ok [] := by
  have hmode : ¬ (s.hunting siteLink).mode = .config := by
    rw [show (s.hunting siteLink).mode = .armed from hrun.2]
    exact nofun
  rw [request_accept hroom ((sectorCommand_enabled (s := s.hunting siteLink) hrun.1 _).trans (if_neg hmode)),
    entryEvent_same (s := s.hunting siteLink) fun _ => hF]
  rfl

/-- Settles O40: what makes a sector LOCKED or CLOSED dispossesses it; the end of the last lock or of the closure leaves
an ungranted entry to be evaluated. -/
theorem locksAndClosures : Obligations.LocksAndClosures := by
  intro s k hready
  have hset : s.locksOf k = [] ↔ (s.entry k).locks = [] := lockSet_eq_nil_iff _
  refine ⟨fun c => ?_, fun tag hroom => ?_⟩
  · dsimp only
    have hlock := exec_lockRequest hready k c
    have hunlock := exec_unlock hready k c
    refine ⟨fun hoff => ?_, fun hon hconfig => ?_, fun hrun hs hm => ⟨_, hunlock, entryEvent_becomes hrun.1 ?_⟩,
      fun hrun hm => ?_⟩
    · refine ⟨hlock.trans (congrArg _ (entryEvent_same fun hon => takeLock_discarded fun h => ?_)),
        hunlock.trans (congrArg _ (entryEvent_same fun hon => takeUnlock_discarded fun hm => ?_))⟩
      · exact hoff.elim (fun h => by simp [hon] at h) fun hn => hn h.2
      · exact hoff.elim (fun h => by simp [hon] at h) fun hn => hn hm
    · have hunarmed := unarmed_of_mode (k := k) hconfig
      refine ⟨hlock.trans (congrArg _ (entryEvent_same fun _ => takeLock_discarded fun h => ?_)),
        fun hm => ⟨_, hunlock, entryEvent_becomes hon ((takeUnlock_member hm).trans (judge_unarmed hunarmed none))⟩⟩
      rw [hunarmed] at h
      exact absurd h.1 nofun
    · have hl : (s.entry k).locks = [] := by
        rcases hs with h | h
        · exact (stateOf_open h nofun nofun).2.1
        · exact (stateOf_open h nofun nofun).2.1
      have hsame : ({ s.entry k with locks := (s.entry k).locks.filter (· != c) } : SectorEntry) = s.entry k := by
        rw [hl, List.filter_nil, ← hl]
      rw [takeUnlock_member hm, hsame, judge_settled hrun.armed (settled_of_granted hs)]
    · have hheard : (s.sectorContext k).armed = true ∧ c ∈ (s.sectorContext k).record.members := ⟨hrun.armed, hm⟩
      have locks {e' : SectorEntry} {bs : List EventBody}
          (h : takeLock (s.sectorContext k) c (s.entry k) = (e', bs)) :
          ∃ t, exec (.lockRequest k c) s = .next t ∧ s.EntryTakes t k e' bs :=
        ⟨_, hlock, entryEvent_becomes hrun.1 h⟩
      refine ⟨fun hc hl => ?_, fun hs hn => locks (takeLock_joins hheard hs hn),
        fun hs hn => ⟨_, hunlock, entryEvent_becomes hrun.1 ?_⟩, fun hc hl hn => ?_⟩
      · have hends := takeLock_ends hheard hc hl
        have hout := locked_outside (x := s.sectorContext k) (c := c) (hset.mp hl)
        exact ⟨fun h g hb => locks (hends.trans (dispossess_held hb hout)),
          fun f g left hb => locks (hends.trans (dispossess_clearing hb hout)),
          fun hn => locks (hends.trans (dispossess_idle hn))⟩
      · rw [takeUnlock_member hm]
        exact judge_settled_unowned (e := { s.entry k with locks := (s.entry k).locks.filter (· != c) })
          (settled_of_locked hs) hn none
      · exact ⟨_, _, _, hunlock, entryEvent_becomes hrun.1 (takeUnlock_member hm),
          judge_evaluates (e := { s.entry k with locks := (s.entry k).locks.filter (· != c) }) hrun.armed hc hl hn none⟩
  · dsimp only
    have hclose := exec_sectorClose hready tag
    have hopen := exec_sectorOpen hready tag
    have hkn : k.val < 256 := by omega
    refine ⟨fun n hn => ?_, fun hoff => ?_, fun hon hconfig => ?_, fun hrun hc => ?_, fun hrun hc => ?_⟩
    · rw [← octet1_toNat n]
      exact ⟨(hclose _).trans (congrArg _ (request_refuse hroom (sectorCommand_badIndex n.isLt (.inl hn) _))),
        (hopen _).trans (congrArg _ (request_refuse hroom (sectorCommand_badIndex n.isLt (.inl hn) _)))⟩
    · have hoff' : ((s.hunting siteLink).sector (Fin.ofNat 16 k.val)).enabled = false := by
        rw [Fin.ofNat_val_eq_self]
        exact hoff
      exact ⟨(hclose _).trans (congrArg _ (request_refuse hroom (sectorCommand_badIndex hkn (.inr hoff') _))),
        (hopen _).trans (congrArg _ (request_refuse hroom (sectorCommand_badIndex hkn (.inr hoff') _)))⟩
    · have hrefused (f : Sector → State → State) :=
        (sectorCommand_enabled (s := s.hunting siteLink) hon f).trans (if_pos hconfig)
      exact ⟨(hclose _).trans (congrArg _ (request_refuse hroom (hrefused _))),
        (hopen _).trans (congrArg _ (request_refuse hroom (hrefused _)))⟩
    · refine ⟨(hclose _).trans (congrArg _ (request_entrySame hroom hrun (takeClose_closed hc))), fun hl hn => ?_,
        fun hl hn => ?_⟩
      · have hjudged := judge_settled_unowned (x := s.sectorContext k) (e := { s.entry k with closed := false })
          (settled_of_locked (.inr (mt hset.mpr hl))) hn none
        exact ⟨_, hopen _, request_entryTakes hroom hrun ((takeOpen_closed hc).trans hjudged)⟩
      · exact ⟨_, _, _, hopen _, request_entryTakes hroom hrun (takeOpen_closed hc),
          judge_evaluates (e := { s.entry k with closed := false }) hrun.armed rfl (hset.mp hl) hn none⟩
    · have closes {e' : SectorEntry} {bs : List EventBody}
          (h : takeClose (s.sectorContext k) (s.entry k) = (e', bs)) :
          ∃ t, exec (.sectorClose tag (octet1 k.val)) s = .next t ∧
            (s.answered tag 0x30#8 .ok []).EntryTakes t k e' bs :=
        ⟨_, hclose _, request_entryTakes hroom hrun h⟩
      refine ⟨(hopen _).trans (congrArg _ (request_entrySame hroom hrun (takeOpen_open hc))), fun hl => ?_,
        fun hl hn => closes (takeClose_locked hc hl hn)⟩
      have hends := takeClose_ends (x := s.sectorContext k) hc hl
      have hout : (s.entry k).presence.filter
          (fun c => !(lockSet (s.sectorContext k).record.clash { s.entry k with closed := true }).contains c) =
            (s.entry k).presence := by
        rw [(lockSet_eq_nil_iff (e := { s.entry k with closed := true }) _).mpr (hset.mp hl)]
        exact List.filter_eq_self.mpr fun _ _ => rfl
      exact ⟨fun h g hb => closes (hends.trans (dispossess_held hb hout)),
        fun f g left hb => closes (hends.trans (dispossess_clearing hb hout)),
        fun hn => closes (hends.trans (dispossess_idle hn))⟩

end Sys2Proof.Machine
end

/-! ## Lifts attributed (R67, R75): O41 -/

section
namespace Sys2Proof.Machine

variable {s : State} {k : Sector} {x : SectorContext} {e : SectorEntry} {c : Crane} {g : Grant} {id : Half}

theorem answerLift_other (h : holderOf e ≠ some c) : answerLift x c e = .craneOnly := by
  unfold answerLift
  split
  · next d _ hb => exact if_neg fun hd => h (by rw [holderOf, hb, hd])
  · rfl

theorem answerLift_booked (hb : e.base = .held c g) (hk : g.kind = .booked id) :
    answerLift x c e = .booked x.sector id := by
  unfold answerLift
  rw [hb]
  simp [hk]

theorem answerLift_routine (hb : e.base = .held c g) (hk : g.kind = .routine) :
    answerLift x c e = .routine x.sector := by
  unfold answerLift
  rw [hb]
  simp [hk]

theorem takeLift_other (h : holderOf e ≠ some c) : takeLift x c e = (e, []) := by
  rw [takeLift, answerLift_other h]

theorem takeLift_booked (hb : e.base = .held c g) (hk : g.kind = .booked id) : takeLift x c e = (e, []) := by
  rw [takeLift, answerLift_booked hb hk]

theorem takeLift_routine (hb : e.base = .held c g) (hk : g.kind = .routine) :
    takeLift x c e = chain (countSlice x g e) (judge x none) := by
  have hg : grantOf e = some g := by rw [grantOf, hb]
  rw [takeLift, answerLift_routine hb hk, hg]

/-- R67: one lift off the slice. -/
def SectorEntry.lifted (e : SectorEntry) : SectorEntry :=
  mapGrant (fun g => { g with sliceLeft := g.sliceLeft - 1 }) e

theorem countSlice_uncounted (h : ¬ (x.record.slice ≠ 0 ∧ g.sliceLeft ≠ 0)) : countSlice x g e = (e, []) :=
  if_neg fun hn => h ⟨hn.1, by omega⟩

theorem countSlice_counted (h : x.record.slice ≠ 0 ∧ g.sliceLeft ≠ 0) : countSlice x g e =
    if g.sliceLeft = 1 ∧ hasWaiter e = true then setYield x .slice e.lifted else (e.lifted, []) :=
  if_pos ⟨h.1, Nat.pos_of_ne_zero h.2⟩

/-- R67: the last lift of the slice, while a crane waits. -/
theorem setYield_slice (hb : e.base = .held c g) : setYield x .slice e =
    ({ e with base := .held c { g with yielding := if g.yielding = none then some .slice else g.yielding } },
      if g.yielding = none then [eventOf .yield (some c) (some x.sector) 0] else []) := by
  have ho : ownerOf e = some c := by rw [ownerOf, hb]
  have hg : grantOf e = some g := by rw [grantOf, hb]
  by_cases hy : g.yielding = none
  · rw [setYield_sets ho hg (.inl hy), mapGrant_held hb, if_pos hy, if_pos hy]
    rfl
  · have hkeeps : setYield x .slice e = (e, []) := by
      unfold setYield
      rw [ho, hg]
      exact if_neg (by simp [hy])
    rw [hkeeps, if_neg hy, if_neg hy, ← hb]

/-- R67: a ROUTINE holder's lift. -/
theorem takeLift_counts (ha : x.armed = true) (hset : e.Settled x.record.clash) (hb : e.base = .held c g)
    (hk : g.kind = .routine) :
    (¬ (x.record.slice ≠ 0 ∧ g.sliceLeft ≠ 0) → takeLift x c e = (clearIdleYield e, [])) ∧
    (x.record.slice ≠ 0 ∧ g.sliceLeft ≠ 0 → (hasWaiter e = false ∨ g.sliceLeft ≠ 1) →
      takeLift x c e = (clearIdleYield e.lifted, [])) ∧
    (x.record.slice ≠ 0 ∧ g.sliceLeft ≠ 0 → hasWaiter e = true → g.sliceLeft = 1 →
      takeLift x c e = setYield x .slice e.lifted) := by
  have hlifted : e.lifted.Settled x.record.clash := hset.congr (mapGrant_stateOf _ _ _) rfl
  rw [takeLift_routine hb hk]
  refine ⟨fun h => ?_, fun h hw => ?_, fun h hw h1 => ?_⟩
  · rw [countSlice_uncounted h, chain_judge_settled ha hset]
  · rw [countSlice_counted h, if_neg (by rcases hw with hw | hw <;> simp [hw]), chain_judge_settled ha hlifted]
  · rw [countSlice_counted h, if_pos ⟨h1, hw⟩]
    obtain ⟨f, hf⟩ := setYield_regrants x .slice e.lifted
    have hset' : (setYield x .slice e.lifted).1.Settled x.record.clash := by
      rw [hf]
      exact hlifted.congr (mapGrant_stateOf _ _ _) rfl
    have hw' : hasWaiter (setYield x .slice e.lifted).1 = true := by
      rw [hf, mapGrant_hasWaiter]
      exact (mapGrant_hasWaiter _ _).trans hw
    rw [chain_judge_settled ha hset', clearIdleYield_waiting hw']

/-! ### In the state (R75) -/

theorem liftAnswer_present (hp : (s.position c).present = some k) (hon : (s.sector k).enabled = true) :
    liftAnswer s c = answerLift (s.sectorContext k) c (s.entry k) := by
  rw [liftAnswer, hp]
  exact if_pos hon

theorem liftAnswer_absent (hp : (s.position c).present = none) : liftAnswer s c = .craneOnly := by
  rw [liftAnswer, hp]

theorem liftAnswer_other (hp : (s.position c).present = some k)
    (h : (s.sector k).enabled = false ∨ holderOf (s.entry k) ≠ some c) : liftAnswer s c = .craneOnly := by
  by_cases hon : (s.sector k).enabled = true
  · rw [liftAnswer_present hp hon, answerLift_other (h.resolve_left (by simp [hon]))]
  · rw [liftAnswer, hp]
    exact if_neg hon

theorem attributeLift_absent (hp : (s.position c).present = none) : attributeLift c s = s := by
  rw [attributeLift, hp]

/-- R75: a lift of a BOOKED holder is passed to the booking. -/
theorem attributeLift_booked {k' : Sector} (hp : (s.position c).present = some k)
    (h : liftAnswer s c = .booked k' id) :
    attributeLift c s = (entryEvent k (fun x e => takeLift x c e) s).send [.liftCount id] := by
  rw [attributeLift, hp]
  dsimp only
  rw [h]

/-- R75: any other lift is the entry's alone. -/
theorem attributeLift_unbooked (hp : (s.position c).present = some k) (h : ∀ k' id, liftAnswer s c ≠ .booked k' id) :
    attributeLift c s = entryEvent k (fun x e => takeLift x c e) s := by
  rw [attributeLift, hp]
  dsimp only
  split
  · next k' id ha => exact absurd ha (h k' id)
  · rfl

end Sys2Proof.Machine
end

/-! ## A booked lift counted (R101, R102, R106): O41 -/

section
namespace Sys2Proof.Machine

variable {s : State} {k : Sector} {b : Booking} {table after : List Booking} {evs : List EventBody}

/-- R106: a change of the table sends the arbiter the reports that are due, and nothing else. -/
theorem changeBookings_informs (h : s.inFlight = []) : s.InformsArbiter (s.changeBookings after evs) := by
  have hflight : (s.changeBookings after evs).inFlight = (s.reportsDue s.bookings after).map fun k =>
      .claimant k (leftActive k s.bookings after) ((claimantOf after k).map asClaimant) := by
    unfold State.changeBookings
    rw [State.send_inFlight, State.postAll_inFlight, h, List.nil_append]
  have hbookings : (s.changeBookings after evs).bookings = after := by
    unfold State.changeBookings
    rw [State.send_bookings, State.postAll_bookings]
  have hclaimant (k : Sector) : (s.changeBookings after evs).tableClaimant k = (claimantOf after k).map asClaimant := by
    rw [State.tableClaimant, hbookings]
    rfl
  have hdue (k : Sector) : k ∈ s.reportsDue s.bookings after ↔ s.reportDue s.bookings after k = true := by
    simp [State.reportsDue, mem_allSectors]
  unfold State.InformsArbiter
  simp only [hflight, hbookings, hclaimant]
  refine ⟨(allSectors_nodup.filter _).map fun i j hij => ?_, fun n hn => ?_, fun k left cl => ?_⟩
  · cases hij
    rfl
  · obtain ⟨k, -, rfl⟩ := List.mem_map.mp hn
    exact ⟨k, _, _, rfl⟩
  · rw [List.mem_map]
    constructor
    · rintro ⟨j, hj, heq⟩
      cases heq
      exact ⟨reportDue_iff.mp ((hdue _).mp hj), rfl, rfl⟩
    · rintro ⟨howes, rfl, rfl⟩
      exact ⟨k, (hdue k).mpr (reportDue_iff.mpr howes), rfl⟩

/-- A change of the table, field by field. -/
theorem changeBookings_eq : s.changeBookings after evs = { s with
    bookings := after
    events := (s.postAll evs).events
    overflow := (s.postAll evs).overflow
    inFlight := (s.changeBookings after evs).inFlight } := by
  have hframe := State.postAll_frame (s := { s with bookings := after }) evs
  obtain ⟨he, ho⟩ := postAll_congr (s := s) (t := { s with bookings := after }) evs rfl rfl rfl rfl rfl
  unfold State.changeBookings
  rw [hframe, he, ho]
  rfl

/-! ### Only the lifts done change -/

/-- R101: a booking with its lifts done changed. -/
def Booking.recounted (done : Booking → Nat) (b : Booking) : Booking := { b with done := done b }

theorem claimantOf_recounted (done : Booking → Nat) (table : List Booking) (k : Sector) :
    claimantOf (table.map (Booking.recounted done)) k = (claimantOf table k).map (Booking.recounted done) := by
  unfold claimantOf
  rw [List.filter_map, List.foldl_map]
  refine List.foldl_hom (Option.map (Booking.recounted done)) (init := none) fun best b => ?_
  cases best with
  | none => rfl
  | some x =>
    have hbefore : bookingBefore (b.recounted done) (x.recounted done) = bookingBefore b x := rfl
    simp only [Option.map_some, hbefore]
    split <;> rfl

theorem zip_map_self {α β : Type} (f : α → β) (l : List α) : l.zip (l.map f) = l.map fun a => (a, f a) := by
  have h := List.zip_map' (f := id) (g := f) (l := l)
  rwa [List.map_id] at h

/-- R101: while only lifts done change, no claimant and no state does. -/
theorem reportsDue_recounted (done : Booking → Nat) :
    s.reportsDue s.bookings (s.bookings.map (Booking.recounted done)) = [] := by
  have hleft (k : Sector) : leftActive k s.bookings (s.bookings.map (Booking.recounted done)) = [] := by
    rw [leftActive, zip_map_self, List.filterMap_map, List.filterMap_eq_nil_iff]
    exact fun b _ => if_neg fun h => h.2.2 h.2.1
  refine List.filter_eq_nil_iff.mpr fun k _ => ?_
  rw [reportDue_iff, hleft, claimantOf_recounted, Option.map_map]
  rintro (h | ⟨x, hx, -⟩)
  · exact h rfl
  · cases hx

theorem bookingChanges_map (f : Booking → Booking) (table : List Booking) : bookingChanges table (table.map f) =
    table.filterMap fun b => if b.state = (f b).state then none else some (bookingChange (some b.state) (f b)) := by
  rw [bookingChanges, zip_map_self, List.filterMap_map]
  rfl

theorem changeBookings_recounted (done : Booking → Nat) :
    s.changeBookings (s.bookings.map (Booking.recounted done))
      (changeEvents s.bookings (s.bookings.map (Booking.recounted done))) =
      { s with bookings := s.bookings.map (Booking.recounted done) } := by
  have hevents : changeEvents s.bookings (s.bookings.map (Booking.recounted done)) = [] := by
    rw [changeEvents_eq, bookingChanges_map, List.filterMap_eq_nil_iff]
    exact fun b _ => if_pos rfl
  unfold State.changeBookings
  rw [hevents, reportsDue_recounted]
  simp [State.send, State.postAll]

/-- R107: one entry alone changes its state. -/
theorem bookingChanges_single {f : Booking → Booking} (hnodup : (table.map (·.id)).Nodup) (hb : b ∈ table)
    (hother : ∀ x ∈ table, x.id ≠ b.id → (f x).state = x.state) (hmoves : (f b).state ≠ b.state) :
    bookingChanges table (table.map f) = [bookingChange (some b.state) (f b)] := by
  rw [bookingChanges_map]
  obtain ⟨before, later, rfl⟩ := List.append_of_mem hb
  have hsplit : ∀ x ∈ before ++ later, x.id ≠ b.id := by
    have h := hnodup
    rw [List.map_append, List.map_cons, List.nodup_middle, List.nodup_cons, ← List.map_append] at h
    exact fun x hx heq => h.1 (heq ▸ List.mem_map_of_mem hx)
  have hkept (l : List Booking) (hl : ∀ x ∈ l, x ∈ before ++ later) : l.filterMap (fun b =>
      if b.state = (f b).state then none else some (bookingChange (some b.state) (f b))) = [] := by
    rw [List.filterMap_eq_nil_iff]
    refine fun x hx => if_pos (hother x ?_ (hsplit x (hl x hx))).symm
    have := hl x hx
    simp only [List.mem_append, List.mem_cons] at this ⊢
    tauto
  rw [List.filterMap_append, List.filterMap_cons, hkept before fun x hx => List.mem_append_left _ hx,
    hkept later fun x hx => List.mem_append_right _ hx, if_neg hmoves.symm]
  rfl

/-! ### The count (R101, R102) -/

variable {id : Half}

/-- R101: the booking whose lift is counted. -/
theorem countLift_other (h : ¬ (b.id = id ∧ b.state = .active)) : countLift id b = b := if_neg h

theorem countLift_counts (h : b.id = id ∧ b.state = .active) (hq : b.quota = 0 ∨ min (b.done + 1) 65535 ≠ b.quota) :
    countLift id b = { b with done := min (b.done + 1) 65535 } := by
  rw [countLift, if_pos h]
  exact if_neg fun hn => hq.elim hn.1 fun hne => hne hn.2

theorem countLift_exhausts (h : b.id = id ∧ b.state = .active) (hq : b.quota ≠ 0)
    (hd : min (b.done + 1) 65535 = b.quota) :
    countLift id b = { b with done := min (b.done + 1) 65535, state := .exhausted, cause := .quota } := by
  rw [countLift, if_pos h]
  refine (if_pos ⟨hq, hd⟩).trans ?_
  unfold Booking.moveTo
  rw [h.2]
  rfl

/-- R101: what a count makes of a table of distinct ids. -/
theorem map_countLift {f : Booking → Booking} (hnodup : (table.map (·.id)).Nodup) (hb : b ∈ table)
    (hf : countLift b.id b = f b) :
    table.map (countLift b.id) = table.map fun x => if x.id = b.id then f x else x := by
  refine List.map_congr_left fun x hx => ?_
  by_cases hid : x.id = b.id
  · rw [List.inj_on_of_nodup_map hnodup hx hb hid, if_pos rfl, hf]
  · rw [if_neg hid, countLift_other fun h => hid h.1]

/-- R101: a booked lift that leaves the states as they are. -/
theorem takeLiftCount_recounts {done : Booking → Nat}
    (h : s.bookings.map (countLift id) = s.bookings.map (Booking.recounted done)) :
    takeLiftCount id s = { s with bookings := s.bookings.map (Booking.recounted done) } := by
  rw [takeLiftCount, h]
  exact changeBookings_recounted done

/-- R101: a lift of an ACTIVE booking without a quota, or short of it. -/
theorem takeLiftCount_counts (hnodup : (s.bookings.map (·.id)).Nodup) (hb : b ∈ s.bookings) (hstate : b.state = .active)
    (hq : b.quota = 0 ∨ min (b.done + 1) 65535 ≠ b.quota) : takeLiftCount b.id s = { s with
      bookings := s.bookings.map fun x => if x.id = b.id then { x with done := min (b.done + 1) 65535 } else x } := by
  have hmap := map_countLift hnodup hb (f := fun x => { x with done := min (b.done + 1) 65535 })
    (countLift_counts ⟨rfl, hstate⟩ hq)
  have hrecounts : (fun x : Booking => if x.id = b.id then { x with done := min (b.done + 1) 65535 } else x) =
      Booking.recounted fun x => if x.id = b.id then min (b.done + 1) 65535 else x.done := by
    funext x
    by_cases hx : x.id = b.id
    · simp [Booking.recounted, hx]
    · simp [Booking.recounted, hx]
  rw [hrecounts] at hmap ⊢
  exact takeLiftCount_recounts hmap

/-- R102: an ACTIVE booking with the lift that reaches its quota. -/
def Booking.spent (b : Booking) : Booking :=
  { b with done := min (b.done + 1) 65535, state := .exhausted, cause := .quota }

theorem takeLiftCount_exhausts (hnodup : (s.bookings.map (·.id)).Nodup) (hb : b ∈ s.bookings)
    (hstate : b.state = .active) (hq : b.quota ≠ 0) (hd : min (b.done + 1) 65535 = b.quota) :
    takeLiftCount b.id s = s.changeBookings (s.bookings.map fun x => if x.id = b.id then b.spent else x)
      [bookingChange (some .active) b.spent] := by
  have hexhausts : countLift b.id b = b.spent := countLift_exhausts ⟨rfl, hstate⟩ hq hd
  have hother (x : Booking) (_ : x ∈ s.bookings) (hne : x.id ≠ b.id) : (countLift b.id x).state = x.state := by
    rw [countLift_other fun h => hne h.1]
  have hmoves : (countLift b.id b).state ≠ b.state := by
    rw [hexhausts, hstate]
    exact nofun
  rw [takeLiftCount, changeEvents_eq, bookingChanges_single hnodup hb hother hmoves, hexhausts, hstate,
    map_countLift hnodup hb (f := fun _ => b.spent) hexhausts]

/-- Settles O41: the entry answers for the lift; a count changes one booking of the table, and with it at most one state
and one report. -/
theorem liftsAttributedAndCounted : Obligations.LiftsAttributedAndCounted := by
  intro s hready
  have ⟨_, hflight, _⟩ := hready
  refine ⟨fun c => ⟨fun hp => ?_, fun k hp => ⟨fun hother => ?_, fun hon g hb => ⟨fun id hk => ?_, fun hk => ?_,
    fun hk harmed hs => ?_⟩⟩⟩, fun id hnodup => ⟨fun b hb hid hstate => ?_, fun hn => ?_⟩⟩
  · exact ⟨liftAnswer_absent hp, (exec_liftAttribution hready c).trans (congrArg _ (attributeLift_absent hp))⟩
  · have hanswer := liftAnswer_other hp hother
    refine ⟨hanswer, (exec_liftAttribution hready c).trans (congrArg _ ?_)⟩
    rw [attributeLift_unbooked hp fun _ _ h => by rw [hanswer] at h; cases h]
    exact entryEvent_same fun hon => takeLift_other (hother.resolve_left (by simp [hon]))
  · have hanswer := (liftAnswer_present hp hon).trans (answerLift_booked hb hk)
    refine ⟨hanswer, (exec_liftAttribution hready c).trans (congrArg _ ?_)⟩
    rw [attributeLift_booked hp hanswer, entryEvent_same fun _ => takeLift_booked hb hk]
  · exact (liftAnswer_present hp hon).trans (answerLift_routine hb hk)
  · have hanswer := (liftAnswer_present hp hon).trans (answerLift_routine hb hk)
    have takes {e' : SectorEntry} {bs : List EventBody} (h : takeLift (s.sectorContext k) c (s.entry k) = (e', bs)) :
        ∃ t, exec (.liftAttribution c) s = .next t ∧ s.EntryTakes t k e' bs := by
      refine ⟨_, exec_liftAttribution hready c, ?_⟩
      rw [attributeLift_unbooked hp fun _ _ h => by rw [hanswer] at h; cases h]
      exact entryEvent_becomes hon h
    obtain ⟨hidle, hcounts, hspends⟩ := takeLift_counts (x := s.sectorContext k)
      (armed_of_mode (by rw [harmed]; exact nofun)) (settled_of_granted (.inl hs)) hb hk
    have hlifted : (s.entry k).lifted =
        { s.entry k with base := .held c { g with sliceLeft := g.sliceLeft - 1 } } := mapGrant_held hb
    refine ⟨fun hn => takes (hidle hn), fun hcounted hw => takes ((hcounts hcounted hw).trans ?_),
      fun hcounted hw hlast => takes ((hspends hcounted hw hlast).trans ?_)⟩
    · rw [hlifted]
    · rw [hlifted]
      exact setYield_slice rfl
  · subst hid
    refine ⟨fun hq => (exec_bookedLiftCount hready b.id).trans (congrArg _ (takeLiftCount_counts hnodup hb hstate hq)),
      fun hq hd => ⟨_, exec_bookedLiftCount hready b.id, ?_, ?_⟩⟩
    · rw [takeLiftCount_exhausts hnodup hb hstate hq hd]
      exact changeBookings_eq
    · rw [takeLiftCount_exhausts hnodup hb hstate hq hd]
      exact changeBookings_informs hflight
  · have hsame : s.bookings.map (countLift id) = s.bookings.map (Booking.recounted (·.done)) :=
      List.map_congr_left fun b hb => countLift_other fun h => hn b hb h.1 h.2
    have hid : s.bookings.map (Booking.recounted (·.done)) = s.bookings := List.map_id _
    refine (exec_bookedLiftCount hready id).trans (congrArg _ ((takeLiftCount_recounts hsame).trans ?_))
    rw [hid]

end Sys2Proof.Machine
end

/-! ## Permits of zero speeds issued to every present crane (R145): O28 -/

section
namespace Sys2Proof.Machine

variable {s s' t t' : State} {c d : Crane}

/-- R46: in CONFIG and under SITE HOLD the site's contribution is 0. -/
theorem compute_stopped (h : s.mode = .config ∨ s.hold = true) (c : Crane) :
    (s.compute c).speeds = ⟨0, 0, 0⟩ ∧
    ∀ a : Axis, (s.compute c).reasons.on a = if (s.permit c).demand.on a = 0 then .none else .site := by
  have hsite : s.siteLimits = zeroLimits := if_pos h
  have hmem : (Reason.site, s.siteLimits) ∈ s.contributions c := List.mem_cons_self
  refine ⟨speeds_zero hmem hsite, fun a => ?_⟩
  have hlimit (positive : Bool) : (s.compute c).limits.get a positive = 0 := by
    have hle : (s.compute c).limits.get a positive ≤ _ := composeLimits_le hmem
    rw [hsite, get_zeroLimits] at hle
    omega
  rw [reasons_on]
  by_cases hd : (s.permit c).demand.on a = 0
  · rw [if_pos hd, reasonOf_eq_none_iff, hd]
    exact Nat.zero_le _
  · rw [if_neg hd]
    obtain ⟨before, l, after, hsplit, -, hbefore⟩ :=
      reasonOf_first (s := s) (c := c) (a := a) (d := (s.permit c).demand.on a) (by rw [hlimit]; omega)
    cases before with
    | nil => exact (congrArg Prod.fst (List.cons.inj hsplit).1).symm
    | cons y before =>
      have hy : y = (.site, s.siteLimits) := (List.cons.inj hsplit).1.symm
      refine absurd ?_ (hbefore y List.mem_cons_self)
      rw [hy, hlimit, hsite, get_zeroLimits]

theorem computeAndIssue_zero (h : s.mode = .config ∨ s.hold = true) (c : Crane) :
    s.IssuesZero (computeAndIssue c s) c := by
  obtain ⟨hspeeds, hreasons⟩ := compute_stopped h c
  have hadvice : (s.advice c).1 = .hold := by
    unfold State.advice
    rw [if_pos h]
  have hissues := computeAndIssue_issues s c
  unfold State.Issues at hissues
  dsimp only at hissues
  rw [hspeeds] at hissues
  rw [hissues]
  exact ⟨Bank.read_write_self _ _ _, _, rfl, hadvice, rfl, rfl, hreasons, Bank.read_write_self _ _ _⟩

/-- Another crane's permit record and slots are its own. -/
theorem computeAndIssue_other (hne : d ≠ c) :
    (computeAndIssue c s).permit d = s.permit d ∧ (computeAndIssue c s).slot d = s.slot d := by
  have hissues := computeAndIssue_issues s c
  unfold State.Issues at hissues
  rw [hissues]
  exact ⟨Bank.read_write_ne _ _ hne, Bank.read_write_ne _ _ hne⟩

theorem State.IssuesZero.congr (h : s.IssuesZero t c) (hp : s'.permit c = s.permit c) (hs : s'.slot c = s.slot c)
    (hr : s'.site.permitRefresh = s.site.permitRefresh) (htp : t'.permit c = t.permit c) (hts : t'.slot c = t.slot c) :
    s'.IssuesZero t' c := by
  unfold State.IssuesZero
  rw [hp, hs, hr, htp, hts]
  exact h

/-- Permits issued to distinct cranes, one after the other. -/
theorem foldl_computeAndIssue {cs : List Crane} (hnodup : cs.Nodup) (h : s.mode = .config ∨ s.hold = true) :
    (∀ c ∈ cs, s.IssuesZero (cs.foldl (fun t c => computeAndIssue c t) s) c) ∧
    ∀ c, c ∉ cs → (cs.foldl (fun t c => computeAndIssue c t) s).permit c = s.permit c ∧
      (cs.foldl (fun t c => computeAndIssue c t) s).slot c = s.slot c := by
  induction cs generalizing s with
  | nil => exact ⟨nofun, fun _ _ => ⟨rfl, rfl⟩⟩
  | cons c cs ih =>
    obtain ⟨hc, hcs⟩ := List.nodup_cons.mp hnodup
    have hframe := frame_of_butPermits (computeAndIssue_butPermits c s)
    have hmode : (computeAndIssue c s).mode = s.mode := by rw [hframe]
    have hhold : (computeAndIssue c s).hold = s.hold := by rw [hframe]
    have hsite : (computeAndIssue c s).site = s.site := by rw [hframe]
    obtain ⟨hissued, hkept⟩ := ih hcs (s := computeAndIssue c s) (by rw [hmode, hhold]; exact h)
    rw [List.foldl_cons]
    refine ⟨fun d hd => ?_, fun d hd => ?_⟩
    · rcases List.mem_cons.mp hd with rfl | hd
      · obtain ⟨hp, hs⟩ := hkept d hc
        exact (computeAndIssue_zero h d).congr rfl rfl rfl hp hs
      · obtain ⟨hp, hs⟩ := computeAndIssue_other (s := s) (c := c) (d := d) fun he => hc (he ▸ hd)
        exact (hissued d hd).congr hp.symm hs.symm (by rw [hsite]) rfl rfl
    · obtain ⟨hdc, hdcs⟩ := not_or.mp (mt List.mem_cons.mpr hd)
      obtain ⟨hp, hs⟩ := hkept d hdcs
      obtain ⟨hp', hs'⟩ := computeAndIssue_other (s := s) hdc
      exact ⟨hp.trans hp', hs.trans hs'⟩

/-- R145: every present crane is issued its permit of zero speeds, and no other crane is. -/
theorem issueAll_zero (h : s.mode = .config ∨ s.hold = true) :
    (∀ c, (s.crane c).present = true → s.IssuesZero (issueAll s) c) ∧
    ∀ c, (s.crane c).present = false → (issueAll s).permit c = s.permit c ∧ (issueAll s).slot c = s.slot c := by
  obtain ⟨hissued, hkept⟩ := foldl_computeAndIssue (s := s) (cs := s.presentCranes) (allCranes_nodup.filter _) h
  exact ⟨fun c hc => hissued c (mem_presentCranes.mpr hc), fun c hc => hkept c (by simp [mem_presentCranes, hc])⟩

end Sys2Proof.Machine
end

/-! ## DISARM settled (R78, R100, R164): O28 -/

section
namespace Sys2Proof.Machine

variable {s : State} {k : Sector} {tag : Byte}

/-! ### The entries (R78, R106) -/

theorem clearing_unowned (hon : (s.sector k).enabled = true) : ownerOf (s.clearing.entry k) = none := by
  rw [clearing_entry, if_pos hon]
  rfl

/-- R106: an entry cleared is sent a report only when its claimant changes. -/
theorem clearing_reportDue {after : List Booking} (hon : (s.sector k).enabled = true) :
    s.clearing.reportDue s.clearing.bookings after k = true ↔
      (claimantOf after k).map asClaimant ≠ s.tableClaimant k := by
  have hgrant := ownerOf_eq_none_iff.mp (clearing_unowned hon)
  rw [reportDue_iff, hgrant]
  exact or_iff_left fun ⟨_, _, h⟩ => nomatch h

/-- R78, R100: an enabled entry after the disarming. -/
theorem clearing_told (after : List Booking) (hon : (s.sector k).enabled = true) :
    s.clearing.told after k = ({ (takeDisarm (s.entry k)).1 with
      claimant := if (claimantOf after k).map asClaimant = s.tableClaimant k then (s.entry k).claimant
        else (claimantOf after k).map asClaimant }, []) := by
  have hentry : s.clearing.entry k = (takeDisarm (s.entry k)).1 := by rw [clearing_entry, if_pos hon]
  unfold State.told
  by_cases hdue : (claimantOf after k).map asClaimant = s.tableClaimant k
  · rw [if_neg (mt (clearing_reportDue hon).mp (not_not.mpr hdue)), if_pos hdue, hentry]
    rfl
  · rw [if_pos ((clearing_reportDue hon).mpr hdue), if_neg hdue, State.taken, if_pos (by exact hon),
      takeClaimant_unowned (clearing_unowned hon), judge_unarmed (unarmed_of_mode rfl), hentry]

theorem clearing_told_events (after : List Booking) (k : Sector) : (s.clearing.told after k).2 = [] := by
  by_cases hon : (s.sector k).enabled = true
  · rw [clearing_told after hon]
  · have hoff : (s.sector k).enabled = false := by simpa using hon
    rw [told_disabled (s := s.clearing) hoff]

/-! ### The bookings (R96, R100) -/

theorem rejudged_eq (s : State) : s.rejudged = s.bookings.map (({ s with mode := .config } : State).judges .mode) :=
  List.map_congr_left fun _ _ => evaluateBooking_eq _ _ _

/-- R96: in CONFIG no crane meets the crane condition, so that no booking is left ACTIVE. -/
theorem judges_config (hm : s.mode = .config) (hclock : s.clockSet = true) (cause : BookingCause) (b : Booking) :
    (s.judges cause b).state ≠ .active := by
  have hworks : s.craneCondition b.crane = false := by simp [State.craneCondition, hm]
  have hentering (st : BookingState) : (b.entering st cause).state = st := by
    unfold Booking.entering
    split
    · assumption
    · rfl
  unfold State.judges
  split
  · next h =>
    rw [hclock] at h
    rcases h with h | h | h | h
    · cases h
    all_goals rw [h]; exact nofun
  · rw [hworks]
    split
    · rw [hentering]; exact nofun
    · split
      · rw [hentering]; exact nofun
      · rw [if_neg nofun, hentering]; exact nofun

/-! ### The site (R164) -/

/-- R164: the site after a disarming. -/
theorem disarmSite_spec (s : State) {events : List EventBody}
    (hevents : bookingChanges s.bookings s.rejudged ++ [eventOf .disarmed] = events) :
    disarmSite s = { s with
        mode := .config
        entries := (disarmSite s).entries
        bookings := s.rejudged
        permits := (disarmSite s).permits
        slots := (disarmSite s).slots
        events := (s.postAll events).events
        overflow := (s.postAll events).overflow
        inFlight := (disarmSite s).inFlight } ∧
      (∀ k, (disarmSite s).entry k = (s.clearing.told s.rejudged k).1) ∧
      (∀ c, (s.crane c).present = false →
        (disarmSite s).permit c = s.permit c ∧ (disarmSite s).slot c = s.slot c) ∧
      ∀ c, (s.crane c).present = true → s.IssuesZero (disarmSite s) c := by
  obtain ⟨hframe, hentry⟩ := disarmBookings_spec s
  have hquiet : (allSectors.flatMap fun k => (s.clearing.told s.rejudged k).2) = [] :=
    List.flatMap_eq_nil_iff.mpr fun k _ => clearing_told_events _ k
  rw [hquiet, List.append_nil, changeEvents_eq] at hframe
  unfold disarmSite
  generalize disarmBookings (clearSectors { s with mode := .config }) = u at hframe hentry
  have hissue := frame_of_butPermits (issueAll_butPermits u)
  obtain ⟨hissued, hkept⟩ := issueAll_zero (s := u) (.inl (by rw [hframe]))
  generalize issueAll u = v at hissue hissued hkept
  have hpost := State.post_frame (s := v) (eventOf .disarmed)
  have hcrane (c : Crane) : u.crane c = s.crane c := by rw [hframe]; rfl
  have hpermit (c : Crane) : u.permit c = s.permit c := by rw [hframe]; rfl
  have hslot (c : Crane) : u.slot c = s.slot c := by rw [hframe]; rfl
  have hrefresh : u.site = s.site := by rw [hframe]
  have hpermit' (c : Crane) : (v.post (eventOf .disarmed)).permit c = v.permit c := by rw [hpost]; rfl
  have hslot' (c : Crane) : (v.post (eventOf .disarmed)).slot c = v.slot c := by rw [hpost]; rfl
  refine ⟨?_, fun k => ?_, fun c hc => ?_, fun c hc => ?_⟩
  · obtain ⟨he, ho⟩ := post_congr (s := s.postAll (bookingChanges s.bookings s.rejudged)) (t := v) (eventOf .disarmed)
      (by rw [hissue, hframe]) (by rw [hissue, hframe]) (by rw [hissue, hframe]; simp) (by rw [hissue, hframe]; simp)
      (by rw [hissue, hframe]; simp)
    have hall : s.postAll events = (s.postAll (bookingChanges s.bookings s.rejudged)).post (eventOf .disarmed) := by
      rw [← hevents, postAll_append]
      rfl
    refine hpost.trans ?_
    simp only [State.post_entries, State.post_permits, State.post_slots, State.post_inFlight]
    rw [hall, he, ho, hissue, hframe]
  · rw [State.post_entry, hissue]
    exact hentry k
  · obtain ⟨hp, hs⟩ := hkept c (by rw [hcrane]; exact hc)
    exact ⟨(hpermit' c).trans (hp.trans (hpermit c)), (hslot' c).trans (hs.trans (hslot c))⟩
  · exact (hissued c (by rw [hcrane]; exact hc)).congr (hpermit c).symm (hslot c).symm (by rw [hrefresh]) (hpermit' c)
      (hslot' c)

theorem vaning_iff : s.vaning = true ↔
    ∃ c, (s.crane c).present = true ∧ ((s.windOf c).state = .vanePending ∨ (s.windOf c).state = .vane) := by
  simp [State.vaning, mem_presentCranes]

/-- The disarming reads nothing of the link ports. -/
theorem hunting_rejudged (s : State) : (s.hunting siteLink).rejudged = s.rejudged := rfl

/-- Settles O28: the entries are cleared and without an owner, so that a report only records the claimant; CONFIG leaves
no booking ACTIVE and no permit a speed. -/
theorem disarmClearsTheSite : Obligations.DisarmClearsTheSite := by
  intro s tag hready hroom
  have hexec := exec_disarm hready tag []
  refine ⟨fun harmed hvanes => ?_, fun c harmed hp hw => hexec.trans (congrArg _ (request_refuse hroom ?_)),
    fun hconfig => hexec.trans (congrArg _ (request_refuse hroom (if_pos hconfig)))⟩
  · have hmode : ¬ (s.hunting siteLink).mode = .config := by
      rw [show (s.hunting siteLink).mode = .armed from harmed]
      exact nofun
    have hvaning : ¬ (s.hunting siteLink).vaning = true := fun hn => by
      obtain ⟨c, hp, hw⟩ := vaning_iff.mp hn
      obtain ⟨hpending, hvane⟩ := hvanes c hp
      exact hw.elim hpending hvane
    have hdisarm : Machine.disarm [] (s.hunting siteLink) = accept (disarmSite (s.hunting siteLink)) :=
      (if_neg hmode).trans (if_neg hvaning)
    rw [request_accept hroom hdisarm] at hexec
    obtain ⟨hframe, hentry, habsent, hpresent⟩ := disarmSite_spec (s.hunting siteLink) rfl
    generalize disarmSite (s.hunting siteLink) = u at hexec hframe hentry habsent hpresent
    obtain ⟨he, ho⟩ := postAll_congr (s := s) (t := s.hunting siteLink)
      (bookingChanges s.bookings s.rejudged ++ [eventOf .disarmed]) rfl rfl rfl rfl rfl
    have hbookings : (u.replied tag 0x11#8 []).bookings = s.rejudged := by
      rw [State.replied, hframe]
      rfl
    refine ⟨_, hexec, ?_, fun k hoff => ?_, fun k hon => ?_, fun hclock b hb => ?_, habsent, hpresent⟩
    · rw [hbookings, ← rejudged_eq, ← he, ← ho]
      exact congrArg (fun v => v.replied tag 0x11#8 []) hframe
    · refine (hentry k).trans ?_
      rw [told_disabled (s := (s.hunting siteLink).clearing) hoff, clearing_entry]
      exact if_neg (by rw [show ((s.hunting siteLink).sector k).enabled = false from hoff]; exact nofun)
    · have htold : (u.replied tag 0x11#8 []).entry k = _ :=
        (hentry k).trans (congrArg Prod.fst (clearing_told (s := s.hunting siteLink) _ hon))
      have htable : (u.replied tag 0x11#8 []).tableClaimant k = (claimantOf s.rejudged k).map asClaimant := by
        rw [State.tableClaimant, hbookings]
        rfl
      rw [htold, htable]
      exact ⟨rfl, rfl, rfl, rfl, rfl, rfl, rfl⟩
    · rw [hbookings, rejudged_eq] at hb
      obtain ⟨b', -, rfl⟩ := List.mem_map.mp hb
      exact judges_config (s := { s with mode := .config }) rfl hclock _ _
  · have hmode : ¬ (s.hunting siteLink).mode = .config := by
      rw [show (s.hunting siteLink).mode = .armed from harmed]
      exact nofun
    have hvaning : (s.hunting siteLink).vaning = true := vaning_iff.mpr ⟨c, hp, hw⟩
    exact (if_neg hmode).trans (if_pos hvaning)

end Sys2Proof.Machine
end

/-! ## Load samples and lifts completed (R80 to R88): O48 -/

section
namespace Sys2Proof.Machine

variable {s : State} {c : Crane} {x n : Nat} {r : CraneRecord} {noPick : Bool} {d d' : Detector}

/-! ### The transition of each state (R81 to R85) -/

/-- R82: the run has reached the debounce, and no-pick does not hold. -/
theorem pickingTest_confirms (h : d.run = r.debounce + 1) (hn : noPick = false) :
    pickingTest r noPick d = { d with state := .loaded, run := 0 } :=
  if_pos ⟨h, hn⟩

theorem pickingTest_waits (h : d.run ≠ r.debounce + 1 ∨ noPick = true) :
    pickingTest r noPick d = { d with state := .picking } :=
  if_neg fun ⟨hrun, hn⟩ => h.elim (fun h => h hrun) fun h => by simp [hn] at h

/-- R84: the run has reached the debounce. -/
theorem settingTest_completes (h : r.debounce + 1 ≤ d.run) :
    settingTest r d = ({ d with state := .unloaded }, true) :=
  if_pos h

theorem settingTest_waits (h : d.run < r.debounce + 1) : settingTest r d = ({ d with state := .setting }, false) :=
  if_neg (by omega)

/-- R85: outside UNLOADED a sample raises the peak. -/
theorem raisePeak_raises (h : d.state ≠ .unloaded) : raisePeak x d = { d with peak := max d.peak x } := by
  unfold raisePeak
  split
  · next hu => exact absurd hu h
  · rfl

theorem applySample_unloaded (h : d.state = .unloaded) : applySample r noPick x (raisePeak x d) =
    if r.pick ≤ x then (pickingTest r noPick { d with run := 1, peak := x, reported := false }, false)
    else ({ d with run := 0, peak := 0 }, false) := by
  simp only [raisePeak, applySample, h]

theorem applySample_picking (h : d.state = .picking) : applySample r noPick x (raisePeak x d) =
    if r.pick ≤ x then
      (pickingTest r noPick { d with run := min (d.run + 1) (r.debounce + 1), peak := max d.peak x }, false)
    else (abandonPick d, false) := by
  rw [raisePeak_raises (by rw [h]; exact nofun)]
  simp only [applySample, h, abandonPick]

theorem applySample_loaded (h : d.state = .loaded) : applySample r noPick x (raisePeak x d) =
    if x ≤ r.setDown then settingTest r { d with run := 1, peak := max d.peak x }
    else ({ d with peak := max d.peak x }, false) := by
  rw [raisePeak_raises (by rw [h]; exact nofun)]
  simp only [applySample, h]

theorem applySample_setting (h : d.state = .setting) : applySample r noPick x (raisePeak x d) =
    if x ≤ r.setDown then settingTest r { d with run := d.run + 1, peak := max d.peak x }
    else ({ d with state := .loaded, run := 0, peak := max d.peak x }, false) := by
  rw [raisePeak_raises (by rw [h]; exact nofun)]
  simp only [applySample, h]

/-! ### A detector record put in place, before or after other work -/

theorem setDetector_again (d d' : Detector) : (s.setDetector c d).setDetector c d' = s.setDetector c d' := by
  unfold State.setDetector
  rw [Bank.write_again]

theorem post_setDetector (b : EventBody) (d : Detector) : (s.setDetector c d).post b = (s.post b).setDetector c d := by
  cases hr : s.reports b.kind with
  | false => rw [post_masked hr, post_masked (s := s.setDetector c d) hr]
  | true =>
    by_cases hl : s.events.length < 32
    · rw [post_room hr hl, post_room (s := s.setDetector c d) hr hl]
      rfl
    · rw [post_full hr (by omega), post_full (s := s.setDetector c d) hr (Nat.le_of_not_lt hl)]
      rfl

theorem postAll_setDetector (bs : List EventBody) (d : Detector) :
    (s.setDetector c d).postAll bs = (s.postAll bs).setDetector c d := by
  induction bs generalizing s with
  | nil => rfl
  | cons b bs ih => rw [State.postAll_cons, State.postAll_cons, post_setDetector, ih]

/-- The arbiter reads no detector. -/
theorem entryEvent_setDetector (k : Sector) (f : SectorContext → SectorEntry → EntryStep) (d : Detector) :
    entryEvent k f (s.setDetector c d) = (entryEvent k f s).setDetector c d := by
  by_cases hon : (s.sector k).enabled = true
  · unfold entryEvent
    rw [if_pos hon, if_pos (show ((s.setDetector c d).sector k).enabled = true from hon)]
    exact congrArg (State.send · _)
      (postAll_setDetector (s := s.setEntry k (f (s.sectorContext k) (s.entry k)).1) _ d)
  · have hoff : (s.sector k).enabled = false := by simpa using hon
    rw [entryEvent_disabled hoff, entryEvent_disabled (s := s.setDetector c d) hoff]

theorem liftAnswer_setDetector (d : Detector) : liftAnswer (s.setDetector c d) c = liftAnswer s c := rfl

theorem attributeLift_setDetector (d : Detector) :
    attributeLift c (s.setDetector c d) = (attributeLift c s).setDetector c d := by
  unfold attributeLift
  rw [State.setDetector_position, liftAnswer_setDetector]
  cases (s.position c).present with
  | none => rfl
  | some k =>
    dsimp only
    rw [entryEvent_setDetector]
    cases liftAnswer s c <;> rfl

/-! ### The overload test (R87) -/

/-- R87: whether a sample exceeds the max load of a booking under which the crane lifts, in the state `d` is in. -/
def State.exceeds (s : State) (c : Crane) (x : Nat) (d : Detector) : Bool :=
  (d.state == .picking || d.state == .loaded) && (s.overloadedSector c x).isSome

theorem bookedOverload_setDetector :
    (s.setDetector c d).bookedOverload c x = if s.exceeds c x d = true then s.overloadedSector c x else none := by
  have hsector : (s.setDetector c d).overloadedSector c x = s.overloadedSector c x := rfl
  unfold State.bookedOverload State.exceeds
  rw [State.setDetector_detector_self, hsector]
  cases s.overloadedSector c x <;> simp

/-- R87: the records of the test, one in a cycle. -/
def State.overloadEvents (s : State) (c : Crane) (x : Nat) (d : Detector) : List EventBody :=
  if s.exceeds c x d = true ∧ d.reported = false then
    (s.overloadedSector c x).toList.map fun (k, id, m) => eventOf .bookedOverload (some c) (some k) id.toNat x m
  else []

/-- R87: the record that the test leaves. -/
def State.judgedOverload (s : State) (c : Crane) (x : Nat) (d : Detector) : Detector :=
  { d with overload := s.exceeds c x d, reported := d.reported || s.exceeds c x d }

theorem testOverload_setDetector (d : Detector) : testOverload c x (s.setDetector c d) =
    (s.postAll (s.overloadEvents c x d)).setDetector c (s.judgedOverload c x d) := by
  unfold testOverload State.overloadEvents State.judgedOverload
  dsimp only
  rw [bookedOverload_setDetector, State.setDetector_detector_self]
  by_cases he : s.exceeds c x d = true
  · obtain ⟨⟨k, id, m⟩, hy⟩ := Option.isSome_iff_exists.mp (Bool.and_eq_true_iff.mp he).2
    rw [if_pos he, hy]
    cases hr : d.reported with
    | false => simp [he, setDetector_again, post_setDetector]
    | true => simp [he, setDetector_again]
  · rw [if_neg he, if_neg (fun h => he h.1)]
    simp [Bool.eq_false_iff.mpr he, setDetector_again]

/-- R87: in UNLOADED the test has nothing to do. -/
theorem testOverload_unloaded (hs : d.state = .unloaded) (ho : d.overload = false) :
    testOverload c x (s.setDetector c d) = s.setDetector c d := by
  have hexceeds : s.exceeds c x d = false := by
    rw [State.exceeds, hs]
    rfl
  have hjudged : s.judgedOverload c x d = d := by
    rw [State.judgedOverload, hexceeds, Bool.or_false, ← ho]
  rw [testOverload_setDetector, hjudged, State.overloadEvents, if_neg (by simp [hexceeds])]
  rfl

/-! ### What a sample does -/

/-- R88: the notices of a sample after its test. -/
theorem sampleNotices_judged (before d' : Detector) :
    sampleNotices c noPick before (s.judgedOverload c x d') =
      (if before.state = .unloaded ∧ d'.state = .picking ∧ noPick = true then [.limit c] else [])
        ++ (if s.exceeds c x d' = true ∧ before.overload = false then [.limit c] else []) := by
  simp [sampleNotices, State.judgedOverload, and_comm]

/-- R88: a cycle in progress that ends without an overload tells nothing. -/
theorem sampleNotices_none (hs : d.state ≠ .unloaded) (ho : d'.overload = false) :
    sampleNotices c noPick d d' = [] := by
  simp [sampleNotices, hs, ho]

/-- R87, R88: a sample that moves the detector to `d` is tested for overload, and the permit path is told of a pick
under no-pick and of a new overload. -/
theorem takeSample_of_transition
    (h : applySample (s.crane c) (s.noPick c) x (raisePeak x (s.detector c)) = (d, false)) :
    takeSample c x s = ((s.postAll (s.overloadEvents c x d)).setDetector c (s.judgedOverload c x d)).send
      (sampleNotices c (s.noPick c) (s.detector c) (s.judgedOverload c x d)) := by
  unfold takeSample
  dsimp only
  rw [h, if_neg Bool.false_ne_true, testOverload_setDetector, State.setDetector_detector_self]

/-- R86: a completed lift is attributed as LIFT_ATTRIBUTION does. -/
theorem completeLift_setDetector (d : Detector) : completeLift c (s.setDetector c d) =
    ((attributeLift c s).post (liftEvent c (liftAnswer s c) d.peak)).setDetector c
      { d with lifts := d.lifts + 1, lastLift := some { peak := d.peak, attribution := liftAnswer s c },
               peak := 0, run := 0, overload := false, reported := false } := by
  unfold completeLift
  dsimp only
  rw [State.setDetector_detector_self, setDetector_again, attributeLift_setDetector, setDetector_again,
    post_setDetector, liftAnswer_setDetector]

/-- R86: a sample that completes a lift raises LIFT and begins a new cycle, in which nothing is overloaded. -/
theorem takeSample_completes (hs : (s.detector c).state ≠ .unloaded)
    (h : applySample (s.crane c) (s.noPick c) x (raisePeak x (s.detector c)) = (d, true)) (hd : d.state = .unloaded) :
    takeSample c x s = ((attributeLift c s).post (liftEvent c (liftAnswer s c) d.peak)).setDetector c
      { state := .unloaded, run := 0, peak := 0, lifts := d.lifts + 1, overload := false, reported := false,
        lastLift := some { peak := d.peak, attribution := liftAnswer s c } } := by
  unfold takeSample
  dsimp only
  rw [h, if_pos rfl, completeLift_setDetector, testOverload_unloaded, State.setDetector_detector_self, hd]
  · rw [sampleNotices_none hs rfl, State.send_nil]
  · exact hd
  · rfl

/-! ### What a sample does, as a command of a quiet device -/

/-- What a load sample does that moves the detector to `d'` and completes no lift (R80, R87, R88). -/
def State.SampleMoves (s : State) (c : Crane) (x : Nat) (d' : Detector) : Prop :=
  ∃ t, exec (.loadSample c x) s = .next t ∧
    t = { s with
          detectors := s.detectors.write c (s.judgedOverload c x d')
          events := t.events, overflow := t.overflow
          inFlight :=
            (if (s.detector c).state = .unloaded ∧ d'.state = .picking ∧ s.noPick c = true then [.limit c] else [])
              ++ (if s.exceeds c x d' = true ∧ (s.detector c).overload = false then [.limit c] else []) } ∧
    (s.exceeds c x d' = false ∨ d'.reported = true → t.events = s.events ∧ t.overflow = s.overflow) ∧
    (∀ k id m, s.exceeds c x d' = true → d'.reported = false → s.overloadedSector c x = some (k, id, m) →
      let e := eventOf .bookedOverload (some c) (some k) id.toNat x m
      t.events = (s.post e).events ∧ t.overflow = (s.post e).overflow)

/-- A transition that completes no lift moves the detector. -/
theorem sampleMoves_of_transition (hready : s.Ready)
    (h : applySample (s.crane c) (s.noPick c) x (raisePeak x (s.detector c)) = (d', false)) : s.SampleMoves c x d' := by
  have ⟨_, hflight, _⟩ := hready
  have hsample := takeSample_of_transition h
  refine ⟨_, exec_loadSample hready c x, ?_, fun hquiet => ?_, fun k id m he hr hk => ?_⟩
  · rw [hsample, sampleNotices_judged, State.postAll_frame]
    simp only [State.send, State.setDetector, hflight, List.nil_append]
  · have hnone : s.overloadEvents c x d' = [] := if_neg fun ⟨he, hr⟩ => by simp [he, hr] at hquiet
    rw [hsample, hnone]
    exact ⟨rfl, rfl⟩
  · have hone : s.overloadEvents c x d' = [eventOf .bookedOverload (some c) (some k) id.toNat x m] := by
      rw [State.overloadEvents, if_pos ⟨he, hr⟩, hk]
      rfl
    rw [hsample, hone]
    exact ⟨rfl, rfl⟩

/-- R86: the LIFT record of a lift with peak `peak`, by the arbiter's answer. -/
def State.liftRecord (s : State) (c : Crane) (peak : Nat) : EventBody :=
  match liftAnswer s c with
  | .booked k id => eventOf .lift (some c) (some k) id.toNat peak 0
  | .routine k => eventOf .lift (some c) (some k) 0 peak 1
  | .craneOnly => eventOf .lift (some c) none 0 peak 2

theorem liftEvent_liftAnswer (peak : Nat) : liftEvent c (liftAnswer s c) peak = s.liftRecord c peak := by
  unfold State.liftRecord
  cases liftAnswer s c <;> rfl

/-- What a load sample does that completes a lift, whose cycle had the peak `peak` (R86). -/
def State.SampleLifts (s : State) (c : Crane) (x peak : Nat) : Prop :=
  ∃ t u, exec (.loadSample c x) s = .next t ∧ exec (.liftAttribution c) s = .next u ∧
    t = { u with
          detectors := s.detectors.write c
            { state := .unloaded, run := 0, peak := 0, lifts := (s.detector c).lifts + 1, overload := false,
              reported := false, lastLift := some { peak := peak, attribution := liftAnswer s c } }
          events := (u.post (s.liftRecord c peak)).events
          overflow := (u.post (s.liftRecord c peak)).overflow }

/-- A transition that completes a lift leaves a record at rest and what the attribution makes of the device. -/
theorem sampleLifts_of_transition (hready : s.Ready) (hs : (s.detector c).state ≠ .unloaded) {peak : Nat}
    (h : applySample (s.crane c) (s.noPick c) x (raisePeak x (s.detector c)) =
      ({ s.detector c with state := .unloaded, run := n, peak := peak }, true)) : s.SampleLifts c x peak := by
  refine ⟨_, _, exec_loadSample hready c x, exec_liftAttribution hready c, ?_⟩
  have hdetectors : (attributeLift c s).detectors = s.detectors :=
    congrArg Prod.snd (loadView_of_butEntries (attributeLift_butEntries c s))
  rw [takeSample_completes hs h rfl, liftEvent_liftAnswer, post_eq, State.setDetector, hdetectors]

/-! ### A sample in each state of the detector -/

/-- R81: UNLOADED, by the pick threshold. -/
theorem loadSample_unloaded (hready : s.Ready) (hs : (s.detector c).state = .unloaded) :
    (x < (s.crane c).pick → s.SampleMoves c x { s.detector c with run := 0, peak := 0 }) ∧
    ((s.crane c).pick ≤ x → (s.crane c).debounce = 0 → s.noPick c = false →
      s.SampleMoves c x { s.detector c with state := .loaded, run := 0, peak := x, reported := false }) ∧
    ((s.crane c).pick ≤ x → ((s.crane c).debounce ≠ 0 ∨ s.noPick c = true) →
      s.SampleMoves c x { s.detector c with state := .picking, run := 1, peak := x, reported := false }) := by
  refine ⟨fun hx => ?_, fun hx hdebounce hn => ?_, fun hx hwait => ?_⟩ <;>
    refine sampleMoves_of_transition hready ((applySample_unloaded hs).trans ?_)
  · exact if_neg (by omega)
  · rw [if_pos hx, pickingTest_confirms (by rw [hdebounce]) hn]
  · rw [if_pos hx, pickingTest_waits (hwait.imp_left fun hne heq => hne (by simpa using heq.symm))]

/-- R82: PICKING, abandoned, confirmed, or counted on. -/
theorem loadSample_picking (hready : s.Ready) (hs : (s.detector c).state = .picking) :
    (x < (s.crane c).pick → s.SampleMoves c x
      { s.detector c with state := .unloaded, run := 0, peak := 0, overload := false, reported := false }) ∧
    ((s.crane c).pick ≤ x → (s.crane c).debounce ≤ (s.detector c).run → s.noPick c = false →
      s.SampleMoves c x { s.detector c with state := .loaded, run := 0, peak := max (s.detector c).peak x }) ∧
    ((s.crane c).pick ≤ x → ((s.detector c).run < (s.crane c).debounce ∨ s.noPick c = true) →
      s.SampleMoves c x { s.detector c with
        run := min ((s.detector c).run + 1) ((s.crane c).debounce + 1), peak := max (s.detector c).peak x }) := by
  refine ⟨fun hx => ?_, fun hx hrun hn => ?_, fun hx hwait => ?_⟩ <;>
    refine sampleMoves_of_transition hready ((applySample_picking hs).trans ?_)
  · exact if_neg (by omega)
  · rw [if_pos hx, pickingTest_confirms (Nat.min_eq_right (by omega)) hn]
  · rw [if_pos hx, pickingTest_waits (hwait.imp_left fun hlt heq => by dsimp only at heq; omega), ← hs]

/-- R83, R84: LOADED, by the set-down threshold; a debounce of 0 confirms the set-down at once. -/
theorem loadSample_loaded (hready : s.Ready) (hs : (s.detector c).state = .loaded) :
    ((s.crane c).setDown < x → s.SampleMoves c x { s.detector c with peak := max (s.detector c).peak x }) ∧
    (x ≤ (s.crane c).setDown → (s.crane c).debounce = 0 → s.SampleLifts c x (max (s.detector c).peak x)) ∧
    (x ≤ (s.crane c).setDown → (s.crane c).debounce ≠ 0 →
      s.SampleMoves c x { s.detector c with state := .setting, run := 1, peak := max (s.detector c).peak x }) := by
  refine ⟨fun hx => ?_, fun hx hdebounce => ?_, fun hx hdebounce => ?_⟩
  · exact sampleMoves_of_transition hready ((applySample_loaded hs).trans (if_neg (by omega)))
  · refine sampleLifts_of_transition (n := 1) hready (by rw [hs]; exact nofun) ((applySample_loaded hs).trans ?_)
    rw [if_pos hx, settingTest_completes (by rw [hdebounce])]
  · refine sampleMoves_of_transition hready ((applySample_loaded hs).trans ?_)
    rw [if_pos hx, settingTest_waits (by dsimp only; omega)]

/-- R84: SETTING, back to LOADED, confirmed, or counted on. -/
theorem loadSample_setting (hready : s.Ready) (hs : (s.detector c).state = .setting) :
    ((s.crane c).setDown < x →
      s.SampleMoves c x { s.detector c with state := .loaded, run := 0, peak := max (s.detector c).peak x }) ∧
    (x ≤ (s.crane c).setDown → (s.crane c).debounce ≤ (s.detector c).run →
      s.SampleLifts c x (max (s.detector c).peak x)) ∧
    (x ≤ (s.crane c).setDown → (s.detector c).run < (s.crane c).debounce →
      s.SampleMoves c x { s.detector c with
        run := (s.detector c).run + 1, peak := max (s.detector c).peak x }) := by
  refine ⟨fun hx => ?_, fun hx hrun => ?_, fun hx hrun => ?_⟩
  · exact sampleMoves_of_transition hready ((applySample_setting hs).trans (if_neg (by omega)))
  · refine sampleLifts_of_transition (n := (s.detector c).run + 1) hready (by rw [hs]; exact nofun)
      ((applySample_setting hs).trans ?_)
    rw [if_pos hx, settingTest_completes (by dsimp only; omega)]
  · refine sampleMoves_of_transition hready ((applySample_setting hs).trans ?_)
    rw [if_pos hx, settingTest_waits (by dsimp only; omega), ← hs]

/-- Settles O48: a case for each state of the detector, each by the transition that the thresholds and the debounce
choose. -/
theorem loadSampleMovesDetector : Obligations.LoadSampleMovesDetector := by
  intro s c x hready
  exact ⟨loadSample_unloaded hready, loadSample_picking hready, loadSample_loaded hready, loadSample_setting hready⟩

end Sys2Proof.Machine
end

/-! ## The booking table stays sound (R91, R101): O7 -/

section
namespace Sys2Proof.Machine

variable {s t : State} {b : Booking}

/-! ### What the table's soundness reads -/

/-- R91, R101: what `State.BookingsSound` asks of one entry: a nonzero quota is not exceeded, and is reached in EXHAUSTED
only. -/
def Booking.Counted (b : Booking) : Prop := b.quota ≠ 0 → b.done ≤ b.quota ∧ (b.done = b.quota → b.state = .exhausted)

theorem bookingsSound_iff : s.BookingsSound ↔
    s.bookings.length ≤ 64 ∧ (s.bookings.map (·.id)).Nodup ∧ ∀ b ∈ s.bookings, b.Counted := Iff.rfl

/-- Soundness is a matter of the table alone. -/
theorem State.BookingsSound.of_bookings (h : s.BookingsSound) (hb : t.bookings = s.bookings) : t.BookingsSound := by
  rw [bookingsSound_iff, hb]
  exact h

/-- States that differ in one block's fields only, the table not among them, have the same table. -/
theorem bookings_of_frame {blank : State → State} (hb : blank t = blank s)
    (hp : ∀ u, (blank u).bookings = u.bookings := by intro _; rfl) : t.bookings = s.bookings :=
  (hp t).symm.trans ((congrArg State.bookings hb).trans (hp s))

theorem State.BookingsSound.of_frame {blank : State → State} (h : s.BookingsSound) (hb : blank t = blank s)
    (hp : ∀ u, (blank u).bookings = u.bookings := by intro _; rfl) : t.BookingsSound :=
  h.of_bookings (bookings_of_frame hb hp)

/-- Every entry changed in place, under the id it had. -/
theorem State.BookingsSound.mapped (h : s.BookingsSound) {f : Booking → Booking}
    (ht : t.bookings = s.bookings.map f) (hid : ∀ b, (f b).id = b.id)
    (hf : ∀ b ∈ s.bookings, b.Counted → (f b).Counted) : t.BookingsSound := by
  obtain ⟨hlength, hnodup, hcounted⟩ := bookingsSound_iff.mp h
  rw [bookingsSound_iff, ht, List.length_map, List.map_map, List.forall_mem_map,
    show (fun b : Booking => b.id) ∘ f = (·.id) from funext hid]
  exact ⟨hlength, hnodup, fun b hb => hf b hb (hcounted b hb)⟩

/-! ### One entry -/

/-- R92, R101: a live entry has not reached its quota, so that it may be given any state. -/
theorem Booking.Counted.moveTo (h : b.Counted) (hlive : liveBooking b.state = true) (st : BookingState)
    (cause : BookingCause) : (b.moveTo st cause).Counted := by
  unfold Booking.moveTo
  split
  · exact h
  · intro hq
    obtain ⟨hle, hreached⟩ := h hq
    exact ⟨hle, fun heq => by rw [hreached heq] at hlive; cases hlive⟩

@[simp] theorem Booking.moveTo_id (b : Booking) (st : BookingState) (cause : BookingCause) :
    (b.moveTo st cause).id = b.id := by
  unfold Booking.moveTo
  split <;> rfl

@[simp] theorem evaluateBooking_id (s : State) (cause : BookingCause) (b : Booking) :
    (s.evaluateBooking cause b).id = b.id := by
  unfold State.evaluateBooking
  split
  · exact Booking.moveTo_id ..
  · rfl

@[simp] theorem tableCheck_id (s : State) (b : Booking) : (s.tableCheck b).id = b.id := by
  unfold State.tableCheck
  split
  · exact Booking.moveTo_id ..
  · rfl

@[simp] theorem recondition_id (s : State) (c : Crane) (b : Booking) : (s.recondition c b).id = b.id := by
  unfold State.recondition
  repeat' split
  all_goals simp

@[simp] theorem countLift_id (id : Half) (b : Booking) : (countLift id b).id = b.id := by
  unfold countLift
  dsimp only
  repeat' split
  all_goals simp

/-- R95: only live entries are judged. -/
theorem Booking.Counted.evaluated (h : b.Counted) (s : State) (cause : BookingCause) :
    (s.evaluateBooking cause b).Counted := by
  unfold State.evaluateBooking
  split
  · next hl =>
    rw [Bool.and_eq_true] at hl
    exact h.moveTo hl.2 _ _
  · exact h

/-- R99: only live entries are cancelled at an arming. -/
theorem Booking.Counted.checked (h : b.Counted) (s : State) : (s.tableCheck b).Counted := by
  unfold State.tableCheck
  split
  · next hl =>
    rw [Bool.and_eq_true] at hl
    exact h.moveTo hl.1 _ _
  · exact h

/-- R97: only ACTIVE and SUSPENDED entries are changed. -/
theorem Booking.Counted.reconditioned (h : b.Counted) (s : State) (c : Crane) : (s.recondition c b).Counted := by
  have moved (hlive : liveBooking b.state = true) (st : BookingState) : (b.moveTo st .crane).Counted :=
    h.moveTo hlive st .crane
  unfold State.recondition
  split
  · split
    · next hs =>
      split
      · exact h
      · exact moved (by rw [hs]; rfl) _
    · next hs =>
      split
      · exact moved (by rw [hs]; rfl) _
      · exact h
    · exact h
  · exact h

/-- R101: a lift counted on an ACTIVE entry stays within the quota, and exhausts the entry when it reaches it. -/
theorem Booking.Counted.lifted (h : b.Counted) (id : Half) : (countLift id b).Counted := by
  by_cases hc : b.id = id ∧ b.state = .active
  · by_cases hd : b.quota ≠ 0 ∧ min (b.done + 1) 65535 = b.quota
    · rw [countLift_exhausts hc hd.1 hd.2]
      exact fun _ => ⟨hd.2.le, fun _ => rfl⟩
    · rw [countLift_counts hc (by tauto)]
      intro hq
      obtain ⟨hle, hreached⟩ := h hq
      have hshort : b.done ≠ b.quota := fun heq => by
        have := hreached heq
        rw [hc.2] at this
        cases this
      exact ⟨by dsimp only; omega, fun heq => absurd ⟨hq, heq⟩ hd⟩
  · rw [countLift_other hc]
    exact h

/-! ### What changes the table (R93 to R104) -/

@[simp] theorem changeBookings_bookings (s : State) (after : List Booking) (evs : List EventBody) :
    (s.changeBookings after evs).bookings = after := by rw [changeBookings_eq]

theorem evaluateWindows_keepsBookings (cause : BookingCause) (h : s.BookingsSound) :
    (evaluateWindows cause s).BookingsSound :=
  h.mapped (changeBookings_bookings ..) (evaluateBooking_id s cause) fun _ _ hb => hb.evaluated s cause

theorem takeCraneCondition_keepsBookings (c : Crane) (h : s.BookingsSound) :
    (takeCraneCondition c s).BookingsSound :=
  h.mapped (changeBookings_bookings ..) (recondition_id s c) fun _ _ hb => hb.reconditioned s c

theorem takeLiftCount_keepsBookings (id : Half) (h : s.BookingsSound) : (takeLiftCount id s).BookingsSound :=
  h.mapped (changeBookings_bookings ..) (countLift_id id) fun _ _ hb => hb.lifted id

theorem armSite_keepsBookings (h : s.BookingsSound) : (armSite s).BookingsSound := by
  obtain ⟨hframe, -⟩ := armSite_spec s
  exact h.mapped (congrArg State.bookings hframe) (fun b => (evaluateBooking_id ..).trans (tableCheck_id ..))
    fun _ _ hb => (hb.checked _).evaluated _ _

theorem disarmSite_keepsBookings (h : s.BookingsSound) : (disarmSite s).BookingsSound := by
  obtain ⟨hframe, -⟩ := disarmSite_spec s rfl
  exact h.mapped (congrArg State.bookings hframe) (fun b => evaluateBooking_id ..) fun _ _ hb => hb.evaluated _ _

/-- R91, R93: a booking under a new id enters a table that is not full, with no lift done. -/
theorem addBooking_keepsBookings (h : s.BookingsSound) (hid : ∀ x ∈ s.bookings, x.id ≠ b.id)
    (hroom : s.bookings.length < 64) : (addBooking b s).BookingsSound := by
  obtain ⟨-, hnodup, hcounted⟩ := bookingsSound_iff.mp h
  rw [bookingsSound_iff, addBooking, changeBookings_bookings]
  refine ⟨by simpa using hroom, ?_, ?_⟩
  · rw [List.map_append, List.nodup_append]
    refine ⟨hnodup, List.nodup_singleton _, ?_⟩
    simpa using hid
  · simp only [List.mem_append, List.mem_singleton]
    rintro x (hx | rfl)
    · exact hcounted x hx
    · exact fun hq => ⟨Nat.zero_le _, fun h0 => absurd h0.symm hq⟩

/-- R103: the entry that is cancelled is live; the ids being distinct, no other has its id. -/
theorem cancelBooking_keepsBookings (h : s.BookingsSound) {id : Half} (hb : s.booking id = some b)
    (hlive : liveBooking b.state = true) : (cancelBooking id s).BookingsSound := by
  have hmem : b ∈ s.bookings := List.mem_of_find?_eq_some hb
  have hid : b.id = id := by simpa using List.find?_some hb
  refine h.mapped (changeBookings_bookings ..) (fun x => ?_) fun x hx hcounted => ?_
  · split
    · exact Booking.moveTo_id ..
    · rfl
  · split
    · next hx' =>
      obtain rfl : x = b := List.inj_on_of_nodup_map h.2.1 hx hmem (hx'.trans hid.symm)
      exact hcounted.moveTo hlive _ _
    · exact hcounted

/-! ### Operations -/

theorem bookAdd_keepsBookings (ops : List Byte) (h : s.BookingsSound) : (bookAdd ops s).state.BookingsSound := by
  unfold bookAdd
  split
  · dsimp only
    split
    · exact h
    · split
      · exact h
      · split
        · exact h
        · split
          · exact h
          · next hdup =>
            split
            · exact h
            · split
              · exact h
              · next hfull =>
                exact addBooking_keepsBookings h (by simpa using hdup) (Nat.lt_of_not_le hfull)
  · exact h

theorem bookCancel_keepsBookings (ops : List Byte) (h : s.BookingsSound) :
    (bookCancel ops s).state.BookingsSound := by
  unfold bookCancel
  split
  · dsimp only
    split
    · exact h
    · next hb =>
      split
      · next hlive => exact cancelBooking_keepsBookings h hb hlive
      · exact h
  · exact h

theorem bookPurge_keepsBookings (ops : List Byte) (h : s.BookingsSound) : (bookPurge ops s).state.BookingsSound := by
  obtain ⟨hlength, hnodup, hcounted⟩ := bookingsSound_iff.mp h
  unfold bookPurge
  split
  · exact ⟨(List.length_filter_le _ _).trans hlength, hnodup.sublist (List.filter_sublist.map _),
      fun b hb => hcounted b (List.mem_of_mem_filter hb)⟩
  · exact h

theorem tableWrite_keepsBookings {ws : List Nat} {ops : List Byte} {f : List Nat → State → Answer}
    (h : s.BookingsSound) (hf : ∀ fs, (f fs s).state.bookings = s.bookings) :
    (tableWrite ws ops f s).state.BookingsSound := by
  unfold tableWrite
  split
  · exact h
  · split
    · exact h.of_bookings (hf _)
    · exact h

theorem withOperands_keepsBookings {ws : List Nat} {ops : List Byte} {f : List Nat → State → Answer}
    (h : s.BookingsSound) (hf : ∀ fs, (f fs s).state.BookingsSound) :
    (withOperands ws ops f s).state.BookingsSound := by
  unfold withOperands
  split
  · exact hf _
  · exact h

@[simp] theorem recomputePresence_bookings (c : Crane) (skip : Option Sector) (s : State) :
    (recomputePresence c skip s).bookings = s.bookings := bookings_of_frame (recomputePresence_butPositions c skip s)

@[simp] theorem selectSources_bookings (w : Option Crane) (s : State) : (selectSources w s).bookings = s.bookings :=
  bookings_of_frame (selectSources_butWinds w s)

@[simp] theorem refreshLines_bookings (s : State) : s.refreshLines.bookings = s.bookings :=
  bookings_of_frame (State.refreshLines_butGenerators s)

theorem makeAbsent_bookings (c : Crane) (s : State) : (makeAbsent c s).bookings = s.bookings := by
  have hlost : (loseAbsent c (s.setCrane c .absent)).bookings = s.bookings :=
    (bookings_of_frame (loseAbsent_butPositions c _)).trans rfl
  unfold makeAbsent
  dsimp only
  split_ifs <;> simp [hlost]

theorem makePresent_bookings (c : Crane) (r : CraneRecord) (s : State) :
    (makePresent c r s).bookings = s.bookings := by
  unfold makePresent
  dsimp only
  split_ifs <;> simp

theorem putSector_bookings (k : Sector) (r : SectorRecord) (s : State) : (putSector k r s).bookings = s.bookings := by
  have hmembers (skip : Option Sector) :
      (recomputeMembers k (s.sector k).members skip (s.setSector k r)).bookings = s.bookings :=
    (bookings_of_frame (recomputeMembers_butPositions k _ skip (s.setSector k r))).trans rfl
  unfold putSector
  split_ifs
  · exact hmembers none
  · exact hmembers (some k)

theorem writeSite_keepsBookings (ops : List Byte) (h : s.BookingsSound) : (writeSite ops s).state.BookingsSound :=
  tableWrite_keepsBookings h fun _ => by
    split <;> rfl

theorem writeCrane_keepsBookings (ops : List Byte) (h : s.BookingsSound) : (writeCrane ops s).state.BookingsSound :=
  tableWrite_keepsBookings h fun fs => by
    repeat' split
    all_goals simp [makeAbsent_bookings, makePresent_bookings]

theorem writeSector_keepsBookings (ops : List Byte) (h : s.BookingsSound) :
    (writeSector ops s).state.BookingsSound :=
  tableWrite_keepsBookings h fun fs => by
    repeat' split
    all_goals simp [putSector_bookings]

theorem writeProfile_keepsBookings (ops : List Byte) (h : s.BookingsSound) :
    (writeProfile ops s).state.BookingsSound :=
  tableWrite_keepsBookings h fun fs => by
    dsimp only
    repeat' split
    · rfl
    · rfl
    · exact foldl_keeps State.bookings (fun t c => t.setWind c (restartCounting (t.windOf c))) (fun _ _ => rfl) _ _

theorem writePattern_keepsBookings (ops : List Byte) (h : s.BookingsSound) :
    (writePattern ops s).state.BookingsSound :=
  tableWrite_keepsBookings h fun fs => by
    split
    · rfl
    · next cond _ =>
      split
      · rfl
      · next p _ =>
        have hshown := bookings_of_frame
          (State.restartShowing_butGenerators { s with patterns := setPattern s.patterns cond p } cond)
        exact hshown

theorem writeSegments_keepsBookings (ops : List Byte) (h : s.BookingsSound) :
    (writeSegments ops s).state.BookingsSound := by
  refine h.of_bookings ?_
  unfold writeSegments takePart completeZone refusePart
  dsimp only
  repeat' split
  all_goals simp

theorem sectorCommand_keepsBookings (ops : List Byte) {f : Sector → State → State} (h : s.BookingsSound)
    (hf : ∀ k, (f k s).butEntries = s.butEntries) : (sectorCommand ops f s).state.BookingsSound :=
  withOperands_keepsBookings h fun fs => by
    dsimp only
    repeat' split
    · exact h
    · exact h
    · exact h.of_frame (hf _)

theorem craneCommand_keepsBookings (ops : List Byte) {f : Crane → State → Answer} (h : s.BookingsSound)
    (hf : ∀ c, (f c s).state.butWinds = s.butWinds) : (craneCommand ops f s).state.BookingsSound :=
  withOperands_keepsBookings h fun fs => by
    dsimp only
    repeat' split
    · exact h
    · exact h
    · exact h.of_frame (hf _)

theorem vaneCrane_keepsBookings (ops : List Byte) (h : s.BookingsSound) : (vaneCrane ops s).state.BookingsSound :=
  craneCommand_keepsBookings ops h fun c => by
    repeat' split
    · rfl
    · rfl
    · exact enterVanePending_butWinds ..

theorem resumeOp_keepsBookings (ops : List Byte) (h : s.BookingsSound) : (resumeOp ops s).state.BookingsSound :=
  craneCommand_keepsBookings ops h fun c => by
    repeat' split
    · rfl
    · rfl
    · exact resumeCrane_butWinds ..

theorem arm_keepsBookings (ops : List Byte) (h : s.BookingsSound) : (Machine.arm ops s).state.BookingsSound := by
  unfold Machine.arm noOperands
  split
  · dsimp only
    repeat' split
    · exact h
    · exact h
    · exact armSite_keepsBookings h
  · exact h

theorem disarm_keepsBookings (ops : List Byte) (h : s.BookingsSound) :
    (Machine.disarm ops s).state.BookingsSound := by
  unfold Machine.disarm noOperands
  split
  · dsimp only
    repeat' split
    · exact h
    · exact h
    · exact disarmSite_keepsBookings h
  · exact h

theorem setClock_keepsBookings (seconds : Nat) (h : s.BookingsSound) : (setClock seconds s).BookingsSound :=
  evaluateWindows_keepsBookings .clock (s := { s with clock := BitVec.ofNat 32 seconds, clockSet := true }) h

/-- No operation of the table breaks the booking table's soundness. -/
theorem operationOf_keepsBookings {code : Byte} {f : List Byte → State → Answer} (hf : operationOf code = some f)
    (ops : List Byte) (h : s.BookingsSound) : (f ops s).state.BookingsSound := by
  have unchanged {u : State} (hu : u = s) : u.BookingsSound := hu ▸ h
  unfold operationOf at hf
  split at hf <;> cases hf
  · exact writeSite_keepsBookings ops h
  · exact writeCrane_keepsBookings ops h
  · exact writeSegments_keepsBookings ops h
  · exact writeSector_keepsBookings ops h
  · exact writeProfile_keepsBookings ops h
  · exact writePattern_keepsBookings ops h
  · exact arm_keepsBookings ops h
  · exact disarm_keepsBookings ops h
  · exact withOperands_keepsBookings h fun fs => setClock_keepsBookings _ h
  · exact withOperands_keepsBookings h fun fs => h
  · exact bookAdd_keepsBookings ops h
  · exact bookCancel_keepsBookings ops h
  · exact bookPurge_keepsBookings ops h
  · exact sectorCommand_keepsBookings ops h fun k => closeSector_butEntries k s
  · exact sectorCommand_keepsBookings ops h fun k => openSector_butEntries k s
  · exact vaneCrane_keepsBookings ops h
  · exact resumeOp_keepsBookings ops h
  · exact unchanged (readCrane_state ops)
  · exact unchanged (readSector_state ops)
  · exact unchanged (readBookingOp_state ops)
  · exact unchanged (readWind_state ops)
  · exact unchanged (readStatus_state ops)

/-! ### Notices and commands -/

theorem takeFrame_keepsBookings (f : GoodFrame) (h : s.BookingsSound) : (takeFrame f s).BookingsSound := by
  have handed (c : Crane) (g : State → State) (hg : (g s).BookingsSound) : (handOn c g s).BookingsSound := by
    unfold handOn
    split
    · exact hg
    · exact h
  cases f with
  | motion c m => exact handed _ _ (h.of_frame (takeMotion_butPositions _ _ _))
  | wind c w => exact handed _ _ (h.of_frame (takeWind_butWinds _ _ _))
  | demand c d => exact handed _ _ (h.of_frame (takeDemand_butPermits _ _ _))
  | request tag code ops =>
    rw [takeFrame, takeRequest, answerRequest]
    split
    · cases hf : operationOf code with
      | none => exact h
      | some f => exact operationOf_keepsBookings hf ops h
    · exact h

/-- No expiry changes the table. -/
theorem expire_bookings (e : Expiry) (s : State) : (expire e s).bookings = s.bookings := by
  cases e with
  | positionStale c => exact bookings_of_frame (expirePosition_butPositions _ _)
  | windStale c => exact bookings_of_frame (expireWindStale_butWinds _ _)
  | demandTimeout c => exact bookings_of_frame (expireDemand_butPermits _ _)
  | refresh c => exact bookings_of_frame (expireRefresh_butPermits _ _)
  | keep k c => exact bookings_of_frame (expireKeep_butEntries _ _ _)
  | clearing k => exact bookings_of_frame (expireClearing_butEntries _ _)
  | hold k => exact bookings_of_frame (expireHold_butEntries _ _)
  | recovery c => exact bookings_of_frame (expireRecovery_butWinds _ _)
  | vaneDelay c => exact bookings_of_frame (expireVaneDelay_butWinds _ _)
  | vaneTimeout c => exact bookings_of_frame (expireVaneTimeout_butWinds _ _)
  | phaseEnd n => exact bookings_of_frame (State.endPhase_butGenerators _ _)

/-- No notice breaks the table's soundness; of those that are no request, only a lift count, a change of a crane's
condition and a minute boundary change an entry. -/
theorem takeNotice_keepsBookings (n : Notice) (s : State) (h : s.BookingsSound) : (takeNotice n s).BookingsSound := by
  cases n with
  | frame f => exact takeFrame_keepsBookings f h
  | liftCount id => exact takeLiftCount_keepsBookings id h
  | craneCondition c => exact takeCraneCondition_keepsBookings c h
  | minuteBoundary => exact evaluateWindows_keepsBookings .window h
  | presence k c ch => exact h.of_frame (reportPresence_butEntries _ _ _ _)
  | knock k c => exact h.of_frame (knockSector_butEntries _ _ _)
  | claimant k left cl => exact h.of_frame (changeClaimant_butEntries _ _ _ _)
  | lock k c => exact h.of_frame (lockSector_butEntries _ _ _)
  | unlock k c => exact h.of_frame (unlockSector_butEntries _ _ _)
  | loadSample c x => exact h.of_frame (takeSample_butDetectors _ _ _)
  | motionTaken c => exact h.of_frame (takeMotionNotice_butWinds _ _)
  | limit c => exact h.of_frame (takeLimitNotice_butPermits _ _)
  | evaluation c => exact h.of_frame (takeEvaluation_butWinds _ _)
  | handshake k => exact h.of_frame (takeHandshake_butWinds _ _)
  | beacon c cond => exact h.of_frame (State.showCondition_butGenerators _ _ _)
  | expiry e =>
    rw [takeNotice]
    split
    · exact h.of_bookings (expire_bookings e s)
    · exact h
  | clockAdvance =>
    rw [takeNotice, advanceClock]
    split <;> exact h
  | holdAsserted =>
    rw [takeNotice, assertHold]
    split
    · exact h
    · refine State.BookingsSound.of_frame ?_ (issueAll_butPermits _)
      exact h.of_bookings (State.post_bookings ..)
  | holdReleased =>
    rw [takeNotice, releaseHold]
    split
    · exact h.of_bookings (State.post_bookings ..)
    · exact h
  | tickDone => exact h

/-- R91: a device in reset has no booking. -/
theorem cleared_bookingsSound (h : t.bookings = []) : t.BookingsSound := by
  rw [bookingsSound_iff, h]
  exact ⟨Nat.zero_le _, List.nodup_nil, nofun⟩

theorem takeReset_keepsBookings (trigger : ResetTrigger) (h : s.BookingsSound) :
    (takeReset trigger s).BookingsSound := by
  unfold takeReset
  dsimp only
  repeat' split
  · exact cleared_bookingsSound rfl
  · exact cleared_bookingsSound rfl
  · exact cleared_bookingsSound rfl
  · exact h

theorem sampleHold_bookings (low : Bool) (s : State) : (sampleHold low s).bookings = s.bookings := by
  unfold sampleHold
  dsimp only
  repeat' split
  all_goals rfl

theorem takeTick_bookings (holdLow : Bool) (s : State) : (takeTick holdLow s).bookings = s.bookings := by
  unfold takeTick
  dsimp only
  rw [State.send_bookings, sampleHold_bookings]
  split <;> rfl

/-- No command breaks the table's soundness. -/
theorem Acts.keepsBookings (ha : Acts s t) (h : s.BookingsSound) : t.BookingsSound := by
  have rescanned (l : Link) (stored : List Byte) {u : State} (hu : u.bookings = s.bookings) :
      (rescanOctets l stored u).BookingsSound :=
    h.of_bookings ((congrArg State.bookings (rescanOctets_frame l stored u)).trans hu)
  cases ha with
  | frame f => exact takeFrame_keepsBookings f h
  | unknown tag code =>
    unfold request answerRequest
    split <;> exact h
  | notice n => exact takeNotice_keepsBookings n s h
  | expiry e => exact h.of_bookings (expire_bookings e s)
  | misdirected l => exact h
  | length l kind len => exact rescanned l _ rfl
  | crc l octets => exact rescanned l _ rfl
  | permitSent c => exact h.of_frame (completePermit_butPermits _ _)
  | begins =>
    unfold beginSending
    split
    · exact h
    · split <;> exact h
  | replySent => unfold completeReply; split <;> exact h
  | eventSent => unfold completeEvent; split <;> exact h
  | posting b => exact h.of_bookings (State.post_bookings ..)
  | lift c => exact h.of_frame (attributeLift_butEntries _ _)
  | tick holdLow => exact h.of_bookings (takeTick_bookings holdLow s)
  | reset trigger => exact takeReset_keepsBookings trigger h
  | resetEnd =>
    unfold endReset
    split
    · exact h
    · exact cleared_bookingsSound rfl

/-- Settles O7: the table changes by entries changed in place, a new entry under a new id, a purge and a reset; only live
entries are given another state, and a counted lift exhausts the entry whose quota it reaches. -/
theorem bookingsStaySound : Obligations.BookingsStaySound := fun _ _ hs h =>
  step_keeps State.BookingsSound (fun _ _ h => h) (fun _ _ h => h) takeNotice_keepsBookings
    (fun i s hs => (effect_acts i s).keepsBookings hs) hs h

end Sys2Proof.Machine
end

/-! ## The claimant of a sector (R105): O35 -/

section
namespace Sys2Proof.Machine

variable {table : List Booking} {k : Sector} {a b : Booking}

/-- R105: where a booking stands among the ACTIVE bookings of its sector: by class, then start, then id. -/
def Booking.rank (b : Booking) : ℕ ×ₗ ℕ ×ₗ ℕ := toLex (1 - classCode b.cls, toLex (b.start, b.id.toNat))

/-- R105: the rank of one booking below another's, written out. -/
theorem rank_lt_iff : a.rank < b.rank ↔
    (a.cls = .critical ∧ b.cls = .planned) ∨
    (a.cls = b.cls ∧ (a.start < b.start ∨ (a.start = b.start ∧ a.id.toNat < b.id.toNat))) := by
  unfold Booking.rank
  rw [Prod.Lex.toLex_lt_toLex, Prod.Lex.toLex_lt_toLex]
  cases a.cls <;> cases b.cls <;> simp [classCode]

theorem bookingBefore_iff : bookingBefore a b = true ↔ a.rank < b.rank := by
  rw [rank_lt_iff, bookingBefore]
  cases a.cls <;> cases b.cls <;> simp [BitVec.lt_def]

/-- R105: the ACTIVE bookings that name sector `k`. -/
def activeIn (table : List Booking) (k : Sector) : List Booking :=
  table.filter (fun b => b.sector == k && b.state == .active)

theorem mem_activeIn : b ∈ activeIn table k ↔ b ∈ table ∧ b.sector = k ∧ b.state = .active := by
  simp [activeIn]

/-- R105: the claimant is the booking of least rank. -/
theorem claimantOf_eq_argmin (table : List Booking) (k : Sector) :
    claimantOf table k = (activeIn table k).argmin Booking.rank := by
  unfold claimantOf List.argmin
  refine congrArg (fun f => (activeIn table k).foldl f none) (funext fun best => funext fun b => ?_)
  cases best with
  | none => rfl
  | some x => exact if_congr bookingBefore_iff rfl rfl

/-- Bookings of different ids have different ranks. -/
theorem rank_ne (h : a.id ≠ b.id) : a.rank ≠ b.rank := by
  unfold Booking.rank
  rw [ne_eq, toLex_inj, Prod.mk.injEq, toLex_inj, Prod.mk.injEq, BitVec.toNat_inj]
  exact fun heq => h heq.2.2

/-- Settles O35: the claimant is the ACTIVE booking of least rank, and ranks differ where ids do. -/
theorem claimantComesFirst : Obligations.ClaimantComesFirst := by
  intro table k hnodup
  rw [claimantOf_eq_argmin, List.argmin_eq_none]
  refine ⟨fun b hb => ?_, ?_⟩
  · obtain ⟨hmem, hsector, hstate⟩ := mem_activeIn.mp (List.argmin_mem hb)
    refine ⟨hmem, hsector, hstate, fun x hx hxk hxs hne => rank_lt_iff.mp ?_⟩
    have hle : b.rank ≤ x.rank := List.le_of_mem_argmin (mem_activeIn.mpr ⟨hx, hxk, hxs⟩) hb
    exact lt_of_le_of_ne hle (rank_ne fun hid => hne (List.inj_on_of_nodup_map hnodup hx hmem hid.symm))
  · rw [List.eq_nil_iff_forall_not_mem]
    simp only [mem_activeIn, not_and, ne_eq]

end Sys2Proof.Machine
end

/-! ## Changes of the booking table that a request makes (R161) -/

section
namespace Sys2Proof.Machine

variable {s t t' : State} {after : List Booking} {evs : List EventBody}

/-- R161: a change of the booking table, made by a request and answered. -/
theorem replied_changeBookings (s : State) (after : List Booking) (evs : List EventBody) (tag code : Byte)
    (data : List Byte) :
    ((s.hunting siteLink).changeBookings after evs).replied tag code data =
      { s.answered tag code .ok data with
        bookings := after
        events := (s.postAll evs).events
        overflow := (s.postAll evs).overflow
        inFlight := (s.changeBookings after evs).inFlight } := by
  obtain ⟨he, ho⟩ := postAll_congr (s := s) (t := s.hunting siteLink) evs rfl rfl rfl rfl rfl
  have hflight : ((s.hunting siteLink).changeBookings after evs).inFlight = (s.changeBookings after evs).inFlight := by
    unfold State.changeBookings
    rw [State.send_inFlight, State.send_inFlight, State.postAll_inFlight, State.postAll_inFlight]
    rfl
  rw [changeBookings_eq, he, ho, hflight]
  rfl

/-- R106: what the arbiter is told is a matter of the two tables, the entries and what is in flight. -/
theorem State.InformsArbiter.congr {s' : State} (h : s.InformsArbiter t) (hs : s'.bookings = s.bookings)
    (he : s'.entries = s.entries) (hb : t'.bookings = t.bookings) (hf : t'.inFlight = t.inFlight) :
    s'.InformsArbiter t' := by
  unfold State.InformsArbiter State.tableClaimant State.entry at *
  rw [hs, he, hb, hf]
  exact h

end Sys2Proof.Machine
end

/-! ## BOOK_CANCEL and BOOK_PURGE (R103, R104, R106): O31, O32 -/

section
namespace Sys2Proof.Machine

variable {s : State} {b : Booking}

/-! ### BOOK_CANCEL (R103) -/

theorem not_terminal_iff {st : BookingState} : ¬ terminal st ↔ liveBooking st = true := by
  rw [terminal, ← liveBooking_iff, Bool.not_eq_false]

/-- R103: the entry cancelled. -/
def Booking.cancelled (b : Booking) : Booking := { b with state := .cancelled, cause := .cancel }

/-- R103: a live entry is cancelled, and its event raised. -/
theorem cancelBooking_eq (hnodup : (s.bookings.map (·.id)).Nodup) (hb : b ∈ s.bookings)
    (hlive : liveBooking b.state = true) :
    cancelBooking b.id s = s.changeBookings (s.bookings.map fun x => if x.id = b.id then x.cancelled else x)
      [bookingChange (some b.state) b.cancelled] := by
  have hmoves : b.cancelled.state ≠ b.state := fun h => by rw [← h] at hlive; cases hlive
  have htable : s.bookings.map (fun x => if x.id = b.id then x.moveTo .cancelled .cancel else x) =
      s.bookings.map fun x => if x.id = b.id then x.cancelled else x := by
    refine List.map_congr_left fun x hx => ?_
    by_cases hid : x.id = b.id
    · rw [List.inj_on_of_nodup_map hnodup hx hb hid, if_pos rfl, if_pos rfl]
      exact if_neg hmoves.symm
    · rw [if_neg hid, if_neg hid]
  have hevents : bookingChanges s.bookings (s.bookings.map fun x => if x.id = b.id then x.cancelled else x) =
      [bookingChange (some b.state) b.cancelled] := by
    rw [bookingChanges_single hnodup hb (fun x _ hid => by rw [if_neg hid]) (by rw [if_pos rfl]; exact hmoves),
      if_pos rfl]
  rw [cancelBooking, htable, changeEvents_eq, hevents]

/-- R103: BOOK_CANCEL of an entry of the table. -/
theorem bookCancel_mem (hb : b ∈ s.bookings) (hnodup : (s.bookings.map (·.id)).Nodup) :
    bookCancel (octet2 b.id.toNat) s =
      if liveBooking b.state = true then accept (cancelBooking b.id s) else refuse s .wrongState := by
  simp only [bookCancel, cutFields_id, BitVec.ofNat_toNat, BitVec.setWidth_eq, booking_of_mem hb hnodup]

/-- R103: BOOK_CANCEL of an id without an entry. -/
theorem bookCancel_unknown {id : Half} (h : ∀ b ∈ s.bookings, b.id ≠ id) :
    bookCancel (octet2 id.toNat) s = refuse s .noSuchId := by
  simp only [bookCancel, cutFields_id, BitVec.ofNat_toNat, BitVec.setWidth_eq, booking_eq_none h]

/-- Settles O31: a live entry is cancelled in a change of the table, any other refused. -/
theorem bookingCancelled : Obligations.BookingCancelled := by
  intro s tag hready hroom
  have ⟨_, hflight, _⟩ := hready
  refine ⟨fun b hb hnodup hstate => ?_, fun b hb hnodup hstate => ?_, fun id hid => ?_⟩
  · have hlive := not_terminal_iff.mp hstate
    have hop : bookCancel (octet2 b.id.toNat) (s.hunting siteLink) =
        accept ((s.hunting siteLink).changeBookings
          (s.bookings.map fun x => if x.id = b.id then x.cancelled else x)
          [bookingChange (some b.state) b.cancelled]) := by
      rw [bookCancel_mem (s := s.hunting siteLink) hb hnodup, if_pos hlive,
        cancelBooking_eq (s := s.hunting siteLink) hnodup hb hlive]
      rfl
    refine ⟨_, (exec_bookCancel hready tag _).trans (congrArg _ (request_accept hroom hop)), ?_, ?_⟩
    · rw [replied_changeBookings]
      rfl
    · rw [replied_changeBookings]
      exact (changeBookings_informs hflight).congr rfl rfl (changeBookings_bookings ..).symm rfl
  · rw [exec_bookCancel hready, request_refuse hroom]
    rw [bookCancel_mem (s := s.hunting siteLink) hb hnodup]
    exact if_neg fun hlive => not_terminal_iff.mpr hlive hstate
  · rw [exec_bookCancel hready, request_refuse hroom (bookCancel_unknown (s := s.hunting siteLink) hid)]

/-! ### BOOK_PURGE (R104) -/

/-- R104: the entries that a purge keeps. -/
theorem bookPurge_nil (s : State) :
    bookPurge [] s = accept { s with bookings := s.bookings.filter fun b => liveBooking b.state }
      (octet1 (s.bookings.length - (s.bookings.filter fun b => liveBooking b.state).length)) := rfl

/-- Settles O32: the entries kept are the live ones, filtered out of the table. -/
theorem terminalBookingsPurged : Obligations.TerminalBookingsPurged := by
  intro s tag hready hroom _
  refine ⟨s.bookings.filter fun b => liveBooking b.state,
    s.bookings.length - (s.bookings.filter fun b => liveBooking b.state).length, ?_, List.filter_sublist,
    Nat.sub_add_cancel (List.length_filter_le _ _), fun b => ?_, fun b hb => ?_⟩
  · rw [exec_bookPurge hready, request_accept hroom (bookPurge_nil _)]
    rfl
  · rw [List.mem_filter, not_terminal_iff]
  · exact List.count_filter (not_terminal_iff.mp hb)

end Sys2Proof.Machine
end

/-! ## Window evaluations and crane conditions (R95 to R98, R106, R107): O33, O34 -/

section
namespace Sys2Proof.Machine

variable {s : State} {c : Crane} {b : Booking}

/-! ### Window evaluations (R95, R96, R98) -/

/-- R95: a window evaluation is a change of the table. -/
theorem evaluateWindows_eq (cause : BookingCause) (s : State) :
    evaluateWindows cause s =
      s.changeBookings (s.bookings.map (s.judges cause)) (bookingChanges s.bookings (s.bookings.map (s.judges cause))) := by
  rw [evaluateWindows, changeEvents_eq, show s.evaluateBooking cause = s.judges cause from
    funext (evaluateBooking_eq s cause)]

/-- R96: with the clock UNSET nothing is judged. -/
theorem evaluateWindows_unset (h : s.clockSet = false) (cause : BookingCause) : evaluateWindows cause s = s := by
  have hsame : s.bookings.map (s.evaluateBooking cause) = s.bookings.map (Booking.recounted (·.done)) :=
    List.map_congr_left fun b _ => if_neg (by simp [h])
  have hid : s.bookings.map (Booking.recounted (·.done)) = s.bookings := List.map_id _
  rw [evaluateWindows, hsame, changeBookings_recounted, hid]

/-- R96: with the clock SET a live entry is judged by its window and its crane. -/
theorem judges_set (h : s.clockSet = true) (cause : BookingCause) (b : Booking) :
    s.judges cause b =
      if b.state = .exhausted ∨ b.state = .expired ∨ b.state = .cancelled then b
      else if s.clock.toNat / 60 < b.start then b.entering .waiting cause
      else if b.stop ≤ s.clock.toNat / 60 then b.entering .expired cause
      else if s.craneCondition b.crane = true then b.entering .active cause
      else b.entering .suspended cause := by
  simp only [State.judges, h, Bool.true_eq_false, false_or]

/-- R98, R165: TIME_SET loads the clock and judges the table by it. -/
theorem timeSet_octets (seconds : BitVec 32) :
    timeSet (octet4 seconds.toNat) s =
      accept (evaluateWindows .clock { s with clock := seconds, clockSet := true }) := by
  rw [timeSet, withOperands_cut (cutFields_last4 _), numberOf_octet4 seconds.isLt]
  simp [setClock, BitVec.ofNat_toNat]

/-- Settles O33: a window evaluation is a change of the table, at the clock the event leaves. -/
theorem windowsEvaluated : Obligations.WindowsEvaluated := by
  intro s tag seconds hready judged told
  have ⟨_, hflight, _⟩ := hready
  refine ⟨fun hset => ⟨_, exec_minuteBoundary hready, ?_⟩, fun hunset => ?_, fun hroom => ?_⟩
  · have hjudged : s.bookings.map (s.judges .window) = s.bookings.map (judged s.clock .window) :=
      List.map_congr_left fun b _ => judges_set hset _ b
    rw [takeMinute, evaluateWindows_eq, hjudged]
    refine ⟨?_, ?_, ?_, changeBookings_informs hflight⟩
    · rw [changeBookings_eq]
    · rw [changeBookings_eq]
    · rw [changeBookings_eq]
  · exact (exec_minuteBoundary hready).trans (congrArg _ (evaluateWindows_unset hunset _))
  · obtain ⟨u, hu⟩ : ∃ u : State, u = { s with clock := seconds, clockSet := true } := ⟨_, rfl⟩
    have hjudged : u.bookings.map (u.judges .clock) = s.bookings.map (judged seconds .clock) := by
      subst hu
      exact List.map_congr_left fun b _ => judges_set rfl _ b
    have hop : timeSet (octet4 seconds.toNat) (s.hunting siteLink) =
        accept ((u.hunting siteLink).changeBookings (s.bookings.map (judged seconds .clock))
          (bookingChanges s.bookings (s.bookings.map (judged seconds .clock)))) := by
      rw [timeSet_octets, evaluateWindows_eq, ← hjudged, hu]
      rfl
    refine ⟨_, (exec_timeSet hready tag _).trans (congrArg _ (request_accept hroom hop)), ?_, ?_, ?_, ?_⟩
    · rw [replied_changeBookings, hu]
      rfl
    · rw [replied_changeBookings, hu]
    · rw [replied_changeBookings, hu]
    · rw [replied_changeBookings, hu]
      exact (changeBookings_informs (s := { s with clock := seconds, clockSet := true }) hflight).congr rfl rfl
        (changeBookings_bookings ..).symm rfl

/-! ### Crane conditions (R97) -/

theorem craneCondition_iff : s.craneCondition c = true ↔ s.CanWork c := by
  unfold State.craneCondition State.CanWork
  rw [Bool.and_eq_true, Bool.and_eq_true, Bool.or_eq_true, beq_iff_eq, beq_iff_eq, beq_iff_eq, located_iff, and_assoc]

/-- R97: an ACTIVE entry of the crane is suspended, a SUSPENDED one activated. -/
theorem recondition_eq (s : State) (c : Crane) (b : Booking) :
    s.recondition c b =
      if b.crane = c ∧ b.state = .active ∧ s.craneCondition c = false then
        { b with state := .suspended, cause := .crane }
      else if b.crane = c ∧ b.state = .suspended ∧ s.craneCondition c = true then
        { b with state := .active, cause := .crane }
      else b := by
  unfold State.recondition
  by_cases hc : b.crane = c
  · cases hs : b.state with
    | active => cases s.craneCondition c <;> simp [hc, hs, Booking.moveTo]
    | suspended => cases s.craneCondition c <;> simp [hc, hs, Booking.moveTo]
    | _ => simp
  · simp [hc]

/-- R97: a change of a crane's condition is a change of the table. -/
theorem takeCraneCondition_eq (c : Crane) (s : State) :
    takeCraneCondition c s = s.changeBookings (s.bookings.map (s.recondition c))
      (bookingChanges s.bookings (s.bookings.map (s.recondition c))) := by
  rw [takeCraneCondition, changeEvents_eq]

/-- Settles O34: of the crane's entries the ACTIVE are suspended or the SUSPENDED activated, in a change of the table. -/
theorem craneConditionApplied : Obligations.CraneConditionApplied := by
  intro s c hready
  have ⟨_, hflight, _⟩ := hready
  refine ⟨craneCondition_iff, _, exec_craneConditionChange hready c, ?_, changeBookings_informs hflight⟩
  rw [takeCraneCondition_eq, show s.recondition c = _ from funext (recondition_eq s c), changeBookings_bookings]
  exact changeBookings_eq

end Sys2Proof.Machine
end

/-! ## BOOK_ADD (R93, R94, R106, R107): O30 -/

section
namespace Sys2Proof.Machine

variable {s : State} {k : Sector} {b : Booking} {table : List Booking} {evs : List EventBody} {ops : List Byte} {cls : Nat}

/-! ### A table with a new entry (R105, R106) -/

/-- R105: a new entry is the claimant of its sector, or no claimant changes. -/
theorem claimantOf_added (table : List Booking) (b : Booking) (k : Sector) :
    claimantOf (table ++ [b]) k = claimantOf table k ∨ b.sector = k ∧ claimantOf (table ++ [b]) k = some b := by
  have hactive : activeIn (table ++ [b]) k = activeIn table k ++ activeIn [b] k := List.filter_append ..
  rw [claimantOf_eq_argmin, claimantOf_eq_argmin, hactive]
  by_cases hb : b ∈ activeIn [b] k
  · have hsingle : activeIn [b] k = [b] := List.filter_eq_self.mpr (by simpa [activeIn] using hb)
    rw [hsingle, List.argmin_concat]
    refine or_iff_not_imp_left.mpr fun hchanges => ⟨(mem_activeIn.mp hb).2.1, ?_⟩
    cases hbest : (activeIn table k).argmin Booking.rank with
    | none => rfl
    | some x =>
      rw [hbest] at hchanges
      dsimp only at hchanges ⊢
      split at hchanges
      · next hlt => rw [if_pos hlt]
      · exact absurd rfl hchanges
  · have hnone : activeIn [b] k = [] := by
      rw [List.eq_nil_iff_forall_not_mem]
      rintro x hx
      obtain rfl : x = b := List.mem_singleton.mp (mem_activeIn.mp hx).1
      exact hb hx
    rw [hnone, List.append_nil]
    exact .inl rfl

theorem claimantOf_mem (h : claimantOf table k = some b) : b ∈ table := by
  rw [claimantOf_eq_argmin] at h
  exact (mem_activeIn.mp (List.argmin_mem h)).1

/-- R106: no entry leaves ACTIVE where one is added. -/
theorem leftActive_added (table : List Booking) (b : Booking) (k : Sector) :
    leftActive k table (table ++ [b]) = [] := by
  have hzip : table.zip (table ++ [b]) = table.map fun x => (x, x) := by
    have hsplit := List.zip_append (l₁ := table) (r₁ := []) (l₂ := table) (r₂ := [b]) rfl
    rw [List.append_nil, List.zip_nil_left, List.append_nil] at hsplit
    rw [hsplit, ← zip_map_self, List.map_id']
  rw [leftActive, hzip, List.filterMap_map, List.filterMap_eq_nil_iff]
  exact fun x _ => if_neg fun h => h.2.2 h.2.1

/-- R106: a sector is owed a report exactly when the new entry becomes its claimant. -/
theorem reportDue_added (hnew : ∀ x ∈ s.bookings, x.id ≠ b.id) :
    s.reportDue s.bookings (s.bookings ++ [b]) k = true ↔
      k = b.sector ∧ claimantOf (s.bookings ++ [b]) b.sector = some b := by
  rw [reportDue_iff, leftActive_added]
  simp only [List.not_mem_nil, false_and, exists_false, or_false]
  constructor
  · intro hchanges
    rcases claimantOf_added s.bookings b k with hsame | ⟨rfl, hclaims⟩
    · exact absurd (congrArg _ hsame) hchanges
    · exact ⟨rfl, hclaims⟩
  · rintro ⟨rfl, hclaims⟩ heq
    rw [hclaims, Option.map_some, eq_comm, Option.map_eq_some_iff] at heq
    obtain ⟨x, hx, hsame⟩ := heq
    exact hnew x (claimantOf_mem hx) (congrArg Claimant.booking hsame)

/-- R106: the report of a new entry. -/
theorem changeBookings_added_inFlight (hq : s.inFlight = []) (hnew : ∀ x ∈ s.bookings, x.id ≠ b.id) :
    (s.changeBookings (s.bookings ++ [b]) evs).inFlight =
      if claimantOf (s.bookings ++ [b]) b.sector = some b then
        [.claimant b.sector [] (some { booking := b.id, crane := b.crane })]
      else [] := by
  have hdue : s.reportsDue s.bookings (s.bookings ++ [b]) =
      if claimantOf (s.bookings ++ [b]) b.sector = some b then [b.sector] else [] := by
    unfold State.reportsDue
    split
    · next hclaims =>
      have hone : s.reportDue s.bookings (s.bookings ++ [b]) = fun k => decide (k = b.sector) := by
        funext k
        rw [Bool.eq_iff_iff, reportDue_added hnew, decide_eq_true_iff]
        exact and_iff_left hclaims
      rw [hone, List.filter_eq, List.count_eq_one_of_mem allSectors_nodup (mem_allSectors _), List.replicate_one]
    · next hclaims =>
      exact List.filter_eq_nil_iff.mpr fun k _ hk => hclaims ((reportDue_added hnew).mp hk).2
  unfold State.changeBookings
  rw [State.send_inFlight, State.postAll_inFlight, hq, List.nil_append, hdue]
  split
  · next hclaims => rw [List.map_singleton, leftActive_added, hclaims]; rfl
  · rfl

/-! ### The operands (R91, R159) -/

/-- The fields of BOOK_ADD's operands, with any class code. -/
theorem cutFields_booking (h : b.Fits) (hcls : cls < 256) :
    cutFields bookingWidths (octet2 b.id.toNat ++ octet1 b.crane.val ++ octet1 b.sector.val ++ octet4 b.start
      ++ octet4 b.stop ++ octet1 b.quota ++ octet1 cls ++ octet2 b.maxLoad) =
      some [b.id.toNat, b.crane.val, b.sector.val, b.start, b.stop, b.quota, cls, b.maxLoad] := by
  obtain ⟨hstart, hstop, hquota, hload⟩ := h
  have hcrane : b.crane.val < 256 := b.crane.isLt.trans (by decide)
  have hsector : b.sector.val < 256 := b.sector.isLt.trans (by decide)
  simp only [bookingWidths, List.append_assoc, cutFields_octet4, cutFields_octet2, cutFields_octet1, cutFields_last2,
    Option.map_some, numberOf_octet4, numberOf_octet2, numberOf_octet1, numberOf_octet2 b.id.isLt, *]

theorem classCode_le (x : BookingClass) : classCode x ≤ 1 := by cases x <;> decide

/-- R91: a booking whose fields lie in their ranges is read, with no lift done. -/
theorem readBooking_inRange (h : b.InRange) :
    readBooking b.id.toNat b.crane b.sector b.start b.stop b.quota (classCode b.cls) b.maxLoad =
      some { b with state := .waiting, done := 0, cause := .add } := by
  obtain ⟨hid, hwindow, hlong, hstop, hquota, hload⟩ := h
  have hcls : (if classCode b.cls = 0 then BookingClass.planned else .critical) = b.cls := by cases b.cls <;> rfl
  have hid' : 1 ≤ b.id.toNat ∧ b.id.toNat ≤ 65535 := by bv_omega
  unfold readBooking
  rw [if_pos, hcls, BitVec.ofNat_toNat, BitVec.setWidth_eq]
  simp only [Bool.and_eq_true, within_iff, decide_eq_true_eq, Config.longestWindow, Config.lastMinute]
  exact ⟨⟨⟨⟨⟨⟨⟨hid', hwindow⟩, by omega⟩, by omega⟩, by omega⟩, by omega⟩, Nat.zero_le _, classCode_le _⟩, by omega⟩

/-- R91: nothing is read with a field out of range, the class code among them. -/
theorem readBooking_outOfRange (h : ¬ b.InRange ∨ 1 < cls) :
    readBooking b.id.toNat b.crane b.sector b.start b.stop b.quota cls b.maxLoad = none := by
  refine if_neg fun hv => ?_
  simp only [Bool.and_eq_true, within_iff, decide_eq_true_eq, Config.longestWindow, Config.lastMinute] at hv
  obtain ⟨⟨⟨⟨⟨⟨⟨hid, hwindow⟩, hlong⟩, -⟩, hstop⟩, hquota⟩, hcls⟩, hload⟩ := hv
  refine h.elim (fun hrange => hrange ⟨?_, hwindow, by omega, hstop.2, hquota.2, hload.2⟩) (by omega)
  rintro h0
  rw [h0] at hid
  exact absurd hid.1 (by decide)

/-! ### The checks in their order (R93) -/

/-- R93: the crane and the sector of a booking match the tables. -/
def State.matched (s : State) (b : Booking) : Prop :=
  (s.crane b.crane).present = true ∧ s.isMember b.sector b.crane = true

/-- R93 checks 1 and 2: numbers beyond the tables. -/
theorem bookAdd_badIndex {crane sector : Nat} {id others : List Byte} (hc : crane < 256) (hk : sector < 256)
    (h : 7 < crane ∨ 15 < sector) (hid : id.length = 2) (ho : others.length = 12) :
    bookAdd (id ++ octet1 crane ++ octet1 sector ++ others) s = refuse s .badIndex := by
  obtain ⟨rest, hrest, hlength⟩ := cutFields_right (ws := [4, 4, 1, 1, 2]) ho
  obtain ⟨start, stop, quota, cls, maxLoad, rfl⟩ : ∃ v w x y z, rest = [v, w, x, y, z] := by
    match rest, hlength with
    | [v, w, x, y, z], _ => exact ⟨v, w, x, y, z, rfl⟩
  have hcut : cutFields bookingWidths (id ++ octet1 crane ++ octet1 sector ++ others) =
      some [numberOf id, crane, sector, start, stop, quota, cls, maxLoad] := by
    have hfirst := cutFields_append [1, 1, 4, 4, 1, 1, 2] id (octet1 crane ++ (octet1 sector ++ others))
    rw [hid] at hfirst
    rw [List.append_assoc, List.append_assoc, bookingWidths, hfirst, cutFields_octet1, cutFields_octet1, hrest,
      numberOf_octet1 hc, numberOf_octet1 hk]
    rfl
  simp only [bookAdd, hcut]
  exact if_pos h

/-- The fields that a request of BOOK_ADD gives. -/
def Booking.GivenBy (b : Booking) (cls : Nat) (ops : List Byte) : Prop :=
  cutFields bookingWidths ops =
    some [b.id.toNat, b.crane.val, b.sector.val, b.start, b.stop, b.quota, cls, b.maxLoad]

theorem bookingOctets_givenBy (h : b.Fits) : b.GivenBy (classCode b.cls) (bookingOctets b) :=
  cutFields_booking h ((classCode_le _).trans_lt (by decide))

/-- R93 check 2: a crane that is absent or no member of the sector. -/
theorem bookAdd_unmatched (hg : b.GivenBy cls ops) (h : ¬ s.matched b) : bookAdd ops s = refuse s .badIndex := by
  have hno : (!((s.crane b.crane).present && s.isMember b.sector b.crane)) = true := by
    rwa [Bool.not_eq_true', Bool.eq_false_iff, ne_eq, Bool.and_eq_true]
  unfold Booking.GivenBy at hg
  simp only [bookAdd, hg, Fin.ofNat_val_eq_self]
  rw [if_neg (by omega), if_pos hno]

/-- R93 check 3: a field out of range. -/
theorem bookAdd_unread (hg : b.GivenBy cls ops) (hm : s.matched b) (h : ¬ b.InRange ∨ 1 < cls) :
    bookAdd ops s = refuse s .badValue := by
  obtain ⟨hpresent, hmember⟩ := hm
  unfold Booking.GivenBy at hg
  simp only [bookAdd, hg, Fin.ofNat_val_eq_self, hpresent, hmember, readBooking_outOfRange h]
  rw [if_neg (by omega)]
  rfl

/-- R93 checks 4 to 6, of a booking in range. -/
theorem bookAdd_read (hf : b.Fits) (hm : s.matched b) (h : b.InRange) :
    bookAdd (bookingOctets b) s =
      if s.bookings.any (fun x => x.id == b.id) = true then refuse s .duplicateId
      else if s.clockSet = true ∧ b.stop ≤ s.siteMinute then refuse s .pastWindow
      else if 64 ≤ s.bookings.length then refuse s .tableFull
      else accept (addBooking b s) (octet1 (bookingCode (s.newBookingState b))) := by
  obtain ⟨hpresent, hmember⟩ := hm
  have hg := bookingOctets_givenBy hf
  unfold Booking.GivenBy at hg
  simp only [bookAdd, hg, Fin.ofNat_val_eq_self, hpresent, hmember, readBooking_inRange h]
  rw [if_neg (by omega)]
  rfl

/-! ### The new entry (R94) -/

/-- R94: the entry that an accepted booking becomes. -/
def State.admitted (s : State) (b : Booking) : Booking :=
  { b with
    done := 0, cause := .add
    state := if s.clockSet = false ∨ s.clock.toNat / 60 < b.start then .waiting
      else if s.craneCondition b.crane = true then .active else .suspended }

/-- R94: the state of a new booking whose window has not passed. -/
theorem newBookingState_eq (h : s.clockSet = true → s.clock.toNat / 60 < b.stop) :
    s.newBookingState b = (s.admitted b).state := by
  unfold State.newBookingState State.windowState State.siteMinute State.admitted
  by_cases hset : s.clockSet = true
  · have hopen : ¬ b.stop ≤ s.clock.toNat / 60 := Nat.not_le.mpr (h hset)
    simp only [hset, if_true, Bool.true_eq_false, false_or, if_neg hopen]
  · rw [if_neg hset, if_pos (.inl (by simpa using hset))]

/-- R94, R107: a new booking is a change of the table with one event. -/
theorem addBooking_eq (h : s.clockSet = true → s.clock.toNat / 60 < b.stop) :
    addBooking b s = s.changeBookings (s.bookings ++ [s.admitted b]) [bookingChange none (s.admitted b)] := by
  have hnew : ({ b with state := s.newBookingState b, done := 0, cause := .add } : Booking) = s.admitted b := by
    rw [newBookingState_eq h]
    rfl
  have hevent (x : Booking) : bookingEvent 15 x = bookingChange none x := by
    simp [bookingEvent, bookingChange, eventOf]
  rw [addBooking, hnew, hevent]

/-! ### The answers to a booking in range (R93, R94) -/

section
variable (hf : b.Fits) (hm : s.matched b) (hr : b.InRange)
include hf hm hr

theorem bookAdd_duplicate (hid : ∃ x ∈ s.bookings, x.id = b.id) :
    bookAdd (bookingOctets b) s = refuse s .duplicateId :=
  (bookAdd_read hf hm hr).trans (if_pos (by simpa using hid))

theorem bookAdd_fresh (hid : ∀ x ∈ s.bookings, x.id ≠ b.id) :
    bookAdd (bookingOctets b) s =
      if s.clockSet = true ∧ b.stop ≤ s.siteMinute then refuse s .pastWindow
      else if 64 ≤ s.bookings.length then refuse s .tableFull
      else accept (addBooking b s) (octet1 (bookingCode (s.newBookingState b))) :=
  (bookAdd_read hf hm hr).trans (if_neg (by simpa using hid))

theorem bookAdd_past (hid : ∀ x ∈ s.bookings, x.id ≠ b.id) (hset : s.clockSet = true)
    (hpast : b.stop ≤ s.clock.toNat / 60) : bookAdd (bookingOctets b) s = refuse s .pastWindow :=
  (bookAdd_fresh hf hm hr hid).trans (if_pos ⟨hset, hpast⟩)

theorem bookAdd_full (hid : ∀ x ∈ s.bookings, x.id ≠ b.id)
    (hopen : s.clockSet = true → s.clock.toNat / 60 < b.stop) (hl : 64 ≤ s.bookings.length) :
    bookAdd (bookingOctets b) s = refuse s .tableFull := by
  rw [bookAdd_fresh hf hm hr hid, if_neg fun h => Nat.not_le.mpr (hopen h.1) h.2, if_pos hl]

theorem bookAdd_stores (hid : ∀ x ∈ s.bookings, x.id ≠ b.id)
    (hopen : s.clockSet = true → s.clock.toNat / 60 < b.stop) (hl : s.bookings.length < 64) :
    bookAdd (bookingOctets b) s =
      accept (s.changeBookings (s.bookings ++ [s.admitted b]) [bookingChange none (s.admitted b)])
        (octet1 (bookingCode (s.admitted b).state)) := by
  rw [bookAdd_fresh hf hm hr hid, if_neg fun h => Nat.not_le.mpr (hopen h.1) h.2, if_neg (Nat.not_le.mpr hl),
    addBooking_eq hopen, newBookingState_eq hopen]

end

/-- Settles O30: the checks refuse one after the other; a booking that passes them all enters the table in a change
that raises its event and tells the arbiter when it is the claimant. -/
theorem bookAddStores : Obligations.BookAddStores := by
  intro s tag b hready hroom hfits matched new
  have ⟨_, hflight, _⟩ := hready
  have hgiven := bookingOctets_givenBy hfits
  have refused {ops : List Byte} {r : Result}
      (h : bookAdd ops (s.hunting siteLink) = refuse (s.hunting siteLink) r) :
      exec (.bookAdd tag ops) s = .next (s.answered tag 0x20#8 r []) := by
    rw [exec_bookAdd hready, request_refuse hroom h]
  refine ⟨fun hm hr hid hopen hl => ?_, fun hm => refused (bookAdd_unmatched hgiven hm),
    fun hm hr => refused (bookAdd_unread hgiven hm (.inl hr)),
    fun hm hr hid => refused (bookAdd_duplicate hfits hm hr hid),
    fun hm hr hid hset hpast => refused (bookAdd_past hfits hm hr hid hset hpast),
    fun hm hr hid hopen hl => refused (bookAdd_full hfits hm hr hid hopen hl),
    fun crane sector id others hc hk h hid ho => refused (bookAdd_badIndex hc hk h hid ho),
    fun cls hcls h256 hm => refused (bookAdd_unread (cutFields_booking hfits h256) hm (.inr hcls))⟩
  have hop : bookAdd (bookingOctets b) (s.hunting siteLink) =
      accept ((s.hunting siteLink).changeBookings (s.bookings ++ [new]) [bookingChange none new])
        (octet1 (bookingCode new.state)) := bookAdd_stores (s := s.hunting siteLink) hfits hm hr hid hopen hl
  rw [exec_bookAdd hready, request_accept hroom hop, replied_changeBookings,
    changeBookings_added_inFlight (b := new) hflight hid]
  rfl

end Sys2Proof.Machine
end

/-! ## WIND frames and their samples (R110 to R117) -/

section
namespace Sys2Proof.Machine

variable {s : State} {c : Crane} {f : WindFrame} {p : WindProfile} {w : WindRecord} {x : Nat}

/-! ### One sample written (R113 to R116) -/

/-- R114: a sample that fills the block closes it. -/
theorem accumulate_closes (h : p.blockLength ≤ w.accCount + 1) :
    accumulate p w x =
      { w with accSum := 0, accCount := 0, coarse := ringPush w.coarse ((w.accSum + x) / p.blockLength) } :=
  if_pos h

/-- R114: a sample that does not fill the block is added to it. -/
theorem accumulate_adds (h : ¬ p.blockLength ≤ w.accCount + 1) :
    accumulate p w x = { w with accSum := w.accSum + x, accCount := w.accCount + 1 } :=
  if_neg h

/-- R114: the accumulator and the block means are all that it touches. -/
theorem accumulate_frame (p : WindProfile) (w : WindRecord) (x : Nat) :
    accumulate p w x =
      { w with accSum := (accumulate p w x).accSum, accCount := (accumulate p w x).accCount,
               coarse := (accumulate p w x).coarse } := by
  by_cases h : p.blockLength ≤ w.accCount + 1
  · simp only [accumulate_closes h]
  · simp only [accumulate_adds h]

/-- R113 to R116: what a sample does to a record: the fine ring takes it, the accumulator takes it, and the figures are
recomputed from the two. -/
theorem writeSample_eq (p : WindProfile) (staleTime : Nat) (w : WindRecord) (x : Nat) :
    let v := accumulate p { w with fine := ringPush w.fine x } x
    writeSample p staleTime w x =
      { w with fine := ringPush w.fine x, accSum := v.accSum, accCount := v.accCount, coarse := v.coarse,
               ownStale := some staleTime, fresh := true, ownGust := some (gustOf p v),
               ownMean := some (meanOf p v (gustOf p v)) } := by
  have hframe := accumulate_frame p { w with fine := ringPush w.fine x } x
  dsimp only [writeSample]
  generalize accumulate p _ x = v at hframe ⊢
  rw [hframe]

/-- R113: a ring holds no more values than it has slots. -/
theorem ringPush_fill_le {n : Nat} [NeZero n] (r : Ring n) (x : Nat) : (ringPush r x).fill ≤ n := Nat.min_le_right _ _

/-- R114: under a valid profile a sample of at most 600 leaves a sound accumulator short of a block. -/
theorem accumulate_bounds (hp : profileValid p = true) (h : w.Sound) (hx : x ≤ 600) :
    (accumulate p w x).accCount ≤ 63 ∧ (accumulate p w x).accSum ≤ 600 * (accumulate p w x).accCount ∧
      (accumulate p w x).coarse.fill ≤ 64 ∧ (accumulate p w x).accCount < p.blockLength := by
  obtain ⟨-, ⟨hshort, hlong⟩, -⟩ := (profileValid_iff p).mp hp
  obtain ⟨-, hcoarse, -, hsum, -⟩ := h
  by_cases hc : p.blockLength ≤ w.accCount + 1
  · rw [accumulate_closes hc]
    exact ⟨Nat.zero_le _, Nat.zero_le _, ringPush_fill_le _ _, by dsimp only; omega⟩
  · rw [accumulate_adds hc]
    exact ⟨by dsimp only; omega, by dsimp only; omega, hcoarse, by dsimp only; omega⟩

/-- R109, R114: a sample leaves a sound record, with its accumulator short of a block. -/
theorem writeSample_sound (staleTime : Nat) (hp : profileValid p = true) (h : w.Sound) (hx : x ≤ 600) :
    (writeSample p staleTime w x).Sound ∧ (writeSample p staleTime w x).accCount < p.blockLength := by
  obtain ⟨-, hcoarse, hcount, hsum, hfigures⟩ := h
  have hpushed : ({ w with fine := ringPush w.fine x } : WindRecord).Sound :=
    ⟨ringPush_fill_le _ _, hcoarse, hcount, hsum, hfigures⟩
  obtain ⟨hcount', hsum', hcoarse', hshort⟩ := accumulate_bounds hp hpushed hx
  rw [writeSample_eq]
  exact ⟨⟨ringPush_fill_le _ _, hcoarse', hcount', hsum', rfl, rfl, rfl⟩, hshort⟩

/-- R110: the history and the figures are all that a sample touches. -/
theorem writeSample_frame (p : WindProfile) (staleTime : Nat) (w : WindRecord) (x : Nat) :
    let v := writeSample p staleTime w x
    v = { w with fine := v.fine, accSum := v.accSum, accCount := v.accCount, coarse := v.coarse,
                 ownStale := some staleTime, fresh := true, ownGust := v.ownGust, ownMean := v.ownMean } := by
  dsimp only
  rw [writeSample_eq]

/-- R113: the fine ring after a sample. -/
theorem writeSample_fine (p : WindProfile) (staleTime : Nat) (w : WindRecord) (x : Nat) :
    (writeSample p staleTime w x).fine = ringPush w.fine x := by rw [writeSample_eq]

/-- R114: the accumulator and the block means after a sample that fills the block. -/
theorem writeSample_closes (p : WindProfile) (staleTime : Nat) (w : WindRecord) (x : Nat)
    (h : p.blockLength ≤ w.accCount + 1) :
    let v := writeSample p staleTime w x
    v.accSum = 0 ∧ v.accCount = 0 ∧ v.coarse = ringPush w.coarse ((w.accSum + x) / p.blockLength) := by
  have hclosed := accumulate_closes (w := { w with fine := ringPush w.fine x }) (x := x) h
  simp only [writeSample_eq, hclosed, and_self]

/-- R114: the same after a sample that does not fill it. -/
theorem writeSample_adds (p : WindProfile) (staleTime : Nat) (w : WindRecord) (x : Nat)
    (h : ¬ p.blockLength ≤ w.accCount + 1) :
    let v := writeSample p staleTime w x
    v.accSum = w.accSum + x ∧ v.accCount = w.accCount + 1 ∧ v.coarse = w.coarse := by
  have hadded := accumulate_adds (w := { w with fine := ringPush w.fine x }) (x := x) h
  simp only [writeSample_eq, hadded, and_self]

/-- R115: the own gust after a sample. -/
theorem writeSample_ownGust (p : WindProfile) (staleTime : Nat) (w : WindRecord) (x : Nat) :
    let v := writeSample p staleTime w x
    v.ownGust = some (ringAverage v.fine (min v.fine.fill p.gustWindow)) := rfl

/-- R116: the own mean after a sample. -/
theorem writeSample_ownMean (p : WindProfile) (staleTime : Nat) (w : WindRecord) (x : Nat) :
    let v := writeSample p staleTime w x
    v.ownMean = if v.coarse.fill = 0 then v.ownGust else some (ringAverage v.coarse (min v.coarse.fill p.meanBlocks)) :=
  apply_ite some _ _ _

/-! ### One WIND frame (R110 to R112) -/

/-- R112: the sample of a speed, its excursion mark and its RANGE event. -/
theorem clampSpeed_eq (c : Crane) (mark : Bool) (speed : Nat) :
    clampSpeed c mark speed =
      (min speed 600, decide (600 < speed),
        if 600 < speed ∧ mark = false then [eventOf .range (some c) none 3 speed] else []) := by
  by_cases h : 600 < speed
  · simp only [clampSpeed, gt_iff_lt, h, if_true, Nat.min_eq_right h.le, decide_true, true_and]
    cases mark <;> rfl
  · simp only [clampSpeed, gt_iff_lt, h, Nat.min_eq_left (not_lt.mp h), decide_false, false_and, if_false]

/-- R111, R112: a wind record that has taken the sequence of a frame and the mark of its speed. -/
def WindRecord.marked (w : WindRecord) (f : WindFrame) : WindRecord :=
  { w with seqRef := some f.seq, excursion := decide (600 < f.speed.toNat) }

/-- R112: the RANGE event of a frame's speed. -/
def WindRecord.rangeEvents (w : WindRecord) (c : Crane) (f : WindFrame) : List EventBody :=
  if 600 < f.speed.toNat ∧ w.excursion = false then [eventOf .range (some c) none 3 f.speed.toNat] else []

/-- R110: the state in which a frame's sample calls for a selection of the sources. -/
def State.sampled (s : State) (c : Crane) (f : WindFrame) : State :=
  (s.setWind c (writeSample (s.profileOf c) s.site.windStale ((s.windOf c).marked f) (min f.speed.toNat 600))).postAll
    ((s.windOf c).rangeEvents c f)

/-- R111: a sequence that is not accepted leaves everything as it is. -/
theorem takeWind_refused (h : seqAccepted (s.windOf c).seqRef f.seq = false) : takeWind c f s = s :=
  if_pos (by rw [h]; rfl)

/-- R110: a frame whose anemometer is not ok only gives its sequence. -/
theorem takeWind_faulty (h : seqAccepted (s.windOf c).seqRef f.seq = true) (ha : f.anemometerOk = false) :
    takeWind c f s = s.setWind c { s.windOf c with seqRef := some f.seq } := by
  simp [takeWind, h, ha]

/-- R110: under an invalid profile the speed is marked and no sample written. -/
theorem takeWind_unprofiled (h : seqAccepted (s.windOf c).seqRef f.seq = true) (ha : f.anemometerOk = true)
    (hp : profileValid (s.profileOf c) = false) :
    takeWind c f s = (s.setWind c ((s.windOf c).marked f)).postAll ((s.windOf c).rangeEvents c f) := by
  simp [takeWind, h, ha, hp, clampSpeed_eq, WindRecord.marked, WindRecord.rangeEvents]

/-- R110: under a valid profile the sample is written and the sources selected. -/
theorem takeWind_sampled (h : seqAccepted (s.windOf c).seqRef f.seq = true) (ha : f.anemometerOk = true)
    (hp : profileValid (s.profileOf c) = true) : takeWind c f s = selectSources (some c) (s.sampled c f) := by
  simp [takeWind, h, ha, hp, clampSpeed_eq, State.sampled, WindRecord.marked, WindRecord.rangeEvents]

end Sys2Proof.Machine
end

/-! ## O8: the wind records stay sound (R109, R114, R117, R118) -/

section
namespace Sys2Proof.Machine

variable {s t : State} {c : Crane} {r : CraneRecord} {p : WindProfile} {w : WindRecord}

/-! ### What the records' soundness reads -/

/-- What `State.WindsSound` asks of the wind record of a crane with a crane record and a profile. -/
def WindRecord.SoundFor (w : WindRecord) (r : CraneRecord) (p : WindProfile) : Prop :=
  w.Sound ∧ (r.present = true → profileValid p = true → w.accCount < p.blockLength)

theorem windsSound_iff : s.WindsSound ↔ ∀ d, (s.windOf d).SoundFor (s.crane d) (s.profileOf d) := Iff.rfl

/-- R109: a wind record without its sequence reference, its mark and source, and its state machine, of which soundness
asks nothing. -/
def WindRecord.history (w : WindRecord) : WindRecord :=
  { w with seqRef := none, excursion := false, source := .none, state := .stop, stopCount := 0, alertCount := 0,
           calmCount := 0, recovery := none, vaneDelay := none, vaneWait := false, vaneTimeout := none }

theorem WindRecord.Sound.of_history {w' : WindRecord} (h : w.Sound) (he : w'.history = w.history) : w'.Sound := by
  have hblank : w.history.Sound := h
  exact show w'.history.Sound from he ▸ hblank

theorem WindRecord.SoundFor.of_history {w' : WindRecord} (h : w.SoundFor r p) (he : w'.history = w.history) :
    w'.SoundFor r p := by
  have hblank : w.history.SoundFor r p := h
  exact show w'.history.SoundFor r p from he ▸ hblank

/-- What `State.WindsSound` reads: the crane records, the profiles and the histories. -/
def State.windView (s : State) : Bank 8 CraneRecord × Bank 4 WindProfile × (Crane → WindRecord) :=
  (s.cranes, s.profiles, fun d => (s.windOf d).history)

theorem State.WindsSound.of_view (h : s.WindsSound) (hv : t.windView = s.windView) : t.WindsSound := by
  rw [State.windView, State.windView, Prod.mk.injEq, Prod.mk.injEq] at hv
  obtain ⟨hcranes, hprofiles, hhistories⟩ := hv
  refine windsSound_iff.mpr fun d => ?_
  rw [State.profileOf, State.profile, State.crane, hcranes, hprofiles]
  exact (windsSound_iff.mp h d).of_history (congrFun hhistories d)

/-- States that differ in one block's fields only, none of them a crane record, a profile or a wind record, have the
same view. -/
theorem windView_of_frame {blank : State → State} (hb : blank t = blank s)
    (hv : ∀ u, (blank u).windView = u.windView := by intro _; rfl) : t.windView = s.windView :=
  (hv t).symm.trans ((congrArg State.windView hb).trans (hv s))

/-- A block that leaves the crane records, the profiles and the wind records alone keeps the wind records sound. -/
theorem State.WindsSound.of_frame {blank : State → State} (h : s.WindsSound) (hb : blank t = blank s)
    (hv : ∀ u, (blank u).windView = u.windView := by intro _; rfl) : t.WindsSound :=
  h.of_view (windView_of_frame hb hv)

@[simp] theorem send_windView (s : State) (ns : List Notice) : (s.send ns).windView = s.windView := rfl

@[simp] theorem post_windView (s : State) (b : EventBody) : (s.post b).windView = s.windView := by
  simp [State.windView]

@[simp] theorem postAll_windView (s : State) (bs : List EventBody) : (s.postAll bs).windView = s.windView := by
  simp [State.windView]

/-- One wind record replaced by one of the same history. -/
theorem setWind_windView (h : w.history = (s.windOf c).history) : (s.setWind c w).windView = s.windView := by
  have hhistories (d : Crane) : ((s.setWind c w).windOf d).history = (s.windOf d).history := by
    rw [State.setWind_windOf]
    split
    · next hd => rw [h, hd]
    · rfl
  simp [State.windView, hhistories]

/-- One wind record replaced by a sound one. -/
theorem State.WindsSound.setWind (h : s.WindsSound) (hw : w.SoundFor (s.crane c) (s.profileOf c)) :
    (s.setWind c w).WindsSound := by
  refine windsSound_iff.mpr fun d => ?_
  rw [State.setWind_windOf]
  split
  · next hd => subst hd; exact hw
  · exact h d

/-! ### The state machine and the selections leave the histories alone (R119, R124 to R136) -/

@[simp] theorem withBeacons_windView (before s : State) : (withBeacons before s).windView = s.windView := rfl

@[simp] theorem windNotices_windView (c : Crane) (before s : State) : (windNotices c before s).windView = s.windView :=
  rfl

@[simp] theorem selectAll_windView (s : State) : s.selectAll.windView = s.windView := by
  unfold State.selectAll
  refine foldl_keeps State.windView _ (fun t c => ?_) _ _
  exact setWind_windView rfl

@[simp] theorem selectSources_windView (writer : Option Crane) (s : State) :
    (selectSources writer s).windView = s.windView := by
  simp [selectSources]

@[simp] theorem examineHandshake_windView (c : Crane) (s : State) : (examineHandshake c s).windView = s.windView := by
  unfold examineHandshake
  split
  · simp only [windNotices_windView, post_windView]
    exact setWind_windView rfl
  · rfl

@[simp] theorem takeHandshake_windView (k : Sector) (s : State) : (takeHandshake k s).windView = s.windView :=
  foldl_keeps State.windView _ (fun t c => examineHandshake_windView c t) _ _

@[simp] theorem enterVanePending_windView (c : Crane) (cause : WindCause) (s : State) :
    (enterVanePending c cause s).windView = s.windView := by
  simp only [enterVanePending, examineHandshake_windView, windNotices_windView, post_windView, send_windView]
  exact setWind_windView rfl

@[simp] theorem vaneAttempt_windView (c : Crane) (s : State) : (vaneAttempt c s).windView = s.windView := by
  unfold vaneAttempt
  split
  · split
    · exact enterVanePending_windView c .vaneAuto s
    · exact setWind_windView rfl
  · rfl

@[simp] theorem enterStop_windView (c : Crane) (cause : WindCause) (s : State) :
    (enterStop c cause s).windView = s.windView := by
  unfold enterStop
  dsimp only
  split
  · simp only [vaneAttempt_windView, windNotices_windView, post_windView]
    exact setWind_windView rfl
  · simp only [windNotices_windView, post_windView]
    exact setWind_windView rfl

@[simp] theorem enterCalmOrAlert_windView (c : Crane) (new : WindState) (n : Nat) (s : State) :
    (enterCalmOrAlert c new n s).windView = s.windView := by
  simp only [enterCalmOrAlert, windNotices_windView, post_windView]
  exact setWind_windView rfl

theorem takeEvaluation_windView (c : Crane) (s : State) : (takeEvaluation c s).windView = s.windView := by
  unfold takeEvaluation
  dsimp only
  split
  · rfl
  · split
    · repeat' split
      · exact enterStop_windView ..
      · exact enterStop_windView ..
      · exact enterCalmOrAlert_windView ..
      · exact setWind_windView rfl
    · repeat' split
      · exact enterStop_windView ..
      · exact enterStop_windView ..
      · exact enterCalmOrAlert_windView ..
      · exact setWind_windView rfl
    · split <;> exact setWind_windView rfl
    · rfl
    · rfl

theorem expireRecovery_windView (c : Crane) (s : State) : (expireRecovery c s).windView = s.windView := by
  unfold expireRecovery
  dsimp only
  split
  · rfl
  · simp only [windNotices_windView, post_windView]
    exact setWind_windView rfl

theorem expireVaneDelay_windView (c : Crane) (s : State) : (expireVaneDelay c s).windView = s.windView := by
  unfold expireVaneDelay
  split
  · rfl
  · rw [vaneAttempt_windView]
    exact setWind_windView rfl

theorem expireVaneTimeout_windView (c : Crane) (s : State) : (expireVaneTimeout c s).windView = s.windView := by
  have hstopped : (s.setWind c { s.windOf c with vaneTimeout := none }).windView = s.windView := setWind_windView rfl
  unfold expireVaneTimeout
  dsimp only
  split
  · rfl
  · split
    · exact hstopped
    · split <;> exact (post_windView _ _).trans hstopped

theorem takeMotionNotice_windView (c : Crane) (s : State) : (takeMotionNotice c s).windView = s.windView := by
  unfold takeMotionNotice
  split
  · exact vaneAttempt_windView c s
  · rfl

theorem resumeCrane_windView (c : Crane) (s : State) : (resumeCrane c s).windView = s.windView := by
  simp only [resumeCrane, windNotices_windView, post_windView]
  exact setWind_windView rfl

/-! ### What changes a history: samples, staleness, ticks and table writes -/

/-- R109, R118: a record gone stale is sound, its accumulator empty. -/
theorem goStale_soundFor (h : w.SoundFor r p) : (goStale w).SoundFor r p := by
  obtain ⟨⟨-, hcoarse, -, -, -⟩, hshort⟩ := h
  exact ⟨⟨Nat.zero_le _, hcoarse, Nat.zero_le _, Nat.zero_le _, rfl, rfl, rfl⟩,
    fun hpresent hp => (Nat.zero_le _).trans_lt (hshort hpresent hp)⟩

/-- R3, R114: an accumulator started afresh is short of a block, whatever the crane record and the profile. -/
theorem restartCounting_soundFor (h : w.Sound) : (restartCounting w).SoundFor r p := by
  obtain ⟨hfine, hcoarse, -, -, hfigures⟩ := h
  refine ⟨⟨hfine, hcoarse, Nat.zero_le _, Nat.zero_le _, hfigures⟩, fun _ hp => ?_⟩
  obtain ⟨-, ⟨hshort, -⟩, -⟩ := (profileValid_iff p).mp hp
  exact (Nat.zero_lt_succ 3).trans_le hshort

/-- R110: a WIND frame writes a sample under a valid profile, or changes no history. -/
theorem takeWind_keepsWinds (c : Crane) (f : WindFrame) (h : s.WindsSound) : (takeWind c f s).WindsSound := by
  cases hseq : seqAccepted (s.windOf c).seqRef f.seq with
  | false => rw [takeWind_refused hseq]; exact h
  | true =>
    cases ha : f.anemometerOk with
    | false => rw [takeWind_faulty hseq ha]; exact h.of_view (setWind_windView rfl)
    | true =>
      cases hp : profileValid (s.profileOf c) with
      | false =>
        rw [takeWind_unprofiled hseq ha hp]
        exact h.of_view ((postAll_windView _ _).trans (setWind_windView rfl))
      | true =>
        have hmarked : ((s.windOf c).marked f).Sound := (h c).1.of_history rfl
        obtain ⟨hsound, hshort⟩ := writeSample_sound s.site.windStale hp hmarked (Nat.min_le_right f.speed.toNat 600)
        rw [takeWind_sampled hseq ha hp]
        exact (h.setWind ⟨hsound, fun _ _ => hshort⟩).of_view
          ((selectSources_windView _ _).trans (postAll_windView _ _))

theorem expireWindStale_keepsWinds (c : Crane) (h : s.WindsSound) : (expireWindStale c s).WindsSound := by
  unfold expireWindStale
  split
  · exact h
  · exact (h.setWind (goStale_soundFor (h c))).of_view (selectSources_windView _ _)

/-- R117: a tick runs the stale timers down and stops none. -/
theorem runTickTimers_keepsWinds (h : s.WindsSound) : (runTickTimers s).WindsSound := by
  refine windsSound_iff.mpr fun d => ?_
  have hwind : (runTickTimers s).windOf d = { s.windOf d with ownStale := runDown (s.windOf d).ownStale } :=
    Bank.read_update _ _ _
  obtain ⟨⟨hfine, hcoarse, hcount, hsum, hstale, hfigures⟩, hshort⟩ := h d
  rw [hwind]
  exact ⟨⟨hfine, hcoarse, hcount, hsum, Option.isSome_map.trans hstale, hfigures⟩, hshort⟩

theorem takeSecond_windView (s : State) : (takeSecond s).windView = s.windView := by
  have hwind (d : Crane) : (takeSecond s).windOf d = s.runWindSecond d (s.windOf d) := Bank.read_updateAt _ _ _
  simp only [State.windView, hwind]
  rfl

theorem sampleHold_windView (low : Bool) (s : State) : (sampleHold low s).windView = s.windView := by
  unfold sampleHold
  dsimp only
  repeat' split
  all_goals rfl

theorem takeTick_keepsWinds (holdLow : Bool) (h : s.WindsSound) : (takeTick holdLow s).WindsSound := by
  have hrun : (runTickTimers { s with cycles := 0, divisor := s.site.tickDivisor }).WindsSound :=
    runTickTimers_keepsWinds h
  refine hrun.of_view ((sampleHold_windView _ _).trans ?_)
  split
  · exact takeSecond_windView _
  · rfl

/-- R5, R119: a crane made absent keeps its history, and no accumulator is asked of it. -/
theorem makeAbsent_keepsWinds (c : Crane) (h : s.WindsSound) : (makeAbsent c s).WindsSound := by
  obtain ⟨hwind, -⟩ := makeAbsent_winds c s
  have hframe := makeAbsent_frame c s
  refine windsSound_iff.mpr fun d => ?_
  rw [hwind d]
  generalize makeAbsent c s = u at hframe
  have hcrane : u.crane d = if d = c then .absent else s.crane d := by rw [hframe]; exact Bank.read_write _ _ _ _
  have hprofiles : u.profiles = s.profiles := by rw [hframe]; rfl
  obtain ⟨hsound, hshort⟩ := h d
  rw [State.profileOf, State.profile, hprofiles, hcrane]
  split
  · exact ⟨hsound.of_history rfl, nofun⟩
  · exact ⟨hsound.of_history rfl, hshort⟩

/-- R3, R119: a crane record that is written starts the crane's accumulator afresh. -/
theorem makePresent_keepsWinds (c : Crane) (r : CraneRecord) (h : s.WindsSound) : (makePresent c r s).WindsSound := by
  have hwind := fun d => makePresent_windOf c d r s
  have hframe := makePresent_frame c r s
  refine windsSound_iff.mpr fun d => ?_
  rw [hwind d]
  generalize makePresent c r s = u at hframe
  have hcrane : u.crane d = if d = c then r else s.crane d := by rw [hframe]; exact Bank.read_write _ _ _ _
  have hprofiles : u.profiles = s.profiles := by rw [hframe]; rfl
  split
  · exact (restartCounting_soundFor (h c).1).of_history rfl
  · next hd =>
    rw [State.profileOf, State.profile, hprofiles, hcrane, if_neg hd]
    exact (windsSound_iff.mp h d).of_history rfl

/-- R3: a profile that is written starts the accumulators of the cranes that name it afresh. -/
theorem storeProfile_keepsWinds (n : ProfileNo) (p : WindProfile) (h : s.WindsSound) :
    (storeProfile n p s).WindsSound := by
  have hwind := storeProfile_windOf n p s
  have hframe := storeProfile_frame n p s
  refine windsSound_iff.mpr fun d => ?_
  rw [hwind d]
  generalize storeProfile n p s = u at hframe
  have hcrane : u.crane d = s.crane d := by rw [hframe]; rfl
  split
  · exact restartCounting_soundFor (h d).1
  · next hn =>
    have hprofile : u.profileOf d = s.profileOf d := by
      rw [State.profileOf, hcrane, hframe]
      exact Bank.read_write_ne _ _ hn
    rw [hprofile, hcrane]
    exact h d

/-! ### Operations, notices and commands -/

/-- No operation breaks the soundness of a wind record. -/
theorem Operates.keepsWinds (ho : Operates s t) (h : s.WindsSound) : t.WindsSound := by
  cases ho with
  | same => exact h
  | absent c => exact makeAbsent_keepsWinds c h
  | present c fields r => exact makePresent_keepsWinds c r h
  | profile n p => exact storeProfile_keepsWinds n p h
  | site => exact h
  | assembly => exact h
  | zone c z => exact h.of_view ((windView_of_frame (recomputePresence_butPositions _ _ _)).trans rfl)
  | sector k r =>
    have members (skip : Option Sector) :
        (recomputeMembers k (s.sector k).members skip (s.setSector k r)).windView = s.windView :=
      (windView_of_frame (recomputeMembers_butPositions _ _ _ _)).trans rfl
    refine h.of_view ?_
    unfold putSector
    dsimp only
    split <;> exact members _
  | pattern cond p => exact h.of_view ((windView_of_frame (State.restartShowing_butGenerators _ _)).trans rfl)
  | arm =>
    refine h.of_view ?_
    rw [armSite, post_windView, windView_of_frame (armBookings_butArming _),
      windView_of_frame (setUpSectors_butEntries _)]
    rfl
  | disarm =>
    refine h.of_view ?_
    rw [disarmSite, post_windView, windView_of_frame (issueAll_butPermits _),
      windView_of_frame (disarmBookings_butArming _), windView_of_frame (clearSectors_butEntries _)]
    rfl
  | clock n => exact h.of_view ((windView_of_frame (evaluateWindows_butBookings _ _)).trans rfl)
  | mask => exact h
  | book b => exact h.of_frame (addBooking_butBookings _ _)
  | cancel id => exact h.of_frame (cancelBooking_butBookings _ _)
  | purge => exact h
  | close k => exact h.of_frame (closeSector_butEntries _ _)
  | openUp k => exact h.of_frame (openSector_butEntries _ _)
  | vane c => exact h.of_view (enterVanePending_windView _ _ _)
  | resume c => exact h.of_view (resumeCrane_windView _ _)

theorem takeFrame_keepsWinds (f : GoodFrame) (h : s.WindsSound) : (takeFrame f s).WindsSound := by
  have handed (c : Crane) (g : State → State) (hg : (g s).WindsSound) : (handOn c g s).WindsSound := by
    unfold handOn
    split
    · exact hg
    · exact h
  cases f with
  | motion c m => exact handed _ _ (h.of_frame (takeMotion_butPositions _ _ _))
  | wind c w => exact handed _ _ (takeWind_keepsWinds c w h)
  | demand c d => exact handed _ _ (h.of_frame (takeDemand_butPermits _ _ _))
  | request tag code ops =>
    rcases takeRequest_cases tag code ops s with he | ⟨t, reply, ht, he⟩
    · rw [takeFrame, he]; exact h
    · rw [takeFrame, he]; exact ht.keepsWinds h

theorem expire_keepsWinds (e : Expiry) (h : s.WindsSound) : (expire e s).WindsSound := by
  cases e with
  | windStale c => exact expireWindStale_keepsWinds c h
  | recovery c => exact h.of_view (expireRecovery_windView c s)
  | vaneDelay c => exact h.of_view (expireVaneDelay_windView c s)
  | vaneTimeout c => exact h.of_view (expireVaneTimeout_windView c s)
  | positionStale c => exact h.of_frame (expirePosition_butPositions _ _)
  | demandTimeout c => exact h.of_frame (expireDemand_butPermits _ _)
  | refresh c => exact h.of_frame (expireRefresh_butPermits _ _)
  | keep k c => exact h.of_frame (expireKeep_butEntries _ _ _)
  | clearing k => exact h.of_frame (expireClearing_butEntries _ _)
  | hold k => exact h.of_frame (expireHold_butEntries _ _)
  | phaseEnd n => exact h.of_frame (State.endPhase_butGenerators _ _)

/-- No notice breaks the soundness of a wind record; an evaluation and the notices of the way to vane change no
history. -/
theorem takeNotice_keepsWinds (n : Notice) (s : State) (h : s.WindsSound) : (takeNotice n s).WindsSound := by
  cases n with
  | frame f => exact takeFrame_keepsWinds f h
  | evaluation c => exact h.of_view (takeEvaluation_windView c s)
  | motionTaken c => exact h.of_view (takeMotionNotice_windView c s)
  | handshake k => exact h.of_view (takeHandshake_windView k s)
  | expiry e =>
    rw [takeNotice]
    split
    · exact expire_keepsWinds e h
    · exact h
  | presence k c ch => exact h.of_frame (reportPresence_butEntries _ _ _ _)
  | knock k c => exact h.of_frame (knockSector_butEntries _ _ _)
  | claimant k left cl => exact h.of_frame (changeClaimant_butEntries _ _ _ _)
  | lock k c => exact h.of_frame (lockSector_butEntries _ _ _)
  | unlock k c => exact h.of_frame (unlockSector_butEntries _ _ _)
  | liftCount id => exact h.of_frame (takeLiftCount_butBookings _ _)
  | loadSample c x => exact h.of_frame (takeSample_butDetectors _ _ _)
  | limit c => exact h.of_frame (takeLimitNotice_butPermits _ _)
  | craneCondition c => exact h.of_frame (takeCraneCondition_butBookings _ _)
  | beacon c cond => exact h.of_frame (State.showCondition_butGenerators _ _ _)
  | clockAdvance =>
    rw [takeNotice, advanceClock]
    split <;> exact h
  | minuteBoundary => exact h.of_frame (evaluateWindows_butBookings _ _)
  | holdAsserted =>
    rw [takeNotice, assertHold]
    split
    · exact h
    · refine State.WindsSound.of_frame ?_ (issueAll_butPermits _)
      exact h.of_view (post_windView _ _)
  | holdReleased =>
    rw [takeNotice, releaseHold]
    split
    · exact h.of_view (post_windView _ _)
    · exact h
  | tickDone => exact h

/-- R109: a device in reset has every wind record empty, and every crane absent. -/
theorem cleared_windsSound (h : t.windView = State.cleared.windView) : t.WindsSound := by
  have hc : State.cleared.WindsSound := windsSound_iff.mpr fun d => by
    simp only [State.windOf, State.crane, State.cleared, Bank.read_fill]
    exact ⟨⟨by decide, by decide, by decide, by decide, rfl, rfl, rfl⟩, nofun⟩
  exact hc.of_view h

theorem takeReset_keepsWinds (trigger : ResetTrigger) (h : s.WindsSound) : (takeReset trigger s).WindsSound := by
  unfold takeReset
  dsimp only
  repeat' split
  · exact cleared_windsSound rfl
  · exact cleared_windsSound rfl
  · exact cleared_windsSound rfl
  · exact h

/-- No command breaks the soundness of a wind record. -/
theorem Acts.keepsWinds (ha : Acts s t) (h : s.WindsSound) : t.WindsSound := by
  have rescanned (l : Link) (stored : List Byte) {u : State} (hu : u.windView = s.windView) :
      (rescanOctets l stored u).WindsSound :=
    h.of_view ((congrArg State.windView (rescanOctets_frame l stored u)).trans hu)
  cases ha with
  | frame f => exact takeFrame_keepsWinds f h
  | unknown tag code =>
    unfold request answerRequest
    split <;> exact h
  | notice n => exact takeNotice_keepsWinds n s h
  | expiry e => exact expire_keepsWinds e h
  | misdirected l => exact h
  | length l kind len => exact rescanned l _ rfl
  | crc l octets => exact rescanned l _ rfl
  | permitSent c => exact h.of_frame (completePermit_butPermits _ _)
  | begins =>
    unfold beginSending
    split
    · exact h
    · split <;> exact h
  | replySent => unfold completeReply; split <;> exact h
  | eventSent => unfold completeEvent; split <;> exact h
  | posting b => exact h.of_view (post_windView _ _)
  | lift c => exact h.of_frame (attributeLift_butEntries _ _)
  | tick holdLow => exact takeTick_keepsWinds holdLow h
  | reset trigger => exact takeReset_keepsWinds trigger h
  | resetEnd =>
    unfold endReset
    split
    · exact h
    · exact cleared_windsSound rfl

/-- Settles O8: a history changes by a sample, a source gone stale, a tick, a table write that starts the counting
afresh, and a reset; each leaves it sound, and a sample closes the block that it fills. -/
theorem windRecordsStaySound : Obligations.WindRecordsStaySound := fun _ _ hs h =>
  step_keeps State.WindsSound (fun _ _ h => h) (fun _ _ h => h) takeNotice_keepsWinds
    (fun i s hs => (effect_acts i s).keepsWinds hs) hs h

end Sys2Proof.Machine
end

/-! ## WIND frames taken (R110 to R120, R138): O49 -/

section
namespace Sys2Proof.Machine

variable {s t : State} {c : Crane} {f : WindFrame} {writer : Option Crane}

/-! ### A selection for a sample (R119, R120) -/

/-- R120: whose sample it is bears on the evaluations of a selection, and on nothing else. -/
theorem selectSources_eq_reselected (writer : Option Crane) (s : State) :
    selectSources writer s =
      { s.reselected true with
        inFlight := s.inFlight ++ beaconNotices s s.selectAll
          ++ (s.selectAll.presentCranes.filter (fun d => profileValid (s.selectAll.profileOf d)
            && evaluated writer d (s.windOf d).source (s.selectAll.windOf d).source)).map .evaluation } := by
  have hflight (bs : List EventBody) :
      (s.selectAll.postAll bs).inFlight ++ beaconNotices s (s.selectAll.postAll bs) =
        s.inFlight ++ beaconNotices s s.selectAll := by
    rw [State.postAll_frame, selectAll_eq]
    rfl
  rw [State.reselected, if_pos rfl]
  simp only [selectSources, withBeacons, State.send, hflight]

/-- R119, R120, R138: what a selection touches, read off the state it leaves. -/
theorem selectSources_frame (ht : selectSources writer s = t) :
    t = { s with
      winds := t.winds
      events := (s.postAll (sourceChanges s t)).events
      overflow := (s.postAll (sourceChanges s t)).overflow
      inFlight := s.inFlight ++ beaconNotices s t ++ (t.presentCranes.filter (fun d => profileValid (t.profileOf d)
        && evaluated writer d (s.windOf d).source (t.windOf d).source)).map .evaluation } := by
  obtain ⟨winds, hw⟩ : ∃ winds, s.selectAll = { s with winds := winds } := ⟨_, selectAll_eq⟩
  rw [selectSources_eq_reselected, State.reselected, if_pos rfl, selectSources_eq, hw] at ht
  subst ht
  rfl

/-- R119: a selection touches the sources of the present cranes alone. -/
theorem selectSources_windOf (ht : selectSources writer s = t) (d : Crane) :
    t.windOf d = if (s.crane d).present = true then { s.windOf d with source := s.sourceFor d } else s.windOf d := by
  have hr := reselected_windOf (s := s) (wanted := true) d
  simp only [true_and] at hr
  rw [← hr, ← ht, selectSources_eq_reselected]
  rfl

/-- R119: after a selection every present crane has the source it should. -/
theorem selectSources_selected (ht : selectSources writer s = t) : t.SourcesSelected :=
  reselected_selected.congr (by rw [← ht, selectSources_eq_reselected]) (by rw [← ht, selectSources_eq_reselected])

/-- R120: the cranes evaluated are those that use the sample and those whose source changes. -/
theorem evaluated_iff {w d : Crane} {old new : WindSource} :
    evaluated (some w) d old new = true ↔ (new = .own ∧ w = d) ∨ new = .borrowed w ∨ new ≠ old := by
  simp [evaluated, or_assoc, ne_comm]

/-- R120, R138: which notices are in flight after a selection. -/
theorem mem_selectSources_inFlight (ht : selectSources writer s = t) {m : Notice} :
    m ∈ t.inFlight ↔ m ∈ s.inFlight ∨
      (∃ d, m = .evaluation d ∧ (t.crane d).present = true ∧ profileValid (t.profileOf d) = true ∧
        evaluated writer d (s.windOf d).source (t.windOf d).source = true) ∨
      ∃ d cond, m = .beacon d cond ∧ (t.crane d).present = true ∧ cond = t.beaconCondition d ∧
        s.beaconCondition d ≠ cond := by
  have hframe := selectSources_frame ht
  have hcrane (d : Crane) : t.crane d = s.crane d := by rw [hframe]; rfl
  have hflight := congrArg State.inFlight hframe
  dsimp only at hflight
  rw [hflight, List.append_assoc, List.mem_append, List.mem_append, mem_beaconNotices, or_comm (a := ∃ _, _)]
  simp only [List.mem_map, List.mem_filter, State.presentCranes, mem_allCranes, true_and, Bool.and_eq_true, hcrane,
    and_self_left]
  refine or_congr_right (or_congr_left (exists_congr fun d => ?_))
  exact ⟨fun ⟨hd, e⟩ => ⟨e.symm, hd⟩, fun ⟨e, hd⟩ => ⟨hd, e.symm⟩⟩

/-! ### A sample written, and the sources selected -/

/-- R110: what the writing of a sample leaves as it was. -/
theorem sampled_frame (s : State) (c : Crane) (f : WindFrame) :
    s.sampled c f = { s with
      winds := (s.sampled c f).winds
      events := (s.postAll ((s.windOf c).rangeEvents c f)).events
      overflow := (s.postAll ((s.windOf c).rangeEvents c f)).overflow } := by
  obtain ⟨w, hw⟩ : ∃ w, s.sampled c f = (s.setWind c w).postAll ((s.windOf c).rangeEvents c f) := ⟨_, rfl⟩
  obtain ⟨he, ho⟩ := postAll_congr ((s.windOf c).rangeEvents c f) (s := s) (t := s.setWind c w) rfl rfl rfl rfl rfl
  rw [hw, State.postAll_frame, he, ho]
  rfl

/-- R110: the sample is written to the crane's record. -/
theorem sampled_windOf (d : Crane) :
    (s.sampled c f).windOf d =
      if d = c then
        writeSample (s.profileOf c) s.site.windStale ((s.windOf c).marked f) (min f.speed.toNat 600)
      else s.windOf d := by
  rw [State.sampled, State.postAll_windOf, State.setWind_windOf]

/-- R123: it changes no source and no wind state. -/
theorem sampled_windOf_kept (d : Crane) :
    ((s.sampled c f).windOf d).source = (s.windOf d).source ∧
      ((s.sampled c f).windOf d).state = (s.windOf d).state := by
  rw [sampled_windOf, writeSample_eq]
  split
  · next hd => subst hd; exact ⟨rfl, rfl⟩
  · exact ⟨rfl, rfl⟩

theorem sampled_crane (d : Crane) : (s.sampled c f).crane d = s.crane d := by rw [sampled_frame]; rfl

/-- R138: it changes no beacon condition before the selection. -/
theorem sampled_beaconCondition (d : Crane) : (s.sampled c f).beaconCondition d = s.beaconCondition d :=
  beaconCondition_congr (by rw [sampled_frame]; rfl) (sampled_windOf_kept d).1 (sampled_windOf_kept d).2

/-- R112, R119, R120: what the sample and its selection leave as it was. -/
theorem sampledSelected_frame (ht : selectSources (some c) (s.sampled c f) = t) :
    t = { s with
      winds := t.winds
      events := (s.postAll ((s.windOf c).rangeEvents c f ++ sourceChanges s t)).events
      overflow := (s.postAll ((s.windOf c).rangeEvents c f ++ sourceChanges s t)).overflow
      inFlight := t.inFlight } := by
  have hr := selectSources_frame ht
  have hu := sampled_frame s c f
  have hflight := congrArg State.inFlight hr
  dsimp only at hflight
  rw [← hflight, sourceChanges_congr (s := s) (t := t) (fun d => (sampled_windOf_kept d).1) rfl rfl] at hr
  obtain ⟨he, ho⟩ := postAll_congr (sourceChanges s t) (s := s.postAll ((s.windOf c).rangeEvents c f))
    (t := s.sampled c f) (by rw [hu]) (by rw [hu]) (by rw [hu, State.postAll_mask])
    (by rw [hu, State.postAll_clock]) (by rw [hu, State.postAll_clockSet])
  rw [he, ho, ← postAll_append, hu] at hr
  exact hr

/-- R119: the writer, its source fresh, works from its own figures. -/
theorem sampledSelected_source (hp : (s.crane c).present = true) (ht : selectSources (some c) (s.sampled c f) = t) :
    (t.windOf c).source = .own := by
  have hfresh : ((s.sampled c f).windOf c).fresh = true := by rw [sampled_windOf, if_pos rfl]; rfl
  rw [selectSources_windOf ht, sampled_crane, if_pos hp]
  exact (sourceFor_selected c).1 hfresh

/-- R110, R119: the writer's record. -/
theorem sampledSelected_writer (hp : (s.crane c).present = true) (ht : selectSources (some c) (s.sampled c f) = t) :
    t.windOf c =
      { writeSample (s.profileOf c) s.site.windStale ((s.windOf c).marked f) (min f.speed.toNat 600) with
        source := .own } := by
  rw [← sampledSelected_source hp ht, selectSources_windOf ht, sampled_crane, if_pos hp, sampled_windOf, if_pos rfl]

/-- R119: of every other record the source alone can change. -/
theorem sampledSelected_other {d : Crane} (hd : d ≠ c) (ht : selectSources (some c) (s.sampled c f) = t) :
    t.windOf d = { s.windOf d with source := (t.windOf d).source } := by
  rw [selectSources_windOf ht, sampled_windOf, if_neg hd]
  split <;> rfl

/-- R119: an absent crane's source is kept. -/
theorem sampledSelected_absent {d : Crane} (hd : (s.crane d).present = false)
    (ht : selectSources (some c) (s.sampled c f) = t) : (t.windOf d).source = (s.windOf d).source := by
  rw [selectSources_windOf ht, sampled_crane, hd, if_neg Bool.false_ne_true, (sampled_windOf_kept d).1]

/-- R120, R138: which notices are in flight after a sample and its selection. -/
theorem mem_sampledSelected_inFlight (hq : s.inFlight = []) (hp : (s.crane c).present = true)
    (ht : selectSources (some c) (s.sampled c f) = t) {m : Notice} :
    m ∈ t.inFlight ↔
      (∃ d, m = .evaluation d ∧ (s.crane d).present = true ∧ profileValid (s.profileOf d) = true ∧
        (d = c ∨ (t.windOf d).source = .borrowed c ∨ (t.windOf d).source ≠ (s.windOf d).source)) ∨
      ∃ d cond, m = .beacon d cond ∧ (t.crane d).present = true ∧ cond = t.beaconCondition d ∧
        s.beaconCondition d ≠ cond := by
  have hframe := sampledSelected_frame ht
  have hcrane (d : Crane) : t.crane d = s.crane d := by rw [hframe]; rfl
  have hprofile (d : Crane) : t.profileOf d = s.profileOf d := by rw [hframe]; rfl
  have hown (d : Crane) : (t.windOf d).source = .own ∧ c = d ∨ (t.windOf d).source = .borrowed c ∨
        (t.windOf d).source ≠ (s.windOf d).source ↔
      d = c ∨ (t.windOf d).source = .borrowed c ∨ (t.windOf d).source ≠ (s.windOf d).source :=
    or_congr_left ⟨fun h => h.2.symm, fun h => ⟨h ▸ sampledSelected_source hp ht, h.symm⟩⟩
  have hflight : (s.sampled c f).inFlight = [] := by rw [sampled_frame]; exact hq
  rw [mem_selectSources_inFlight ht, hflight]
  simp only [List.not_mem_nil, false_or, evaluated_iff, sampled_windOf_kept, hown, sampled_beaconCondition, hcrane,
    hprofile]

/-- R120: the evaluations among them. -/
theorem evaluation_mem_sampledSelected (hq : s.inFlight = []) (hp : (s.crane c).present = true)
    (ht : selectSources (some c) (s.sampled c f) = t) (d : Crane) :
    .evaluation d ∈ t.inFlight ↔ (s.crane d).present = true ∧ profileValid (s.profileOf d) = true ∧
      (d = c ∨ (t.windOf d).source = .borrowed c ∨ (t.windOf d).source ≠ (s.windOf d).source) :=
  (mem_sampledSelected_inFlight hq hp ht).trans (by simp)

/-! ### The statement -/

/-- Settles O49: a frame that is accepted takes its sequence, marks its speed, and under a valid profile is a sample
written and a selection of the sources. -/
theorem windSampleWritten : Obligations.WindSampleWritten := by
  intro s c f h hpresent hseq w p x marked range
  have haccepted : seqAccepted ((s.hunting (linkOf c)).windOf c).seqRef f.seq = true := seqAccepted_newer hseq
  have hquiet : (s.hunting (linkOf c)).inFlight = [] := h.2.1
  have hhere : ((s.hunting (linkOf c)).crane c).present = true := hpresent
  have hexec : exec (.wind c f) s = .next (takeWind c f (s.hunting (linkOf c))) := by
    rw [exec_wind h, handOn_present hpresent]
    rfl
  refine ⟨fun ha => ?_, fun ha hp => ?_, fun ha hp => ?_⟩
  · rw [hexec, takeWind_faulty haccepted ha]
    rfl
  · obtain ⟨he, ho⟩ := postAll_congr range (s := s) (t := (s.hunting (linkOf c)).setWind c marked) rfl rfl rfl rfl rfl
    rw [hexec, takeWind_unprofiled haccepted ha hp, State.postAll_frame, ← he, ← ho]
    rfl
  · obtain ⟨t, ht⟩ : ∃ t, selectSources (some c) ((s.hunting (linkOf c)).sampled c f) = t := ⟨_, rfl⟩
    obtain ⟨he, ho⟩ :=
      postAll_congr (range ++ sourceChanges s t) (s := s) (t := s.hunting (linkOf c)) rfl rfl rfl rfl rfl
    have hframe := sampledSelected_frame ht
    have hwriter := sampledSelected_writer hhere ht
    have hother (d : Crane) (hd : d ≠ c) := sampledSelected_other hd ht
    have habsent (d : Crane) (hd : ((s.hunting (linkOf c)).crane d).present = false) := sampledSelected_absent hd ht
    have hevaluation := evaluation_mem_sampledSelected hquiet hhere ht
    have hmem (m : Notice) := mem_sampledSelected_inFlight hquiet hhere ht (m := m)
    have htells := tellsBeacons_of_mem hmem (by simp)
    refine ⟨t, by rw [hexec, takeWind_sampled haccepted ha hp, ht], ?_⟩
    rw [← he, ← ho, hwriter]
    refine ⟨hframe, congrArg (fun v : WindRecord => { v with source := .own }) (writeSample_frame ..),
      writeSample_fine p s.site.windStale marked x, writeSample_closes p s.site.windStale marked x,
      writeSample_adds p s.site.windStale marked x, writeSample_ownGust p s.site.windStale marked x,
      writeSample_ownMean p s.site.windStale marked x, hother, habsent, selectSources_selected ht, hevaluation, htells,
      fun m hm => ?_⟩
    rcases (hmem m).mp hm with ⟨d, e, -⟩ | ⟨d, cond, e, -⟩
    · exact .inl ⟨d, e⟩
    · exact .inr ⟨d, cond, e⟩

end Sys2Proof.Machine
end

/-! ## Changes of a crane's wind state (R129 to R134) -/

section
namespace Sys2Proof.Machine

variable {s t u : State} {c d : Crane} {k : Sector} {w : WindRecord} {b : EventBody} {sent : List Notice}

/-! ### A change and what tells of it (R129) -/

/-- R129: crane `c`'s wind record replaced at a change of its state: notices of the change's own, its event, and what
tells the others. -/
def State.rewound (s : State) (c : Crane) (w : WindRecord) (sent : List Notice) (b : EventBody) : State :=
  windNotices c s (((s.setWind c w).send sent).post b)

/-- R129, R138: all that such a change touches. -/
theorem rewound_eq (s : State) (c : Crane) (w : WindRecord) (sent : List Notice) (b : EventBody) :
    s.rewound c w sent b = { s with
      winds := s.winds.write c w
      events := (s.post b).events
      overflow := (s.post b).overflow
      inFlight := s.inFlight ++ sent ++ [.craneCondition c, .limit c] ++ beaconNotices s (s.setWind c w) } := by
  obtain ⟨he, ho⟩ := post_congr b (s := s) (t := (s.setWind c w).send sent) rfl rfl rfl rfl rfl
  unfold State.rewound windNotices withBeacons
  rw [State.post_frame, he, ho]
  rfl

theorem mem_rewound_inFlight {n : Notice} :
    n ∈ (s.rewound c w sent b).inFlight ↔
      n ∈ s.inFlight ∨ n ∈ sent ∨ n = .craneCondition c ∨ n = .limit c ∨ n ∈ beaconNotices s (s.setWind c w) := by
  rw [rewound_eq]
  simp

theorem rewound_windOf (d : Crane) : (s.rewound c w sent b).windOf d = if d = c then w else s.windOf d := by
  rw [rewound_eq]
  exact Bank.read_write _ _ _ _

theorem rewound_windOf_self : (s.rewound c w sent b).windOf c = w := by rw [rewound_windOf, if_pos rfl]

/-- R138: the beacon condition reads the position and wind records alone. -/
theorem rewound_beaconCondition (d : Crane) :
    (s.rewound c w sent b).beaconCondition d = (s.setWind c w).beaconCondition d := by
  rw [rewound_eq]; rfl

/-- R138: another crane's beacon condition is its own. -/
theorem rewound_beaconCondition_ne (h : d ≠ c) : (s.rewound c w sent b).beaconCondition d = s.beaconCondition d := by
  rw [rewound_beaconCondition]
  exact beaconCondition_congr rfl (by rw [State.setWind_windOf_ne _ _ h]) (by rw [State.setWind_windOf_ne _ _ h])

theorem rewound_tells : s.TellsWindState (s.rewound c w sent b) c := by
  refine ⟨mem_rewound_inFlight.mpr (by simp), mem_rewound_inFlight.mpr (by simp), fun hp hne => ?_⟩
  rw [rewound_beaconCondition] at hne ⊢
  exact mem_rewound_inFlight.mpr (.inr (.inr (.inr (.inr (mem_beaconNotices.mpr ⟨c, _, rfl, hp, hp, rfl, hne⟩)))))

/-- R129: what is told of a change is told of it whatever else changes, so long as the beacon conditions do not. -/
theorem State.TellsWindState.congr {s' t' : State} (h : s.TellsWindState t c)
    (hp : (s'.crane c).present = (s.crane c).present) (hs : s'.beaconCondition c = s.beaconCondition c)
    (ht : t'.beaconCondition c = t.beaconCondition c) (hin : ∀ n ∈ t.inFlight, n ∈ t'.inFlight) :
    s'.TellsWindState t' c := by
  obtain ⟨hcond, hlimit, hbeacon⟩ := h
  refine ⟨hin _ hcond, hin _ hlimit, fun hp' hne => ?_⟩
  rw [hs, ht] at hne
  rw [ht]
  exact hin _ (hbeacon (hp ▸ hp') hne)

/-- R129: of two changes in one event each is told. -/
theorem State.TellsWindState.trans (h : s.TellsWindState t c) (h' : t.TellsWindState u c)
    (hp : (t.crane c).present = (s.crane c).present) (hin : ∀ n ∈ t.inFlight, n ∈ u.inFlight) :
    s.TellsWindState u c := by
  obtain ⟨hcond, hlimit, hbeacon⟩ := h'
  refine ⟨hcond, hlimit, fun hps hne => ?_⟩
  by_cases hmid : t.beaconCondition c = u.beaconCondition c
  · obtain ⟨-, -, hfirst⟩ := h
    rw [← hmid] at hne ⊢
    exact hin _ (hfirst hps hne)
  · exact hbeacon (hp.trans hps) hmid

/-- R129: crane `c`'s wind record becomes `w` with one WIND_STATE event, and the others are told. -/
def State.ChangesWind (s t : State) (c : Crane) (w : WindRecord) (cause : Nat) : Prop :=
  t = { s with
    winds := s.winds.write c w
    events := (s.post (s.windStateEvent c w.state cause)).events
    overflow := (s.post (s.windStateEvent c w.state cause)).overflow
    inFlight := t.inFlight } ∧ s.TellsWindState t c

theorem rewound_changesWind (cause : Nat) :
    s.ChangesWind (s.rewound c w sent (s.windStateEvent c w.state cause)) c w cause := by
  refine ⟨?_, rewound_tells⟩
  rw [rewound_eq]

/-! ### The handshake condition (R133) -/

theorem handshakeIn_eq_false_iff :
    s.handshakeIn k c = false ↔ c ∉ s.locksOf k ∨ ∃ d ∈ (s.entry k).presence, d ∉ s.locksOf k := by
  simp [State.handshakeIn, State.occupants, List.filter_eq_nil_iff, mem_allCranes, or_iff_not_imp_left]

theorem blocksVane_iff : s.BlocksVane c k ↔ k ∈ s.sectorsOf c ∧ s.handshakeIn k c = false := by
  rw [handshakeIn_eq_false_iff]
  simp [State.BlocksVane, State.sectorsOf, mem_allSectors]

/-- R133, R134: the first sector in which the condition fails is the first that keeps the crane from vaning. -/
theorem handshakeFailure_eq_some_iff :
    s.handshakeFailure c = some k ↔ s.BlocksVane c k ∧ ∀ j, j < k → ¬ s.BlocksVane c j := by
  have hascending : (s.sectorsOf c).Pairwise (· < ·) := allSectors_ascending.filter _
  rw [State.handshakeFailure, find?_ascending hascending]
  simp only [blocksVane_iff, Bool.not_eq_true', Bool.not_eq_false', not_and, Bool.not_eq_false, and_assoc]
  exact and_congr_right fun _ => and_congr_right fun _ =>
    ⟨fun h j hlt hj => by simpa using h j hj hlt, fun h j hj hlt => by simpa using h j hlt hj⟩

theorem handshakeFailure_eq_none_iff : s.handshakeFailure c = none ↔ ∀ k, ¬ s.BlocksVane c k := by
  simp [State.handshakeFailure, List.find?_eq_none, blocksVane_iff]

/-- R133: the wind record of a crane that has entered VANE. -/
def WindRecord.freed (w : WindRecord) : WindRecord := { w with state := .vane, vaneTimeout := none }

/-- R133: whether a sector keeps a crane from vaning is a matter of the sectors and their entries. -/
theorem blocksVane_congr (hs : t.sectors = s.sectors) (he : t.entries = s.entries) :
    t.BlocksVane c k ↔ s.BlocksVane c k := by
  unfold State.BlocksVane State.isMember State.locksOf State.sector State.entry
  rw [hs, he]

theorem rewound_blocksVane : (s.rewound c w sent b).BlocksVane d k ↔ s.BlocksVane d k := by
  rw [rewound_eq]
  exact blocksVane_congr rfl rfl

theorem examineHandshake_frees (hw : (s.windOf c).state = .vanePending) (h : ∀ k, ¬ s.BlocksVane c k) :
    examineHandshake c s =
      s.rewound c (s.windOf c).freed []
        (eventOf .vaneReleased (some c) none (s.sectorsOf c).length) := by
  rw [examineHandshake, if_pos ⟨hw, handshakeFailure_eq_none_iff.mpr h⟩, State.rewound, State.send_nil]
  rfl

theorem examineHandshake_keeps (h : (s.windOf c).state ≠ .vanePending ∨ ∃ k, s.BlocksVane c k) :
    examineHandshake c s = s := by
  refine if_neg ?_
  rintro ⟨hw, hf⟩
  rcases h with h | ⟨k, hk⟩
  · exact h hw
  · exact handshakeFailure_eq_none_iff.mp hf k hk

/-! ### Entry to VANE_PENDING (R132) -/

/-- R132: the wind record of a crane that has entered VANE_PENDING. -/
def WindRecord.headed (w : WindRecord) (timeout : Nat) : WindRecord :=
  { w with
    state := .vanePending, stopCount := 0, alertCount := 0, calmCount := 0, recovery := none, vaneDelay := none,
    vaneWait := false, vaneTimeout := some timeout }

/-- R132: the state in which the handshake is examined at entry to VANE_PENDING. -/
def State.headed (s : State) (c : Crane) (cause : Nat) : State :=
  s.rewound c ((s.windOf c).headed (s.profileOf c).vaneTimeout) ((s.sectorsOf c).map (fun k => .lock k c))
    (s.windStateEvent c .vanePending cause)

theorem headed_windOf_self {cause : Nat} :
    (s.headed c cause).windOf c = (s.windOf c).headed (s.profileOf c).vaneTimeout := rewound_windOf_self

theorem headed_blocksVane {cause : Nat} : (s.headed c cause).BlocksVane d k ↔ s.BlocksVane d k := rewound_blocksVane

theorem enterVanePending_eq (cause : WindCause) :
    enterVanePending c cause s = examineHandshake c (s.headed c (windCauseCode cause)) := rfl

theorem enterVanePending_blocked (cause : WindCause) (h : ∃ k, s.BlocksVane c k) :
    enterVanePending c cause s = s.headed c (windCauseCode cause) := by
  obtain ⟨k, hk⟩ := h
  rw [enterVanePending_eq, examineHandshake_keeps (.inr ⟨k, headed_blocksVane.mpr hk⟩)]

theorem enterVanePending_free (cause : WindCause) (h : ∀ k, ¬ s.BlocksVane c k) :
    enterVanePending c cause s =
      (s.headed c (windCauseCode cause)).rewound c
        ((s.windOf c).headed (s.profileOf c).vaneTimeout).freed []
        (eventOf .vaneReleased (some c) none (s.sectorsOf c).length) := by
  have hsectors : (s.headed c (windCauseCode cause)).sectorsOf c = s.sectorsOf c := by
    rw [State.headed, rewound_eq]; rfl
  rw [enterVanePending_eq, examineHandshake_frees (by rw [headed_windOf_self]; rfl)
    fun k hk => h k (headed_blocksVane.mp hk), headed_windOf_self, hsectors]

theorem lock_mem_headed {cause : Nat} (h : s.isMember k c = true) : .lock k c ∈ (s.headed c cause).inFlight :=
  mem_rewound_inFlight.mpr (.inr (.inl (List.mem_map.mpr ⟨k, by simp [State.sectorsOf, mem_allSectors, h], rfl⟩)))

/-- R132, R133: the entry heads for vane. -/
theorem enterVanePending_headsForVane (cause : WindCause) :
    s.HeadsForVane (enterVanePending c cause s) c (windCauseCode cause) := by
  have htold : s.TellsWindState (s.headed c (windCauseCode cause)) c := rewound_tells
  by_cases hb : ∃ k, s.BlocksVane c k
  · rw [enterVanePending_blocked cause hb]
    refine ⟨fun _ => ?_, fun hfree => absurd hb (not_exists.mpr hfree), fun k => lock_mem_headed, htold⟩
    rw [State.headed, rewound_eq]
    rfl
  · have hfree := not_exists.mp hb
    have hgrows (n : Notice) (hn : n ∈ (s.headed c (windCauseCode cause)).inFlight) :
        n ∈ (enterVanePending c cause s).inFlight := by
      rw [enterVanePending_free cause hfree]
      exact mem_rewound_inFlight.mpr (.inl hn)
    refine ⟨fun h => absurd h hb, fun _ => ?_, fun k hk => hgrows _ (lock_mem_headed hk),
      htold.trans (by rw [enterVanePending_free cause hfree]; exact rewound_tells) ?_ hgrows⟩
    · have he := post_congr (eventOf .vaneReleased (some c) none (s.sectorsOf c).length)
        (s := s.post (s.windStateEvent c .vanePending (windCauseCode cause)))
        (t := s.headed c (windCauseCode cause)) (by rw [State.headed, rewound_eq]) (by rw [State.headed, rewound_eq])
        (by rw [State.headed, rewound_eq, State.post_mask]) (by rw [State.headed, rewound_eq, State.post_clock])
        (by rw [State.headed, rewound_eq, State.post_clockSet])
      rw [enterVanePending_free cause hfree, rewound_eq, he.1, he.2, State.headed, rewound_eq]
      simp only [Bank.write_again]
      rfl
    · rw [State.headed, rewound_eq]
      rfl

/-- R109: the used figures of crane `d` are a matter of the sources and the own figures. -/
theorem setWind_figures (hsource : w.source = (s.windOf c).source) (hgust : w.ownGust = (s.windOf c).ownGust)
    (hmean : w.ownMean = (s.windOf c).ownMean) (d : Crane) :
    (s.setWind c w).gustNumber d = s.gustNumber d ∧ (s.setWind c w).meanNumber d = s.meanNumber d := by
  have hread (e : Crane) : ((s.setWind c w).windOf e).source = (s.windOf e).source ∧
      ((s.setWind c w).windOf e).ownGust = (s.windOf e).ownGust ∧
      ((s.setWind c w).windOf e).ownMean = (s.windOf e).ownMean := by
    rw [State.setWind_windOf]
    split
    · next he => subst he; exact ⟨hsource, hgust, hmean⟩
    · exact ⟨rfl, rfl, rfl⟩
  simp only [State.gustNumber, State.usedGust, State.meanNumber, State.usedMean, hread, and_self]

theorem windStateEvent_congr {new : WindState} {cause : Nat} (hstate : (t.windOf c).state = (s.windOf c).state)
    (hfigures : t.gustNumber c = s.gustNumber c ∧ t.meanNumber c = s.meanNumber c) :
    t.windStateEvent c new cause = s.windStateEvent c new cause := by
  simp only [State.windStateEvent, hstate, hfigures]

/-- R132: heading for vane stops the vane delay timer, so what that timer stood at makes no difference; nor does what
was in flight before. -/
theorem State.HeadsForVane.of_vaneDelay {cause : Nat} {delay : Timer} {ns : List Notice} (h : s.HeadsForVane t c cause)
    (hw : w = { u.windOf c with vaneDelay := delay })
    (hs : s = { u with winds := u.winds.write c w, inFlight := ns }) : u.HeadsForVane t c cause := by
  obtain ⟨hblocked, hfree, hlocks, htells⟩ := h
  have hwind : s.windOf c = { u.windOf c with vaneDelay := delay } := by
    rw [hs, ← hw]; exact Bank.read_write_self _ _ _
  have hwrite (x : WindRecord) : s.winds.write c x = u.winds.write c x := by
    rw [hs]; exact Bank.write_again _ _ _ _
  have hkeep (winds events overflow flight) :
      ({ s with winds := winds, events := events, overflow := overflow, inFlight := flight } : State) =
        { u with winds := winds, events := events, overflow := overflow, inFlight := flight } := by rw [hs]
  have hevent : s.windStateEvent c .vanePending cause = u.windStateEvent c .vanePending cause := by
    refine windStateEvent_congr (by rw [hwind]) ?_
    rw [hs]
    exact setWind_figures (by rw [hw]) (by rw [hw]) (by rw [hw]) c
  have hpost (bs : List EventBody) := postAll_congr bs (s := u) (t := s) (by rw [hs]) (by rw [hs]) (by rw [hs])
    (by rw [hs]) (by rw [hs])
  have hprofile : s.profileOf c = u.profileOf c := by rw [hs]; rfl
  have hsectors : s.sectorsOf c = u.sectorsOf c := by rw [hs]; rfl
  have hmember (k : Sector) : s.isMember k c = u.isMember k c := by rw [hs]; rfl
  have hblocks (k : Sector) : s.BlocksVane c k ↔ u.BlocksVane c k := blocksVane_congr (by rw [hs]) (by rw [hs])
  have hcond : u.beaconCondition c = s.beaconCondition c :=
    beaconCondition_congr (by rw [hs]; rfl) (by rw [hwind]) (by rw [hwind])
  refine ⟨fun hb => ?_, fun hb => ?_, fun k hk => hlocks k (by rw [hmember, hk]),
    htells.congr (by rw [hs]; rfl) hcond rfl fun _ h => h⟩
  · have he := (hpost [u.windStateEvent c .vanePending cause]).1
    have ho := (hpost [u.windStateEvent c .vanePending cause]).2
    simp only [State.postAll_cons, State.postAll_nil] at he ho
    refine (hblocked (by simpa only [hblocks] using hb)).trans ?_
    rw [hevent, hwrite, hkeep, hwind, hprofile, he, ho]
  · refine (hfree (by simpa only [hblocks] using hb)).trans ?_
    rw [hevent, hwrite, hkeep, hwind, hprofile, hsectors, (hpost _).1, (hpost _).2]

/-- R161: a reply appended makes no difference to the way to vane. -/
theorem State.HeadsForVane.replied {cause : Nat} {rs : List Reply} (h : s.HeadsForVane t c cause)
    (hu : u = { s with replies := rs }) : u.HeadsForVane { t with replies := rs } c cause := by
  obtain ⟨hblocked, hfree, hlocks, htells⟩ := h
  have hpost (bs : List EventBody) := postAll_congr bs (s := s) (t := u) (by rw [hu]) (by rw [hu]) (by rw [hu])
    (by rw [hu]) (by rw [hu])
  have hevent : u.windStateEvent c .vanePending cause = s.windStateEvent c .vanePending cause := by rw [hu]; rfl
  have answered {x : State} (hx : t = x) : ({ t with replies := rs } : State) = { x with replies := rs } :=
    congrArg (fun y : State => { y with replies := rs }) hx
  refine ⟨fun hb => ?_, fun hb => ?_, fun k hk => hlocks k (by rw [hu] at hk; exact hk), by rw [hu]; exact htells⟩
  · have he := (hpost [s.windStateEvent c .vanePending cause]).1
    have ho := (hpost [s.windStateEvent c .vanePending cause]).2
    simp only [State.postAll_cons, State.postAll_nil] at he ho
    refine (answered (hblocked (by rw [hu] at hb; exact hb))).trans ?_
    rw [hevent, he, ho, hu]
    rfl
  · refine (answered (hfree (by rw [hu] at hb; exact hb))).trans ?_
    have hsectors : u.sectorsOf c = s.sectorsOf c := by rw [hu]; rfl
    rw [hevent, hsectors, (hpost _).1, (hpost _).2, hu]
    rfl

end Sys2Proof.Machine
end

/-! ## Evaluations (R124 to R130): O50 -/

section
namespace Sys2Proof.Machine

variable {s t : State} {c : Crane} {w w' : WindRecord}

/-! ### The automatic vane attempt and entry to STOP (R130) -/

theorem vaneAttempt_heads (hw : (s.windOf c).state = .stop) (hm : s.mode = .armed) (hk : s.parked c = true) :
    vaneAttempt c s = enterVanePending c .vaneAuto s := by
  rw [vaneAttempt, if_pos hw, if_pos ⟨hm, hk⟩]

theorem vaneAttempt_waits (hw : (s.windOf c).state = .stop) (h : ¬ (s.mode = .armed ∧ s.parked c = true)) :
    vaneAttempt c s = s.setWind c { s.windOf c with vaneWait := true } := by
  rw [vaneAttempt, if_pos hw, if_neg h]

theorem vaneAttempt_elsewhere (hw : (s.windOf c).state ≠ .stop) : vaneAttempt c s = s := if_neg hw

/-- R125, R130: the wind record of a crane that has entered STOP. -/
def WindRecord.stopped (w : WindRecord) (delay : Timer) : WindRecord :=
  { w with state := .stop, stopCount := 0, alertCount := 0, calmCount := 0, vaneDelay := delay }

/-- R129, R130: the state after entry to STOP, before a vane attempt within the event. -/
def State.stopped (s : State) (c : Crane) (cause : Nat) (delay : Timer) : State :=
  s.rewound c ((s.windOf c).stopped delay) [] (s.windStateEvent c .stop cause)

theorem stopped_windOf_self {cause : Nat} {delay : Timer} :
    (s.stopped c cause delay).windOf c = (s.windOf c).stopped delay := rewound_windOf_self

/-- Entry to STOP leaves the mode and whether the crane is parked as they were. -/
theorem stopped_mode {cause : Nat} {delay : Timer} : (s.stopped c cause delay).mode = s.mode := by
  rw [State.stopped, rewound_eq]

theorem stopped_parked {cause : Nat} {delay : Timer} : (s.stopped c cause delay).parked c = s.parked c := by
  rw [State.stopped, rewound_eq]; rfl

theorem stopped_changesWind {cause : Nat} {delay : Timer} :
    s.ChangesWind (s.stopped c cause delay) c ((s.windOf c).stopped delay) cause := rewound_changesWind cause

theorem enterStop_manual (cause : WindCause) (h : (s.profileOf c).vaneMode = .manual) :
    enterStop c cause s = s.stopped c (windCauseCode cause) none := by
  simp only [enterStop, h, State.stopped, State.rewound, State.send_nil]
  rfl

theorem enterStop_delayed (cause : WindCause) (h : (s.profileOf c).vaneMode = .auto)
    (hd : (s.profileOf c).vaneDelay ≠ 0) :
    enterStop c cause s = s.stopped c (windCauseCode cause) (some (s.profileOf c).vaneDelay) := by
  simp only [enterStop, h, State.stopped, State.rewound, State.send_nil, beq_self_eq_true, Bool.true_and,
    bne_iff_ne.mpr hd, beq_eq_false_iff_ne.mpr hd, if_true, Bool.false_eq_true, if_false]
  rfl

/-- R130: a vane delay of 0 makes the attempt within the event. -/
theorem enterStop_atOnce (cause : WindCause) (h : (s.profileOf c).vaneMode = .auto)
    (hd : (s.profileOf c).vaneDelay = 0) :
    enterStop c cause s = vaneAttempt c (s.stopped c (windCauseCode cause) none) := by
  simp only [enterStop, h, hd, State.stopped, State.rewound, State.send_nil, beq_self_eq_true, Bool.and_self,
    bne_self_eq_false, Bool.and_false, if_true, Bool.false_eq_true, if_false]
  rfl

/-- R129: a later touch of the record in the same event, of nothing that the beacon condition reads, is part of the
change. -/
theorem State.ChangesWind.setWind {cause : Nat} (h : s.ChangesWind t c w cause) (hstate : w'.state = w.state)
    (hsource : w'.source = w.source) : s.ChangesWind (t.setWind c w') c w' cause := by
  obtain ⟨hframe, htells⟩ := h
  have hwind : t.windOf c = w := by rw [hframe]; exact Bank.read_write_self _ _ _
  refine ⟨?_, htells.congr rfl rfl (beaconCondition_congr rfl ?_ ?_) fun _ h => h⟩
  · rw [hstate]
    refine (congrArg (fun x : State => x.setWind c w') hframe).trans ?_
    simp only [State.setWind, Bank.write_again]
  · rw [State.setWind_windOf_self, hwind, hsource]
  · rw [State.setWind_windOf_self, hwind, hstate]

/-- R130: entry to STOP by vane mode and vane delay. -/
theorem enterStop_stops (s : State) (c : Crane) (cause : WindCause) :
    let p := s.profileOf c
    let w := s.windOf c
    let e := s.windStateEvent c .stop (windCauseCode cause)
    let u : State :=
      { s with
        winds := s.winds.write c (w.stopped none), events := (s.post e).events, overflow := (s.post e).overflow }
    let t := enterStop c cause s
    (p.vaneMode = .manual → s.ChangesWind t c (w.stopped none) (windCauseCode cause)) ∧
    (p.vaneMode = .auto → p.vaneDelay ≠ 0 →
      s.ChangesWind t c (w.stopped (some p.vaneDelay)) (windCauseCode cause)) ∧
    (p.vaneMode = .auto → p.vaneDelay = 0 → (s.mode = .config ∨ s.parked c = false) →
      s.ChangesWind t c { w.stopped none with vaneWait := true } (windCauseCode cause)) ∧
    (p.vaneMode = .auto → p.vaneDelay = 0 → s.mode = .armed → s.parked c = true → u.HeadsForVane t c 3) := by
  have hstop {delay : Timer} : ((s.stopped c (windCauseCode cause) delay).windOf c).state = .stop := by
    rw [stopped_windOf_self]; rfl
  refine ⟨fun hp => ?_, fun hp hd => ?_, fun hp hd hnot => ?_, fun hp hd hm hk => ?_⟩
  · rw [enterStop_manual cause hp]
    exact stopped_changesWind
  · rw [enterStop_delayed cause hp hd]
    exact stopped_changesWind
  · have hmay : ¬ (s.mode = .armed ∧ s.parked c = true) := by
      rintro ⟨hm, hk⟩
      rcases hnot with hnot | hnot
      · rw [hm] at hnot; cases hnot
      · rw [hk] at hnot; cases hnot
    rw [enterStop_atOnce cause hp hd, vaneAttempt_waits hstop (by rw [stopped_mode, stopped_parked]; exact hmay),
      stopped_windOf_self]
    exact stopped_changesWind.setWind rfl rfl
  · rw [enterStop_atOnce cause hp hd, vaneAttempt_heads hstop (stopped_mode.trans hm) (stopped_parked.trans hk)]
    refine (enterVanePending_headsForVane .vaneAuto).of_vaneDelay (w := (s.windOf c).stopped none) (delay := none)
      (ns := (s.stopped c (windCauseCode cause) none).inFlight) ?_ ?_
    · exact congrArg (fun w : WindRecord => { w with vaneDelay := none })
        (Bank.read_write_self s.winds c ((s.windOf c).stopped none)).symm
    · rw [Bank.write_again, State.stopped, rewound_eq]

/-! ### The counts (R124 to R126) -/

/-- R125: the stop count after an evaluation. -/
def State.stopCountAfter (s : State) (c : Crane) : Nat :=
  if (s.profileOf c).stopGust ≤ s.gustNumber c ∨ (s.profileOf c).stopMean ≤ s.meanNumber c then
    min ((s.windOf c).stopCount + 1) ((s.profileOf c).debounce + 1)
  else 0

/-- R125: the alert count after an evaluation in CALM. -/
def State.alertCountAfter (s : State) (c : Crane) : Nat :=
  if (s.profileOf c).alertOn ≤ s.gustNumber c then
    min ((s.windOf c).alertCount + 1) ((s.profileOf c).debounce + 1)
  else 0

/-- R126: the calm count after an evaluation in ALERT. -/
def State.calmCountAfter (s : State) (c : Crane) : Nat :=
  if s.gustNumber c ≤ (s.profileOf c).alertOff ∧ s.meanNumber c ≤ (s.profileOf c).alertOff then
    min ((s.windOf c).calmCount + 1) ((s.profileOf c).debounce + 1)
  else 0

/-- R124: a count fires when it reaches D + 1, and it never passes it. -/
theorem countAfter_fires {d n : Nat} {met : Bool} : countAfter d n met ≥ d + 1 ↔ countAfter d n met = d + 1 := by
  unfold countAfter
  split <;> omega

theorem countAfter_stop :
    countAfter (s.profileOf c).debounce (s.windOf c).stopCount
      (stopMet (s.profileOf c) (s.gustNumber c) (s.meanNumber c)) = s.stopCountAfter c := by
  simp [countAfter, stopMet, State.stopCountAfter]

theorem countAfter_alert :
    countAfter (s.profileOf c).debounce (s.windOf c).alertCount (decide ((s.profileOf c).alertOn ≤ s.gustNumber c)) =
      s.alertCountAfter c := by
  simp [countAfter, State.alertCountAfter]

theorem countAfter_calm :
    countAfter (s.profileOf c).debounce (s.windOf c).calmCount
      (bothBelow (s.profileOf c).alertOff (s.gustNumber c) (s.meanNumber c)) = s.calmCountAfter c := by
  simp [countAfter, bothBelow, State.calmCountAfter]

theorem stopCountAfter_fires :
    s.stopCountAfter c ≥ (s.profileOf c).debounce + 1 ↔ s.stopCountAfter c = (s.profileOf c).debounce + 1 := by
  rw [← countAfter_stop]; exact countAfter_fires

theorem alertCountAfter_fires :
    s.alertCountAfter c ≥ (s.profileOf c).debounce + 1 ↔ s.alertCountAfter c = (s.profileOf c).debounce + 1 := by
  rw [← countAfter_alert]; exact countAfter_fires

theorem calmCountAfter_fires :
    s.calmCountAfter c ≥ (s.profileOf c).debounce + 1 ↔ s.calmCountAfter c = (s.profileOf c).debounce + 1 := by
  rw [← countAfter_calm]; exact countAfter_fires

theorem enterCalmOrAlert_eq (new : WindState) (count : Nat) :
    enterCalmOrAlert c new count s = s.rewound c
      { s.windOf c with state := new, stopCount := count, alertCount := 0, calmCount := 0 } []
      (s.windStateEvent c new 0) := by
  rw [State.rewound, State.send_nil]
  rfl

theorem enterCalmOrAlert_changesWind (new : WindState) (count : Nat) :
    s.ChangesWind (enterCalmOrAlert c new count s) c
      { s.windOf c with state := new, stopCount := count, alertCount := 0, calmCount := 0 } 0 := by
  rw [enterCalmOrAlert_eq]
  exact rewound_changesWind 0

/-! ### What an evaluation does in each state (R124) -/

theorem takeEvaluation_unfit (h : (s.crane c).present = false ∨ profileValid (s.profileOf c) = false) :
    takeEvaluation c s = s := if_pos (by rcases h with h | h <;> simp [h])

/-- R135: a crane on the way to vane takes no notice of evaluations. -/
theorem takeEvaluation_vaning (hw : (s.windOf c).state = .vanePending ∨ (s.windOf c).state = .vane) :
    takeEvaluation c s = s := by
  unfold takeEvaluation
  rcases hw with hw | hw <;> simp only [hw, ite_self]

section Fit

variable (hp : (s.crane c).present = true) (hv : profileValid (s.profileOf c) = true)

include hp hv

theorem takeEvaluation_calm (hw : (s.windOf c).state = .calm) :
    takeEvaluation c s =
      if (s.windOf c).source = .none then enterStop c .source s
      else if s.stopCountAfter c = (s.profileOf c).debounce + 1 then enterStop c .threshold s
      else if s.alertCountAfter c = (s.profileOf c).debounce + 1 then
        enterCalmOrAlert c .alert (s.stopCountAfter c) s
      else s.setWind c
        { s.windOf c with stopCount := s.stopCountAfter c, alertCount := s.alertCountAfter c, calmCount := 0 } := by
  unfold takeEvaluation
  simp only [hp, hv, hw, Bool.and_self, Bool.not_true, Bool.false_eq_true, if_false, countAfter_stop, countAfter_alert,
    stopCountAfter_fires, alertCountAfter_fires]

theorem takeEvaluation_alert (hw : (s.windOf c).state = .alert) :
    takeEvaluation c s =
      if (s.windOf c).source = .none then enterStop c .source s
      else if s.stopCountAfter c = (s.profileOf c).debounce + 1 then enterStop c .threshold s
      else if s.calmCountAfter c = (s.profileOf c).debounce + 1 then
        enterCalmOrAlert c .calm (s.stopCountAfter c) s
      else s.setWind c
        { s.windOf c with stopCount := s.stopCountAfter c, alertCount := 0, calmCount := s.calmCountAfter c } := by
  unfold takeEvaluation
  simp only [hp, hv, hw, Bool.and_self, Bool.not_true, Bool.false_eq_true, if_false, countAfter_stop, countAfter_calm,
    stopCountAfter_fires, calmCountAfter_fires]

theorem takeEvaluation_stop (hw : (s.windOf c).state = .stop) :
    takeEvaluation c s =
      if (s.windOf c).source ≠ .none ∧ s.gustNumber c ≤ (s.profileOf c).stopOff ∧
          s.meanNumber c ≤ (s.profileOf c).stopOff then
        s.setWind c { s.windOf c with recovery := some ((s.windOf c).recovery.getD (s.profileOf c).recovery) }
      else s.setWind c { s.windOf c with recovery := none } := by
  have hrecovery : (if (s.windOf c).recovery = none then some (s.profileOf c).recovery else (s.windOf c).recovery) =
      some ((s.windOf c).recovery.getD (s.profileOf c).recovery) := by
    cases (s.windOf c).recovery <;> rfl
  unfold takeEvaluation
  simp only [hp, hv, hw, Bool.and_self, Bool.not_true, Bool.false_eq_true, if_false, hrecovery, bothBelow,
    Bool.and_eq_true, decide_eq_true_eq]

/-- R125, R128: what takes a crane in CALM or ALERT to STOP. -/
theorem takeEvaluation_sourceless (hw : (s.windOf c).state = .calm ∨ (s.windOf c).state = .alert)
    (hsource : (s.windOf c).source = .none) : takeEvaluation c s = enterStop c .source s := by
  rcases hw with hw | hw
  · rw [takeEvaluation_calm hp hv hw, if_pos hsource]
  · rw [takeEvaluation_alert hp hv hw, if_pos hsource]

theorem takeEvaluation_fires (hw : (s.windOf c).state = .calm ∨ (s.windOf c).state = .alert)
    (hsource : (s.windOf c).source ≠ .none) (hstop : s.stopCountAfter c = (s.profileOf c).debounce + 1) :
    takeEvaluation c s = enterStop c .threshold s := by
  rcases hw with hw | hw
  · rw [takeEvaluation_calm hp hv hw, if_neg hsource, if_pos hstop]
  · rw [takeEvaluation_alert hp hv hw, if_neg hsource, if_pos hstop]

end Fit

/-- Settles O50: each clause takes its branch of the evaluation in the crane's state, and the lemma of the change it
makes. -/
theorem evaluationApplied : Obligations.EvaluationApplied := by
  intro s c h p w gust mean stopCount alertCount calmCount changes stops
  have hexec {t : State} (ht : takeEvaluation c s = t) : exec (.evaluation c) s = .next t := by
    rw [exec_evaluation h, ht]
  have stopping (cause : WindCause) (ht : takeEvaluation c s = enterStop c cause s) : stops (windCauseCode cause) := by
    obtain ⟨hmanual, hdelayed, hwaits, hheads⟩ := enterStop_stops s c cause
    exact ⟨fun hm => ⟨_, hexec ht, hmanual hm⟩, fun hm hd => ⟨_, hexec ht, hdelayed hm hd⟩,
      fun hm hd hn => ⟨_, hexec ht, hwaits hm hd hn⟩, fun hm hd ha hk => ⟨_, hexec ht, hheads hm hd ha hk⟩⟩
  refine ⟨fun hunfit => hexec (takeEvaluation_unfit hunfit), fun hp hv => ?_⟩
  refine ⟨fun hw => hexec (takeEvaluation_vaning hw),
    fun hw hsource => stopping .source (takeEvaluation_sourceless hp hv hw hsource),
    fun hw hsource hstop => stopping .threshold (takeEvaluation_fires hp hv hw hsource hstop),
    fun hw hsource hstop halert => ?_, fun hw hsource hstop halert => hexec ?_, fun hw hsource hstop hcalm => ?_,
    fun hw hsource hstop hcalm => hexec ?_, fun hw hsource hgust hmean => hexec ?_, fun hw hhigh => hexec ?_⟩
  · exact ⟨_, hexec ((takeEvaluation_calm hp hv hw).trans
      ((if_neg hsource).trans ((if_neg hstop).trans (if_pos halert)))), enterCalmOrAlert_changesWind _ _⟩
  · exact (takeEvaluation_calm hp hv hw).trans ((if_neg hsource).trans ((if_neg hstop).trans (if_neg halert)))
  · exact ⟨_, hexec ((takeEvaluation_alert hp hv hw).trans
      ((if_neg hsource).trans ((if_neg hstop).trans (if_pos hcalm)))), enterCalmOrAlert_changesWind _ _⟩
  · exact (takeEvaluation_alert hp hv hw).trans ((if_neg hsource).trans ((if_neg hstop).trans (if_neg hcalm)))
  · rw [takeEvaluation_stop hp hv hw, if_pos ⟨hsource, hgust, hmean⟩]
  · refine (takeEvaluation_stop hp hv hw).trans (if_neg ?_)
    rintro ⟨hsource, hgust, hmean⟩
    rcases hhigh with hhigh | hhigh | hhigh
    · exact hsource hhigh
    · exact absurd hgust hhigh.not_ge
    · exact absurd hmean hhigh.not_ge

end Sys2Proof.Machine
end

/-! ## The recovery, vane delay and vane timeout timers (R127, R130, R134, R137): O51 -/

section
namespace Sys2Proof.Machine

variable {s t : State} {c d : Crane} {k : Sector}

/-! ### The recovery timer (R127) -/

/-- R127: the wind record of a crane that has recovered from STOP. -/
def WindRecord.recovered (w : WindRecord) : WindRecord :=
  { w with
    state := .alert, stopCount := 0, alertCount := 0, calmCount := 0, recovery := none, vaneDelay := none,
    vaneWait := false }

theorem recoveryRuns_eq_false_iff : s.recoveryRuns c = false ↔ ¬ s.RecoveryRuns c := by
  rw [← Bool.not_eq_true, recoveryRuns_iff]
  rfl

theorem expireRecovery_stands
    (h : (s.windOf c).recovery = none ∨ (s.windOf c).state ≠ .stop ∨ ¬ s.RecoveryRuns c) : expireRecovery c s = s :=
  if_pos (by rwa [recoveryRuns_eq_false_iff])

theorem expireRecovery_recovers (hrecovery : (s.windOf c).recovery ≠ none) (hw : (s.windOf c).state = .stop)
    (hruns : s.RecoveryRuns c) :
    expireRecovery c s = s.rewound c (s.windOf c).recovered [] (s.windStateEvent c .alert 1) := by
  rw [State.rewound, State.send_nil]
  refine if_neg ?_
  rw [recoveryRuns_eq_false_iff]
  rintro (h | h | h)
  · exact hrecovery h
  · exact h hw
  · exact h hruns

theorem State.setWind_again (s : State) (c : Crane) (w w' : WindRecord) :
    (s.setWind c w).setWind c w' = s.setWind c w' := by
  simp only [State.setWind, Bank.write_again]

/-! ### The vane delay timer and a pending attempt (R130) -/

theorem expireVaneDelay_stands (h : (s.windOf c).vaneDelay = none ∨ (s.crane c).present = false) :
    expireVaneDelay c s = s := if_pos h

theorem expireVaneDelay_attempts (hdelay : (s.windOf c).vaneDelay ≠ none) (hp : (s.crane c).present = true) :
    expireVaneDelay c s = vaneAttempt c (s.setWind c { s.windOf c with vaneDelay := none }) :=
  if_neg (by simp [hdelay, hp])

theorem takeMotionNotice_idle (h : (s.windOf c).vaneWait = false) : takeMotionNotice c s = s := if_neg (by simp [h])

theorem takeMotionNotice_attempts (h : (s.windOf c).vaneWait = true) : takeMotionNotice c s = vaneAttempt c s :=
  if_pos h

/-- R130: a pending attempt that may not be made leaves the crane waiting as it was. -/
theorem vaneAttempt_waitsOn (hwait : (s.windOf c).vaneWait = true)
    (h : (s.windOf c).state ≠ .stop ∨ ¬ (s.mode = .armed ∧ s.parked c = true)) : vaneAttempt c s = s := by
  have hsame : ({ s.windOf c with vaneWait := true } : WindRecord) = s.windOf c := by rw [← hwait]
  by_cases hw : (s.windOf c).state = .stop
  · rw [vaneAttempt_waits hw (h.resolve_left (not_not.mpr hw)), hsame, State.setWind, State.windOf, Bank.write_read]
  · exact vaneAttempt_elsewhere hw

/-- R130: the automatic attempt of a parked crane in the ARMED site heads for vane, whatever the vane delay timer
stood at. -/
theorem vaneAttempt_headsForVane {delay : Timer} (hw : (s.windOf c).state = .stop) (hm : s.mode = .armed)
    (hk : s.parked c = true) :
    s.HeadsForVane (vaneAttempt c (s.setWind c { s.windOf c with vaneDelay := delay })) c 3 := by
  rw [vaneAttempt_heads (by rw [State.setWind_windOf_self]; exact hw) (by exact hm) (by exact hk)]
  exact (enterVanePending_headsForVane .vaneAuto).of_vaneDelay rfl rfl

/-! ### The vane timeout timer (R134) -/

theorem mem_occupants : d ∈ s.occupants k ↔ d ∈ (s.entry k).presence ∧ d ∉ s.locksOf k := by
  simp [State.occupants, mem_allCranes]

/-- R134: the lowest-numbered member present in a sector outside its lock set. -/
theorem occupants_head?_eq_some (hd : d ∈ (s.entry k).presence) (hlock : d ∉ s.locksOf k)
    (hleast : ∀ e, e ∈ (s.entry k).presence → e ∉ s.locksOf k → d ≤ e) : (s.occupants k).head? = some d := by
  have hascending : (s.occupants k).Pairwise (· < ·) := allCranes_ascending.filter _
  have hmem : d ∈ s.occupants k := mem_occupants.mpr ⟨hd, hlock⟩
  cases hl : s.occupants k with
  | nil => rw [hl] at hmem; cases hmem
  | cons x xs =>
    rw [hl] at hascending hmem
    obtain ⟨hx, hxlock⟩ := mem_occupants.mp (hl ▸ List.mem_cons_self : x ∈ s.occupants k)
    rcases List.mem_cons.mp hmem with rfl | hxs
    · rfl
    · exact absurd ((List.pairwise_cons.mp hascending).1 d hxs) (hleast x hx hxlock).not_gt

theorem expireVaneTimeout_stands
    (h : (s.windOf c).vaneTimeout = none ∨ (s.windOf c).state ≠ .vanePending ∨ (s.crane c).present = false) :
    expireVaneTimeout c s = s := if_pos h

section Expires

variable (htimeout : (s.windOf c).vaneTimeout ≠ none) (hw : (s.windOf c).state = .vanePending)
  (hp : (s.crane c).present = true)

include htimeout hw hp

theorem expireVaneTimeout_silent (h : ∀ k, ¬ s.BlocksVane c k) :
    expireVaneTimeout c s = s.setWind c { s.windOf c with vaneTimeout := none } := by
  unfold expireVaneTimeout
  simp [htimeout, hw, hp, handshakeFailure_eq_none_iff.mpr h]

variable (hfirst : s.handshakeFailure c = some k)

include hfirst

theorem expireVaneTimeout_unlocked (hlock : c ∉ s.locksOf k) :
    expireVaneTimeout c s =
      (s.setWind c { s.windOf c with vaneTimeout := none }).post
        (eventOf .vaneBlocked (some c) (some k) 0 noneArg) := by
  unfold expireVaneTimeout
  simp [htimeout, hw, hp, hfirst, hlock]

theorem expireVaneTimeout_occupied (hlock : c ∈ s.locksOf k) (hd : (s.occupants k).head? = some d) :
    expireVaneTimeout c s =
      (s.setWind c { s.windOf c with vaneTimeout := none }).post
        (eventOf .vaneBlocked (some c) (some k) 1 d.val) := by
  unfold expireVaneTimeout
  simp [htimeout, hw, hp, hfirst, hlock, hd]

end Expires

/-- Settles O51: a timer that stands is no event; otherwise the recovery timer's is a change of wind state, the vane
delay's an attempt, and the vane timeout's looks for the first sector that keeps the crane from vaning. -/
theorem windTimersExpire : Obligations.WindTimersExpire := by
  intro s c h w may
  have hdelayed : (s.setWind c { w with vaneDelay := none }).windOf c = { w with vaneDelay := none } :=
    State.setWind_windOf_self _ _ _
  refine ⟨fun hstands => ?_, fun hrecovery hw hruns => ?_, fun hstands => ?_, fun hdelay hp => ⟨fun hw => ?_,
    fun hw hmay => ?_, fun hw hmay => ?_⟩, fun hidle => ?_, fun hwait hw hmay => ?_, fun hstands => ?_,
    fun htimeout hw hp => ⟨fun k hk hleast => ⟨fun hlock => ?_, fun d hlock hd hdlock hdleast => ?_⟩, fun hfree => ?_⟩⟩
  · rw [exec_recoveryExpiry h, expireRecovery_stands hstands]
  · rw [exec_recoveryExpiry h, expireRecovery_recovers hrecovery hw hruns]
    exact ⟨_, rfl, rewound_changesWind (w := w.recovered) 1⟩
  · rw [exec_vaneDelayExpiry h, expireVaneDelay_stands hstands]
  · rw [exec_vaneDelayExpiry h, expireVaneDelay_attempts hdelay hp, vaneAttempt_elsewhere (by rw [hdelayed]; exact hw)]
  · rw [exec_vaneDelayExpiry h, expireVaneDelay_attempts hdelay hp,
      vaneAttempt_waits (by rw [hdelayed]; exact hw) (by exact hmay), hdelayed, State.setWind_again]
  · rw [exec_vaneDelayExpiry h, expireVaneDelay_attempts hdelay hp]
    exact ⟨_, rfl, vaneAttempt_headsForVane hw hmay.1 hmay.2⟩
  · rw [exec_motionFrameNotice h]
    cases hwait : w.vaneWait with
    | false => rw [takeMotionNotice_idle hwait]
    | true =>
      rw [takeMotionNotice_attempts hwait, vaneAttempt_waitsOn hwait (hidle.resolve_left (by rw [hwait]; nofun))]
  · rw [exec_motionFrameNotice h, takeMotionNotice_attempts hwait, vaneAttempt_heads hw hmay.1 hmay.2]
    exact ⟨_, rfl, enterVanePending_headsForVane .vaneAuto⟩
  · rw [exec_vaneTimeoutExpiry h, expireVaneTimeout_stands hstands]
  · rw [exec_vaneTimeoutExpiry h,
      expireVaneTimeout_unlocked htimeout hw hp (handshakeFailure_eq_some_iff.mpr ⟨hk, hleast⟩) hlock]
    rfl
  · rw [exec_vaneTimeoutExpiry h,
      expireVaneTimeout_occupied htimeout hw hp (handshakeFailure_eq_some_iff.mpr ⟨hk, hleast⟩) hlock
        (occupants_head?_eq_some hd hdlock hdleast)]
  · rw [exec_vaneTimeoutExpiry h, expireVaneTimeout_silent htimeout hw hp hfree]

end Sys2Proof.Machine
end

/-! ## The handshake, VANE and RESUME (R131 to R133, R136): O52 -/

section
namespace Sys2Proof.Machine

variable {s t : State} {c d : Crane} {k : Sector} {cs : List Crane}

/-! ### A handshake report (R133) -/

/-- R133: crane `d` is in VANE_PENDING and no sector keeps it from vaning. -/
def State.frees (s : State) (d : Crane) : Bool :=
  (s.windOf d).state == .vanePending && decide (∀ k, ¬ s.BlocksVane d k)

theorem frees_iff : s.frees d = true ↔ (s.windOf d).state = .vanePending ∧ ∀ k, ¬ s.BlocksVane d k := by
  simp [State.frees]

/-- R133: the event of a crane that enters VANE. -/
def State.releasedEvent (s : State) (d : Crane) : EventBody :=
  eventOf .vaneReleased (some d) none (s.sectorsOf d).length

/-- R133: a crane's condition examined. -/
theorem examineHandshake_eq :
    examineHandshake c s = if s.frees c = true then s.rewound c (s.windOf c).freed [] (s.releasedEvent c) else s := by
  split
  · next h =>
    obtain ⟨hw, hfree⟩ := frees_iff.mp h
    exact examineHandshake_frees hw hfree
  · next h =>
    rw [frees_iff, not_and_or, not_forall_not] at h
    exact examineHandshake_keeps h

/-- R133: what the examinations of several cranes, one after the other, make of a state. -/
structure State.Examined (s t : State) (cs : List Crane) : Prop where
  frame : t = { s with
    winds := t.winds
    events := (s.postAll ((cs.filter s.frees).map s.releasedEvent)).events
    overflow := (s.postAll ((cs.filter s.frees).map s.releasedEvent)).overflow
    inFlight := t.inFlight }
  windOf : ∀ d, t.windOf d = if d ∈ cs ∧ s.frees d = true then (s.windOf d).freed else s.windOf d
  grows : ∀ n ∈ s.inFlight, n ∈ t.inFlight
  tells : ∀ d ∈ cs, s.frees d = true → s.TellsWindState t d

theorem State.Examined.nil : s.Examined s [] := ⟨rfl, fun _ => by simp, fun _ h => h, nofun⟩

theorem examineHandshake_other (hd : d ≠ c) :
    (examineHandshake c s).windOf d = s.windOf d ∧ (examineHandshake c s).frees d = s.frees d ∧
      (examineHandshake c s).beaconCondition d = s.beaconCondition d := by
  rw [examineHandshake_eq]
  split
  · have hwind : (s.rewound c (s.windOf c).freed [] (s.releasedEvent c)).windOf d = s.windOf d := by
      rw [rewound_windOf, if_neg hd]
    exact ⟨hwind, by simp only [State.frees, hwind, rewound_blocksVane], rewound_beaconCondition_ne hd⟩
  · exact ⟨rfl, rfl, rfl⟩

/-- R133: a crane that is freed, before the examinations of others. -/
theorem State.Examined.cons_frees (hc : c ∉ cs) (hf : s.frees c = true)
    (h : (examineHandshake c s).Examined t cs) : s.Examined t (c :: cs) := by
  obtain ⟨hframe, hwind, hgrows, htells⟩ := h
  have hfirst : examineHandshake c s = s.rewound c (s.windOf c).freed [] (s.releasedEvent c) := by
    rw [examineHandshake_eq, if_pos hf]
  have hother (d : Crane) (hd : d ≠ c) := examineHandshake_other (s := s) hd
  have hne {d : Crane} (hd : d ∈ cs) : d ≠ c := fun e => hc (e ▸ hd)
  have hevents : (cs.filter (examineHandshake c s).frees).map (examineHandshake c s).releasedEvent =
      (cs.filter s.frees).map s.releasedEvent := by
    rw [List.filter_congr fun d hd => (hother d (hne hd)).2.1, hfirst, rewound_eq]
    rfl
  obtain ⟨he, ho⟩ := postAll_congr ((cs.filter s.frees).map s.releasedEvent) (s := s.post (s.releasedEvent c))
    (t := examineHandshake c s) (by rw [hfirst, rewound_eq]) (by rw [hfirst, rewound_eq])
    (by rw [hfirst, rewound_eq, State.post_mask]) (by rw [hfirst, rewound_eq, State.post_clock])
    (by rw [hfirst, rewound_eq, State.post_clockSet])
  have hbut := frame_of_butWinds (examineHandshake_butWinds c s)
  have hcrane (d : Crane) : (examineHandshake c s).crane d = s.crane d := by rw [hbut]; rfl
  have hin (n : Notice) (hn : n ∈ s.inFlight) : n ∈ (examineHandshake c s).inFlight := by
    rw [hfirst]; exact mem_rewound_inFlight.mpr (.inl hn)
  have hself : t.windOf c = (examineHandshake c s).windOf c := by rw [hwind, if_neg fun h => hc h.1]
  have hposition (d : Crane) : t.position d = (examineHandshake c s).position d := by rw [hframe]; rfl
  refine ⟨?_, fun d => ?_, fun n hn => hgrows n (hin n hn), fun d hd hfd => ?_⟩
  · rw [List.filter_cons_of_pos hf, List.map_cons, State.postAll_cons, ← he, ← ho, ← hevents]
    refine hframe.trans ?_
    generalize (examineHandshake c s).postAll _ = v
    rw [hbut]
  · by_cases hd : d = c
    · subst hd
      rw [if_pos ⟨List.mem_cons_self, hf⟩, hself, hfirst, rewound_windOf_self]
    · obtain ⟨hw, hfr, -⟩ := hother d hd
      rw [hwind, hw, hfr]
      simp [hd]
  · rcases List.mem_cons.mp hd with rfl | hd
    · have htold : s.TellsWindState (examineHandshake d s) d := by rw [hfirst]; exact rewound_tells
      exact htold.congr rfl rfl (beaconCondition_congr (by rw [hposition]) (by rw [hself]) (by rw [hself])) hgrows
    · obtain ⟨-, hfr, hcond⟩ := hother d (hne hd)
      exact (htells d hd (hfr.trans hfd)).congr (by rw [hcrane]) hcond.symm rfl fun _ h => h

theorem State.Examined.cons (hc : c ∉ cs) (h : (examineHandshake c s).Examined t cs) : s.Examined t (c :: cs) := by
  by_cases hf : s.frees c = true
  · exact .cons_frees hc hf h
  · rw [examineHandshake_eq, if_neg hf] at h
    obtain ⟨hframe, hwind, hgrows, htells⟩ := h
    refine ⟨by rwa [List.filter_cons_of_neg hf], fun d => ?_, hgrows, fun d hd hfd => ?_⟩
    · rw [hwind]
      by_cases hd : d = c
      · subst hd; simp [hf]
      · simp [hd]
    · exact htells d ((List.mem_cons.mp hd).resolve_left fun e => hf (e ▸ hfd)) hfd

theorem foldl_examineHandshake (hn : cs.Nodup) (s : State) :
    s.Examined (cs.foldl (fun t c => examineHandshake c t) s) cs := by
  induction cs generalizing s with
  | nil => exact .nil
  | cons c cs ih =>
    obtain ⟨hc, hcs⟩ := List.nodup_cons.mp hn
    exact .cons hc (ih hcs _)

/-- R133: a handshake report examines the members of its sector. -/
theorem takeHandshake_examines (k : Sector) (s : State) :
    s.Examined (takeHandshake k s) (allCranes.filter (fun d => s.isMember k d)) :=
  foldl_examineHandshake (allCranes_nodup.filter _) s

/-! ### The checks of VANE and RESUME (R131, R136) -/

/-- R131, R136: a crane number above 7 is refused. -/
theorem craneCommand_above {n : Byte} (h : 7 < n.toNat) (f : Crane → State → Answer) :
    craneCommand [n] f s = refuse s .badIndex := by
  have hn : numberOf [n] = n.toNat := by simp [numberOf]
  have hcut : cutFields [1] [n] = some [n.toNat] := (cutFields_one [n]).trans (by rw [hn])
  rw [craneCommand, withOperands_cut hcut]
  exact if_pos (.inl h)

/-- R131, R136: the first two checks for crane `c`. -/
theorem craneCommand_crane (c : Crane) (f : Crane → State → Answer) :
    craneCommand (octet1 c.val) f s =
      if (s.crane c).present = false then refuse s .badIndex
      else if s.mode = .config then refuse s .notArmed
      else f c s := by
  have hfin : Fin.ofNat 8 c.val = c := Fin.ofNat_val_eq_self c
  have hle : ¬ c.val > 7 := by omega
  rw [craneCommand, withOperands_cut (cutFields_last1 c.val), numberOf_octet1 (by omega)]
  simp only [List.headD_cons, hfin, hle, false_or, Bool.not_eq_true]

theorem craneCommand_armed (hp : (s.crane c).present = true) (hm : s.mode = .armed) (f : Crane → State → Answer) :
    craneCommand (octet1 c.val) f s = f c s := by
  rw [craneCommand_crane, if_neg (by rw [hp]; nofun), if_neg (by rw [hm]; nofun)]

theorem vaneCrane_armed (hp : (s.crane c).present = true) (hm : s.mode = .armed) :
    vaneCrane (octet1 c.val) s =
      if (s.windOf c).state ≠ .stop then refuse s .wrongState
      else if s.parked c = false then refuse s .notParked
      else accept (enterVanePending c .vaneCommand s) := by
  rw [vaneCrane, craneCommand_armed hp hm]
  simp only [Bool.not_eq_true]

theorem resumeOp_armed (hp : (s.crane c).present = true) (hm : s.mode = .armed) :
    resumeOp (octet1 c.val) s =
      if (s.windOf c).state ≠ .vanePending ∧ (s.windOf c).state ≠ .vane then refuse s .wrongState
      else if s.windTooHigh c = true then refuse s .windHigh
      else accept (resumeCrane c s) := craneCommand_armed hp hm _

/-- R136: the wind is low enough for a RESUME. -/
def State.WindLow (s : State) (c : Crane) : Prop :=
  (s.windOf c).source ≠ .none ∧ s.gustNumber c ≤ (s.profileOf c).stopOff ∧ s.meanNumber c ≤ (s.profileOf c).stopOff

theorem windTooHigh_iff : s.windTooHigh c = true ↔ ¬ s.WindLow c := by
  simp only [State.windTooHigh, State.WindLow, Bool.or_eq_true, beq_iff_eq, decide_eq_true_eq, not_and_or, not_not,
    not_le, or_assoc]

/-! ### An accepted RESUME (R136) -/

/-- R136: the wind record of a crane that has resumed. -/
def WindRecord.resumed (w : WindRecord) : WindRecord :=
  { w with state := .alert, stopCount := 0, alertCount := 0, calmCount := 0, vaneTimeout := none }

theorem resumeCrane_eq :
    resumeCrane c s = s.rewound c (s.windOf c).resumed ((s.sectorsOf c).map (fun k => .unlock k c))
      (eventOf .resumed (some c) none (windCode (s.windOf c).state)) := rfl

theorem unlock_mem_resumeCrane (h : s.isMember k c = true) : .unlock k c ∈ (resumeCrane c s).inFlight :=
  mem_rewound_inFlight.mpr (.inr (.inl (List.mem_map.mpr ⟨k, by simp [State.sectorsOf, mem_allSectors, h], rfl⟩)))

/-- R136, R161: an accepted RESUME, answered. -/
theorem resumeCrane_answered {u : State} (tag : Byte)
    (hu : u = (resumeCrane c (s.hunting siteLink)).replied tag 0x33#8 []) :
    u = { s.answered tag 0x33#8 .ok [] with
      winds := s.winds.write c (s.windOf c).resumed
      events := (s.post (eventOf .resumed (some c) none (windCode (s.windOf c).state))).events
      overflow := (s.post (eventOf .resumed (some c) none (windCode (s.windOf c).state))).overflow
      inFlight := u.inFlight } ∧
    s.TellsWindState u c ∧ ∀ k, s.isMember k c = true → .unlock k c ∈ u.inFlight := by
  have hresumed := resumeCrane_eq (s := s.hunting siteLink) (c := c)
  refine ⟨?_, ?_, fun k hk => ?_⟩
  · obtain ⟨he, ho⟩ := post_congr (eventOf .resumed (some c) none (windCode (s.windOf c).state)) (s := s)
      (t := s.hunting siteLink) rfl rfl rfl rfl rfl
    rw [← he, ← ho, hu, hresumed, rewound_eq]
    rfl
  · have htold : (s.hunting siteLink).TellsWindState (resumeCrane c (s.hunting siteLink)) c := by
      rw [hresumed]; exact rewound_tells
    rw [hu]
    exact htold.congr rfl rfl rfl fun _ h => h
  · rw [hu]
    exact unlock_mem_resumeCrane (s := s.hunting siteLink) hk

/-- R131, R161: an accepted VANE, answered. -/
theorem enterVanePending_answered (tag : Byte) :
    (s.answered tag 0x32#8 .ok []).HeadsForVane
      ((enterVanePending c .vaneCommand (s.hunting siteLink)).replied tag 0x32#8 []) c 4 := by
  have hreplies : (enterVanePending c .vaneCommand (s.hunting siteLink)).replies = s.replies := by
    rw [frame_of_butWinds (enterVanePending_butWinds c .vaneCommand (s.hunting siteLink))]; rfl
  rw [State.replied, hreplies]
  exact (enterVanePending_headsForVane (s := s.hunting siteLink) .vaneCommand).replied rfl

/-- R133: the cranes that a handshake report frees, their events, and what tells of it. -/
theorem takeHandshake_frees (k : Sector) (s : State) :
    let freed (d : Crane) : Bool :=
      s.isMember k d && (s.windOf d).state == .vanePending && decide (∀ j, ¬ s.BlocksVane d j)
    let raised := (allCranes.filter freed).map s.releasedEvent
    let t := takeHandshake k s
    t = { s with
      winds := t.winds, events := (s.postAll raised).events, overflow := (s.postAll raised).overflow
      inFlight := t.inFlight } ∧
    ∀ d, (freed d = true → t.windOf d = (s.windOf d).freed ∧ s.TellsWindState t d) ∧
      (freed d = false → t.windOf d = s.windOf d) := by
  intro freed raised t
  obtain ⟨hframe, hwind, -, htells⟩ := takeHandshake_examines k s
  have hfreed (d : Crane) : freed d = (s.isMember k d && s.frees d) := Bool.and_assoc _ _ _
  have hraised : (allCranes.filter (fun d => s.isMember k d)).filter s.frees = allCranes.filter freed := by
    rw [List.filter_filter]
    exact List.filter_congr fun d _ => by rw [hfreed, Bool.and_comm]
  have hmem (d : Crane) :
      freed d = true ↔ d ∈ allCranes.filter (fun d => s.isMember k d) ∧ s.frees d = true := by
    rw [hfreed, Bool.and_eq_true, List.mem_filter]
    simp [mem_allCranes]
  rw [hraised] at hframe
  refine ⟨hframe, fun d => ⟨fun hd => ?_, fun hd => ?_⟩⟩
  · obtain ⟨hmember, hf⟩ := (hmem d).mp hd
    exact ⟨by rw [hwind, if_pos ⟨hmember, hf⟩], htells d hmember hf⟩
  · rw [hwind, if_neg]
    rw [← hmem, hd]
    nofun

/-- Settles O52: a handshake report examines the members of its sector; VANE and RESUME go through their checks one by
one, and what passes them all is the entry to VANE_PENDING or the return to ALERT, with its reply. -/
theorem vaneAndResume : Obligations.VaneAndResume := by
  intro s h
  refine ⟨fun k => ⟨_, exec_handshakeReport h k, takeHandshake_frees k s⟩, fun tag n hroom hn => ⟨?_, ?_⟩,
    fun tag c hroom => ?_⟩
  · exact (exec_vane h _ _).trans (congrArg _ (request_refuse hroom (craneCommand_above hn _)))
  · exact (exec_resume h _ _).trans (congrArg _ (request_refuse hroom (craneCommand_above hn _)))
  · intro w low vane resume
    have vaneRefused {r : Result} (ho : vaneCrane (octet1 c.val) (s.hunting siteLink) = refuse (s.hunting siteLink) r) :
        vane = .next (s.answered tag 0x32#8 r []) := (exec_vane h _ _).trans (congrArg _ (request_refuse hroom ho))
    have resumeRefused {r : Result} (ho : resumeOp (octet1 c.val) (s.hunting siteLink) = refuse (s.hunting siteLink) r) :
        resume = .next (s.answered tag 0x33#8 r []) := (exec_resume h _ _).trans (congrArg _ (request_refuse hroom ho))
    refine ⟨fun hp => ?_, fun hp hm => ?_, fun hp hm => ?_⟩
    · have absent (f : Crane → State → Answer) := (craneCommand_crane (s := s.hunting siteLink) c f).trans (if_pos hp)
      exact ⟨vaneRefused (absent _), resumeRefused (absent _)⟩
    · have config (f : Crane → State → Answer) := (craneCommand_crane (s := s.hunting siteLink) c f).trans
        ((if_neg ((Bool.not_eq_false _).mpr hp)).trans (if_pos hm))
      exact ⟨vaneRefused (config _), resumeRefused (config _)⟩
    · have hvane := vaneCrane_armed (s := s.hunting siteLink) (c := c) hp hm
      have hresume := resumeOp_armed (s := s.hunting siteLink) (c := c) hp hm
      have vaning (hw : w.state = .vanePending ∨ w.state = .vane) : ¬ (w.state ≠ .vanePending ∧ w.state ≠ .vane) := by
        rwa [← not_or, not_not]
      refine ⟨fun hw => vaneRefused (hvane.trans (if_pos hw)),
        fun hw hk => vaneRefused (hvane.trans ((if_neg (not_not.mpr hw)).trans (if_pos hk))), fun hw hk => ?_,
        fun hpending hvane => resumeRefused (hresume.trans (if_pos ⟨hpending, hvane⟩)),
        fun hw hlow => resumeRefused (hresume.trans ((if_neg (vaning hw)).trans (if_pos (windTooHigh_iff.mpr hlow)))),
        fun hw hlow => ?_⟩
      · have hop := hvane.trans ((if_neg (not_not.mpr hw)).trans (if_neg ((Bool.not_eq_false _).mpr hk)))
        exact ⟨_, (exec_vane h _ _).trans (congrArg _ (request_accept hroom hop)), enterVanePending_answered tag⟩
      · have hop := hresume.trans ((if_neg (vaning hw)).trans (if_neg (mt windTooHigh_iff.mp (not_not.mpr hlow))))
        have hcode : windCode w.state = if w.state = .vanePending then 3 else 4 := by
          rcases hw with hw | hw <;> rw [hw] <;> rfl
        have hanswered := resumeCrane_answered (s := s) (c := c) tag rfl
        rw [hcode] at hanswered
        exact ⟨_, (exec_resume h _ _).trans (congrArg _ (request_accept hroom hop)), hanswered⟩

end Sys2Proof.Machine
end

/-! ## The tick, the site clock and SITE HOLD (R127, R137, R145, R165, R170 to R172): O59 -/

section
namespace Sys2Proof.Machine

variable {s t : State} {low : Bool}

/-! ### Timers that have run out (R170) -/

theorem runOut_iff {timer : Timer} : runOut timer = true ↔ timer = some 0 := by simp [runOut]

theorem due_iff_runOut (s : State) (e : Expiry) : s.due e = true ↔ s.RunOut e := by
  cases e with
  | positionStale c => exact runOut_iff
  | windStale c => exact runOut_iff
  | demandTimeout c => exact runOut_iff
  | refresh c => exact runOut_iff
  | phaseEnd n => exact runOut_iff
  | keep k c => simp [State.due, State.RunOut]
  | clearing k =>
    unfold State.due State.RunOut
    dsimp only
    cases (s.entry k).base <;> simp
  | hold k =>
    unfold State.due State.RunOut
    dsimp only
    cases grantOf (s.entry k) <;> simp [runOut_iff]
  | recovery c => simp [State.due, State.RunOut, recoveryRuns_iff, runOut_iff, and_assoc]
  | vaneDelay c => simp [State.due, State.RunOut, runOut_iff]
  | vaneTimeout c => simp [State.due, State.RunOut, runOut_iff]

/-- R170: the timers counted in ticks; the others are counted in seconds. -/
def Expiry.inTicks : Expiry → Bool
  | .positionStale _ | .windStale _ | .demandTimeout _ | .refresh _ | .clearing _ | .phaseEnd _ => true
  | .keep .. | .hold _ | .recovery _ | .vaneDelay _ | .vaneTimeout _ => false

theorem mem_tickTimers {e : Expiry} : e ∈ tickTimers ↔ e.inTicks = true := by
  cases e <;> simp [tickTimers, Expiry.inTicks, mem_allCranes, mem_allSectors, mem_allLines]

theorem mem_secondTimers {e : Expiry} : e ∈ secondTimers ↔ e.inTicks = false := by
  cases e <;> simp [secondTimers, Expiry.inTicks, mem_allCranes, mem_allSectors]

theorem mem_expiries {timers : List Expiry} {n : Notice} :
    n ∈ s.expiries timers ↔ ∃ e ∈ timers, s.RunOut e ∧ n = .expiry e := by
  simp only [State.expiries, List.mem_map, List.mem_filter, due_iff_runOut, and_assoc]
  exact exists_congr fun e => and_congr_right fun _ => and_congr_right fun _ => eq_comm

/-! ### What a tick does (R170, R172) -/

/-- R170: every timer counted in ticks run down, and the divider reloaded. -/
def State.tickRun (s : State) : State := runTickTimers { s with cycles := 0, divisor := s.site.tickDivisor }

/-- R170: every timer that the tick runs down; at the 100th tick the timers counted in seconds too. -/
def State.timersRun (s : State) : State := if 100 ≤ s.ticks + 1 then runSecondTimers s.tickRun else s.tickRun

/-- R172: what a sample of HOLD_N tells. -/
def State.holdNotices (s : State) (low : Bool) : List Notice :=
  if low && s.holdLow && !s.hold then [.holdAsserted]
  else if !low && !s.holdLow && s.hold then [.holdReleased]
  else []

/-- R165, R170: what a tick brings but for SITE HOLD. -/
def State.timersNotices (s : State) : List Notice :=
  s.tickRun.expiries tickTimers ++
    if 100 ≤ s.ticks + 1 then .clockAdvance :: s.timersRun.expiries secondTimers else []

/-- R170: a tick before HOLD_N is sampled. -/
def State.timed (s : State) : State :=
  let t := s.tickRun.send (s.tickRun.expiries tickTimers)
  if 100 ≤ s.ticks + 1 then takeSecond { t with ticks := 0 } else { t with ticks := s.ticks + 1 }

theorem timed_eq (s : State) :
    s.timed = { s.timersRun with
      ticks := if 100 ≤ s.ticks + 1 then 0 else s.ticks + 1, inFlight := s.inFlight ++ s.timersNotices } := by
  unfold State.timed State.timersNotices State.timersRun
  by_cases h : 100 ≤ s.ticks + 1
  · simp only [if_pos h, ← List.append_assoc]
    rfl
  · simp only [if_neg h, List.append_nil]
    rfl

theorem sampleHold_eq :
    sampleHold low s = { s with holdLow := low, inFlight := s.inFlight ++ s.holdNotices low } := by
  unfold sampleHold State.holdNotices
  dsimp only
  repeat' split
  · rfl
  · rfl
  · rw [List.append_nil]

theorem takeTick_eq (low : Bool) (s : State) :
    takeTick low s = { s.timersRun with
      ticks := if 100 ≤ s.ticks + 1 then 0 else s.ticks + 1
      holdLow := low
      inFlight := s.inFlight ++ (s.timersNotices ++ s.holdNotices low) ++ [.tickDone] } := by
  have hsample : takeTick low s = (sampleHold low s.timed).send [.tickDone] := rfl
  have hhold : s.timed.holdNotices low = s.holdNotices low := by
    rw [timed_eq, State.timersRun]
    split <;> rfl
  rw [hsample, sampleHold_eq, hhold, timed_eq, List.append_assoc (as := s.inFlight)]
  rfl

theorem timersRun_frame (s : State) :
    s.timersRun = { s with
      positions := s.timersRun.positions, winds := s.timersRun.winds, permits := s.timersRun.permits
      entries := s.timersRun.entries, generators := s.timersRun.generators, cycles := 0
      divisor := s.site.tickDivisor } := by
  unfold State.timersRun
  split <;> rfl

theorem takeTick_frame (low : Bool) (s : State) :
    takeTick low s = { s with
      positions := (takeTick low s).positions, winds := (takeTick low s).winds, permits := (takeTick low s).permits
      entries := (takeTick low s).entries, generators := (takeTick low s).generators, cycles := 0
      divisor := s.site.tickDivisor, ticks := (takeTick low s).ticks, holdLow := low
      inFlight := (takeTick low s).inFlight } := by
  rw [takeTick_eq, timersRun_frame]

/-! ### The timers after a tick (R127, R137, R170) -/

theorem tickRun_position (c : Crane) :
    s.tickRun.position c = { s.position c with stale := runDown (s.position c).stale } := Bank.read_update _ _ _

theorem tickRun_permit (c : Crane) :
    s.tickRun.permit c =
      { s.permit c with timeout := runDown (s.permit c).timeout, refresh := runDown (s.permit c).refresh } :=
  Bank.read_update _ _ _

theorem tickRun_entry (k : Sector) : s.tickRun.entry k = runClearing (s.entry k) := Bank.read_update _ _ _

theorem tickRun_windOf (c : Crane) :
    s.tickRun.windOf c = { s.windOf c with ownStale := runDown (s.windOf c).ownStale } := Bank.read_update _ _ _

theorem takeTick_position (c : Crane) :
    (takeTick low s).position c = { s.position c with stale := runDown (s.position c).stale } := by
  rw [takeTick_eq, ← tickRun_position]
  unfold State.timersRun
  split <;> rfl

theorem takeTick_permit (c : Crane) :
    (takeTick low s).permit c =
      { s.permit c with timeout := runDown (s.permit c).timeout, refresh := runDown (s.permit c).refresh } := by
  rw [takeTick_eq, ← tickRun_permit]
  unfold State.timersRun
  split <;> rfl

theorem takeTick_entry (k : Sector) :
    (takeTick low s).entry k =
      if 100 ≤ s.ticks + 1 then runSectorSecond (runClearing (s.entry k)) else runClearing (s.entry k) := by
  rw [takeTick_eq, ← tickRun_entry]
  unfold State.timersRun
  split
  · exact Bank.read_update _ _ _
  · rfl

theorem takeTick_windOf_tick (h : ¬ 100 ≤ s.ticks + 1) (c : Crane) :
    (takeTick low s).windOf c = { s.windOf c with ownStale := runDown (s.windOf c).ownStale } := by
  rw [takeTick_eq, ← tickRun_windOf, State.timersRun, if_neg h]
  rfl

theorem takeTick_windOf_second (h : 100 ≤ s.ticks + 1) (c : Crane) :
    (takeTick low s).windOf c =
      s.runWindSecond c { s.windOf c with ownStale := runDown (s.windOf c).ownStale } := by
  have hruns : s.tickRun.recoveryRuns c = s.recoveryRuns c := by
    unfold State.recoveryRuns
    rw [tickRun_windOf]
    rfl
  have hsecond : s.timersRun.windOf c = s.tickRun.runWindSecond c (s.tickRun.windOf c) := by
    rw [State.timersRun, if_pos h]
    exact runSecondTimers_windOf _ _
  rw [takeTick_eq]
  refine hsecond.trans ?_
  rw [tickRun_windOf, State.runWindSecond, hruns]
  rfl

theorem takeTick_source (c : Crane) : ((takeTick low s).windOf c).source = (s.windOf c).source := by
  by_cases h : 100 ≤ s.ticks + 1
  · rw [takeTick_windOf_second h]; rfl
  · rw [takeTick_windOf_tick h]

/-- R127: a tick leaves it as it was whether a recovery timer runs. -/
theorem takeTick_recoveryRuns (c : Crane) : (takeTick low s).RecoveryRuns c ↔ s.RecoveryRuns c := by
  unfold State.RecoveryRuns
  rw [takeTick_source, takeTick_frame]
  rfl

theorem takeTick_present (c : Crane) : ((takeTick low s).crane c).present = (s.crane c).present := by
  rw [takeTick_frame]
  rfl

/-! ### What a tick brings (R165, R170, R172) -/

/-- A second takes nothing off the timers counted in ticks. -/
theorem timersRun_runOut {e : Expiry} (he : e.inTicks = true) : s.timersRun.RunOut e ↔ s.tickRun.RunOut e := by
  unfold State.timersRun
  split
  · cases e with
    | windStale c => simp only [State.RunOut, runSecondTimers_windOf, State.runWindSecond]
    | clearing k =>
      have hentry : (runSecondTimers s.tickRun).entry k = runSectorSecond (s.tickRun.entry k) := Bank.read_update _ _ _
      simp only [State.RunOut, hentry, runSectorSecond, mapGrant]
      cases (s.tickRun.entry k).base <;> simp
    | positionStale c => exact Iff.rfl
    | demandTimeout c => exact Iff.rfl
    | refresh c => exact Iff.rfl
    | phaseEnd n => exact Iff.rfl
    | _ => cases he
  · exact Iff.rfl

theorem takeTick_runOut (e : Expiry) : (takeTick low s).RunOut e ↔ s.timersRun.RunOut e := by
  rw [takeTick_eq]
  cases e <;> exact Iff.rfl

theorem mem_timersNotices {n : Notice} :
    n ∈ s.timersNotices ↔
      (∃ e : Expiry, (e.inTicks = true ∨ 100 ≤ s.ticks + 1) ∧ s.timersRun.RunOut e ∧ n = .expiry e) ∨
      (100 ≤ s.ticks + 1 ∧ n = .clockAdvance) := by
  unfold State.timersNotices
  rw [List.mem_append, mem_expiries]
  constructor
  · rintro (⟨e, he, hr, rfl⟩ | hn)
    · have he := mem_tickTimers.mp he
      exact .inl ⟨e, .inl he, (timersRun_runOut he).mpr hr, rfl⟩
    · split at hn
      · next h =>
        rcases List.mem_cons.mp hn with rfl | hn
        · exact .inr ⟨h, rfl⟩
        · obtain ⟨e, -, hr, rfl⟩ := mem_expiries.mp hn
          exact .inl ⟨e, .inr h, hr, rfl⟩
      · cases hn
  · rintro (⟨e, hcounted, hr, rfl⟩ | ⟨h, rfl⟩)
    · cases he : e.inTicks with
      | true => exact .inl ⟨e, mem_tickTimers.mpr he, (timersRun_runOut he).mp hr, rfl⟩
      | false =>
        rw [if_pos (hcounted.resolve_left (by rw [he]; nofun))]
        exact .inr (List.mem_cons_of_mem _ (mem_expiries.mpr ⟨e, mem_secondTimers.mpr he, hr, rfl⟩))
    · rw [if_pos h]
      exact .inr List.mem_cons_self

theorem takeTick_inFlight (h : s.inFlight = []) :
    (takeTick low s).inFlight = (s.timersNotices ++ s.holdNotices low) ++ [.tickDone] := by
  rw [takeTick_eq, h]
  rfl

theorem holdAsserted_mem_holdNotices :
    .holdAsserted ∈ s.holdNotices low ↔ low = true ∧ s.holdLow = true ∧ s.hold = false := by
  unfold State.holdNotices
  cases low <;> cases s.holdLow <;> cases s.hold <;> simp

theorem holdReleased_mem_holdNotices :
    .holdReleased ∈ s.holdNotices low ↔ low = false ∧ s.holdLow = false ∧ s.hold = true := by
  unfold State.holdNotices
  cases low <;> cases s.holdLow <;> cases s.hold <;> simp

theorem holdNotices_kinds {n : Notice} (h : n ∈ s.holdNotices low) : n = .holdAsserted ∨ n = .holdReleased := by
  unfold State.holdNotices at h
  split at h
  · exact .inl (List.mem_singleton.mp h)
  · split at h
    · exact .inr (List.mem_singleton.mp h)
    · cases h

theorem mem_takeTick_inFlight (h : s.inFlight = []) {n : Notice} :
    n ∈ (takeTick low s).inFlight ↔
      (∃ e : Expiry, (e.inTicks = true ∨ 100 ≤ s.ticks + 1) ∧ (takeTick low s).RunOut e ∧ n = .expiry e) ∨
      (100 ≤ s.ticks + 1 ∧ n = .clockAdvance) ∨ n ∈ s.holdNotices low ∨ n = .tickDone := by
  rw [takeTick_inFlight h, List.mem_append, List.mem_append, mem_timersNotices, List.mem_singleton, or_assoc, or_assoc]
  simp only [takeTick_runOut]

/-- R170: the timers that a tick brings to 0 expire. -/
theorem expiry_mem_takeTick (h : s.inFlight = []) (e : Expiry) :
    .expiry e ∈ (takeTick low s).inFlight ↔
      (e.inTicks = true ∨ 100 ≤ s.ticks + 1) ∧ (takeTick low s).RunOut e := by
  rw [mem_takeTick_inFlight h]
  constructor
  · rintro (⟨_, hcounted, hr, ⟨⟩⟩ | ⟨-, ⟨⟩⟩ | hn | ⟨⟨⟩⟩)
    · exact ⟨hcounted, hr⟩
    · rcases holdNotices_kinds hn with ⟨⟨⟩⟩ | ⟨⟨⟩⟩
  · rintro ⟨hcounted, hr⟩
    exact .inl ⟨e, hcounted, hr, rfl⟩

theorem clockAdvance_mem_takeTick (h : s.inFlight = []) :
    .clockAdvance ∈ (takeTick low s).inFlight ↔ 100 ≤ s.ticks + 1 := by
  rw [mem_takeTick_inFlight h]
  constructor
  · rintro (⟨_, -, -, ⟨⟩⟩ | ⟨hs, -⟩ | hn | ⟨⟨⟩⟩)
    · exact hs
    · rcases holdNotices_kinds hn with ⟨⟨⟩⟩ | ⟨⟨⟩⟩
  · exact fun hs => .inr (.inl ⟨hs, rfl⟩)

theorem holdAsserted_mem_takeTick (h : s.inFlight = []) :
    .holdAsserted ∈ (takeTick low s).inFlight ↔ low = true ∧ s.holdLow = true ∧ s.hold = false := by
  rw [mem_takeTick_inFlight h, ← holdAsserted_mem_holdNotices]
  simp

theorem holdReleased_mem_takeTick (h : s.inFlight = []) :
    .holdReleased ∈ (takeTick low s).inFlight ↔ low = false ∧ s.holdLow = false ∧ s.hold = true := by
  rw [mem_takeTick_inFlight h, ← holdReleased_mem_holdNotices]
  simp

/-- R170: all that a tick brings is an expiry, the second or a change of SITE HOLD, and the end of its work is marked
(log 26). -/
theorem takeTick_work (h : s.inFlight = []) :
    ∃ work, (takeTick low s).inFlight = work ++ [.tickDone] ∧ ∀ n ∈ work,
      (∃ e, n = .expiry e) ∨ n = .clockAdvance ∨ n = .holdAsserted ∨ n = .holdReleased := by
  refine ⟨_, takeTick_inFlight h, fun n hn => ?_⟩
  rcases List.mem_append.mp hn with hn | hn
  · rcases mem_timersNotices.mp hn with ⟨e, -, -, rfl⟩ | ⟨-, rfl⟩
    · exact .inl ⟨e, rfl⟩
    · exact .inr (.inl rfl)
  · exact .inr (.inr (holdNotices_kinds hn))

/-! ### The site clock and SITE HOLD (R145, R165, R172) -/

theorem advanceClock_eq (h : s.inFlight = []) :
    advanceClock s = { s with
      clock := s.clock + 1
      inFlight := if (s.clock + 1).toNat / 60 = s.clock.toNat / 60 then [] else [.minuteBoundary] } := by
  unfold advanceClock State.siteMinute
  dsimp only
  split
  · rw [← h]
  · simp only [State.send, h, List.nil_append]

/-- R145, R172: SITE HOLD asserted. -/
def State.heldFirst (s : State) : State := ({ s with hold := true } : State).post (eventOf .siteHold none none 1)

theorem heldFirst_eq :
    s.heldFirst = { s with
      hold := true
      events := (s.post (eventOf .siteHold none none 1)).events
      overflow := (s.post (eventOf .siteHold none none 1)).overflow } := by
  obtain ⟨he, ho⟩ := post_congr (eventOf .siteHold none none 1) (s := s) (t := { s with hold := true })
    rfl rfl rfl rfl rfl
  rw [State.heldFirst, State.post_frame, he, ho]

theorem assertHold_issues (h : s.hold = false) :
    assertHold s = issueAll s.heldFirst := if_neg (by rw [h]; nofun)

/-- R145: every present crane is issued its permit of zero speeds. -/
theorem assertHold_permits (h : s.hold = false) :
    (∀ c, (s.crane c).present = false →
      (assertHold s).permit c = s.permit c ∧ (assertHold s).slot c = s.slot c) ∧
    ∀ c, (s.crane c).present = true → s.IssuesZero (assertHold s) c := by
  have hheld : s.heldFirst.hold = true := by rw [heldFirst_eq]
  have hcrane (c : Crane) : s.heldFirst.crane c = s.crane c := by rw [heldFirst_eq]; rfl
  have hpermit (c : Crane) : s.heldFirst.permit c = s.permit c := by rw [heldFirst_eq]; rfl
  have hslot (c : Crane) : s.heldFirst.slot c = s.slot c := by rw [heldFirst_eq]; rfl
  obtain ⟨hissued, hkept⟩ := issueAll_zero (.inr hheld)
  rw [assertHold_issues h]
  refine ⟨fun c hc => ?_, fun c hc => ?_⟩
  · rw [← hpermit, ← hslot]
    exact hkept c (by rw [hcrane]; exact hc)
  · exact (hissued c (by rw [hcrane]; exact hc)).congr (hpermit c).symm (hslot c).symm (by rw [heldFirst_eq]) rfl rfl

theorem assertHold_frame (h : s.hold = false) :
    assertHold s = { s with
      hold := true
      events := (s.post (eventOf .siteHold none none 1)).events
      overflow := (s.post (eventOf .siteHold none none 1)).overflow
      permits := (assertHold s).permits, slots := (assertHold s).slots, inFlight := (assertHold s).inFlight } := by
  have hframe := frame_of_butPermits (issueAll_butPermits s.heldFirst)
  rw [assertHold_issues h]
  generalize issueAll s.heldFirst = t at hframe
  rw [hframe, heldFirst_eq]

/-- Settles O59: a tick runs its timers down and sends what they bring; the clock's advance, and the changes of SITE
HOLD, are commands of their own. -/
theorem timebaseAdvances : Obligations.TimebaseAdvances := by
  intro s h down hold
  have hquiet : s.inFlight = [] := h.2.1
  refine ⟨fun low => ?_, ?_, fun hheld => ?_, fun hfree => ?_, fun hfree => ?_, fun hheld => ?_⟩
  · refine ⟨_, exec_tick h low, takeTick_frame low s, takeTick_position, takeTick_permit, takeTick_generator low s,
      fun k => ?_, fun hs => ⟨?_, takeTick_windOf_tick hs⟩, fun hs => ⟨?_, fun c => ⟨?_, fun hruns => ?_, fun hruns => ?_⟩⟩,
      fun e => ?_, clockAdvance_mem_takeTick hquiet, holdAsserted_mem_takeTick hquiet,
      holdReleased_mem_takeTick hquiet, takeTick_work hquiet⟩
    · rw [takeTick_entry]
      generalize s.entry k = e
      obtain ⟨base, queue, locks, closed, presence, obstruction, claimant⟩ := e
      by_cases hs : 100 ≤ s.ticks + 1
      · rw [if_pos hs]
        cases base <;> simp only [runSectorSecond, mapGrant, runClearing, if_pos hs] <;> rfl
      · rw [if_neg hs]
        cases base <;> simp only [runClearing, if_neg hs]
    · rw [takeTick_eq, if_neg hs]
    · rw [takeTick_eq, if_pos hs]
    · rw [takeTick_windOf_second hs]
      rfl
    · rw [takeTick_windOf_second hs]
      exact if_pos ((recoveryRuns_iff s c).mpr hruns)
    · rw [takeTick_windOf_second hs]
      exact if_neg (by rwa [recoveryRuns_iff])
    · refine (expiry_mem_takeTick hquiet e).trans ?_
      cases e with
      | recovery c =>
        have hrecovery : (takeTick low s).RunOut (.recovery c) ↔
            (takeTick low s).RecoveryRuns c ∧ ((takeTick low s).windOf c).recovery = some 0 := by
          simp only [State.RunOut, State.RecoveryRuns, and_assoc]
        simp only [hrecovery, takeTick_recoveryRuns, Expiry.inTicks, Bool.false_eq_true, false_or]
      | _ => simp only [State.RunOut, takeTick_present, Expiry.inTicks, Bool.false_eq_true, false_or, true_or, true_and]
  · rw [exec_siteClockAdvance h, advanceClock_eq hquiet]
  · exact (exec_siteHoldAsserted h).trans (congrArg _ (if_pos hheld))
  · obtain ⟨hkept, hissued⟩ := assertHold_permits hfree
    exact ⟨_, exec_siteHoldAsserted h, assertHold_frame hfree, hkept, hissued⟩
  · exact (exec_siteHoldReleased h).trans (congrArg _ (if_neg (by rw [hfree]; nofun)))
  · exact (exec_siteHoldReleased h).trans (congrArg _ (if_pos hheld))

end Sys2Proof.Machine
end

/-! ## The frames in flight: no block but a receiver puts one there (R152, R153; log 1) -/

section
namespace Sys2Proof.Machine

variable {s t : State} {α : Type}

/-- The frame that a notice hands to its consumer. -/
def Notice.frame? : Notice → Option GoodFrame
  | .frame f => some f
  | _ => none

/-- The good frames that rescans have found and that are still in flight. -/
def State.framesLeft (s : State) : List GoodFrame := s.inFlight.filterMap Notice.frame?

theorem mem_framesLeft {f : GoodFrame} : f ∈ s.framesLeft ↔ .frame f ∈ s.inFlight := by
  rw [State.framesLeft, List.mem_filterMap]
  constructor
  · rintro ⟨n, hn, hf⟩
    cases n <;> cases hf
    exact hn
  · exact fun h => ⟨_, h, rfl⟩

/-- Notices of a block's own kinds hold no frame. -/
theorem frameless_map {g : α → Notice} (h : ∀ x, (g x).frame? = none) (xs : List α) :
    (xs.map g).filterMap Notice.frame? = [] := by
  simp [List.filterMap_map, h]

@[simp] theorem send_framesLeft {ns : List Notice} (h : ns.filterMap Notice.frame? = []) :
    (s.send ns).framesLeft = s.framesLeft := by
  simp [State.framesLeft, h]

@[simp] theorem post_framesLeft (b : EventBody) : (s.post b).framesLeft = s.framesLeft := by
  simp [State.framesLeft]

@[simp] theorem postAll_framesLeft (bs : List EventBody) : (s.postAll bs).framesLeft = s.framesLeft := by
  simp [State.framesLeft]

@[simp] theorem setWind_framesLeft (c : Crane) (w : WindRecord) : (s.setWind c w).framesLeft = s.framesLeft := rfl

/-- A block that leaves the notices in flight alone leaves the frames. -/
theorem framesLeft_of_frame {blank : State → State} (hb : blank t = blank s)
    (hv : ∀ u, (blank u).framesLeft = u.framesLeft := by intro _; rfl) : t.framesLeft = s.framesLeft :=
  (hv t).symm.trans ((congrArg State.framesLeft hb).trans (hv s))

/-! ### The arbiter and the booking table -/

theorem sectorNotices_frameless (k : Sector) (clash : ClashKind) (before after : SectorEntry) (evs : List EventBody) :
    (sectorNotices k clash before after evs).filterMap Notice.frame? = [] := by
  unfold sectorNotices
  rw [List.filterMap_append, frameless_map fun _ => rfl]
  split <;> rfl

@[simp] theorem entryEvent_framesLeft (k : Sector) (f : SectorContext → SectorEntry → EntryStep) (s : State) :
    (entryEvent k f s).framesLeft = s.framesLeft := by
  unfold entryEvent
  split
  · dsimp only
    rw [send_framesLeft (sectorNotices_frameless ..), postAll_framesLeft]
    rfl
  · rfl

theorem attributeLift_framesLeft (c : Crane) (s : State) : (attributeLift c s).framesLeft = s.framesLeft := by
  unfold attributeLift
  split
  · dsimp only
    split
    · exact (send_framesLeft rfl).trans (entryEvent_framesLeft ..)
    · exact entryEvent_framesLeft ..
  · rfl

theorem changeBookings_framesLeft (s : State) (after : List Booking) (bs : List EventBody) :
    (s.changeBookings after bs).framesLeft = s.framesLeft :=
  (send_framesLeft (frameless_map (fun _ => rfl) _)).trans (postAll_framesLeft _)

theorem changeBookingsAtOnce_framesLeft (s : State) (after : List Booking) (bs : List EventBody) :
    (s.changeBookingsAtOnce after bs).framesLeft = s.framesLeft :=
  (foldl_keeps State.framesLeft _ (fun _ _ => entryEvent_framesLeft ..) _ _).trans (postAll_framesLeft _)

/-! ### The wind monitor -/

@[simp] theorem withBeacons_framesLeft (before s : State) : (withBeacons before s).framesLeft = s.framesLeft :=
  send_framesLeft (frameless_map (fun _ => rfl) _)

@[simp] theorem selectSources_framesLeft (writer : Option Crane) (s : State) :
    (selectSources writer s).framesLeft = s.framesLeft := by
  have hall : s.selectAll.framesLeft = s.framesLeft := by rw [selectAll_eq]; rfl
  unfold selectSources
  dsimp only
  rw [send_framesLeft (frameless_map (fun _ => rfl) _), withBeacons_framesLeft, postAll_framesLeft, hall]

theorem takeWind_framesLeft (c : Crane) (f : WindFrame) (s : State) : (takeWind c f s).framesLeft = s.framesLeft := by
  unfold takeWind
  dsimp only
  split_ifs <;> simp

theorem expireWindStale_framesLeft (c : Crane) (s : State) : (expireWindStale c s).framesLeft = s.framesLeft := by
  unfold expireWindStale
  split
  · rfl
  · exact selectSources_framesLeft ..

@[simp] theorem windNotices_framesLeft (c : Crane) (before s : State) :
    (windNotices c before s).framesLeft = s.framesLeft :=
  (withBeacons_framesLeft ..).trans (send_framesLeft rfl)

@[simp] theorem examineHandshake_framesLeft (c : Crane) (s : State) :
    (examineHandshake c s).framesLeft = s.framesLeft := by
  unfold examineHandshake
  split
  · exact (windNotices_framesLeft ..).trans (post_framesLeft _)
  · rfl

theorem takeHandshake_framesLeft (k : Sector) (s : State) : (takeHandshake k s).framesLeft = s.framesLeft :=
  foldl_keeps State.framesLeft _ (fun _ _ => examineHandshake_framesLeft ..) _ _

@[simp] theorem enterVanePending_framesLeft (c : Crane) (cause : WindCause) (s : State) :
    (enterVanePending c cause s).framesLeft = s.framesLeft := by
  unfold enterVanePending
  rw [examineHandshake_framesLeft, windNotices_framesLeft, post_framesLeft, send_framesLeft (frameless_map (fun _ => rfl) _),
    setWind_framesLeft]

@[simp] theorem vaneAttempt_framesLeft (c : Crane) (s : State) : (vaneAttempt c s).framesLeft = s.framesLeft := by
  unfold vaneAttempt
  repeat' split
  · exact enterVanePending_framesLeft ..
  · rfl
  · rfl

@[simp] theorem enterStop_framesLeft (c : Crane) (cause : WindCause) (s : State) :
    (enterStop c cause s).framesLeft = s.framesLeft := by
  unfold enterStop
  dsimp only
  split <;> simp

@[simp] theorem enterCalmOrAlert_framesLeft (c : Crane) (new : WindState) (n : Nat) (s : State) :
    (enterCalmOrAlert c new n s).framesLeft = s.framesLeft := by
  simp [enterCalmOrAlert]

theorem takeEvaluation_framesLeft (c : Crane) (s : State) : (takeEvaluation c s).framesLeft = s.framesLeft := by
  unfold takeEvaluation
  dsimp only
  split
  · rfl
  · split
    · split_ifs <;> simp
    · split_ifs <;> simp
    · split <;> rfl
    · rfl
    · rfl

theorem expireRecovery_framesLeft (c : Crane) (s : State) : (expireRecovery c s).framesLeft = s.framesLeft := by
  unfold expireRecovery
  dsimp only
  split
  · rfl
  · simp

theorem expireVaneDelay_framesLeft (c : Crane) (s : State) : (expireVaneDelay c s).framesLeft = s.framesLeft := by
  unfold expireVaneDelay
  split
  · rfl
  · simp

theorem takeMotionNotice_framesLeft (c : Crane) (s : State) : (takeMotionNotice c s).framesLeft = s.framesLeft := by
  unfold takeMotionNotice
  split
  · exact vaneAttempt_framesLeft ..
  · rfl

theorem expireVaneTimeout_framesLeft (c : Crane) (s : State) : (expireVaneTimeout c s).framesLeft = s.framesLeft := by
  unfold expireVaneTimeout
  dsimp only
  repeat' split
  · rfl
  · rfl
  · exact post_framesLeft _
  · exact post_framesLeft _
  · exact post_framesLeft _

theorem resumeCrane_framesLeft (c : Crane) (s : State) : (resumeCrane c s).framesLeft = s.framesLeft := by
  unfold resumeCrane
  dsimp only
  rw [windNotices_framesLeft, post_framesLeft, setWind_framesLeft, send_framesLeft (frameless_map (fun _ => rfl) _)]

/-! ### The tracker and the detector -/

theorem presenceReports_frameless (c : Crane) (skip : Option Sector) (before after : PositionRecord) :
    (presenceReports c skip before after).filterMap Notice.frame? = [] := by
  unfold presenceReports
  rw [List.filterMap_filterMap]
  refine List.filterMap_eq_nil_iff.mpr fun k _ => ?_
  split
  · rfl
  · cases presenceChange _ _ _ _ <;> rfl

theorem recomputePresence_framesLeft (c : Crane) (skip : Option Sector) (s : State) :
    (recomputePresence c skip s).framesLeft = s.framesLeft := send_framesLeft (presenceReports_frameless ..)

theorem recomputeMembers_framesLeft (k : Sector) (listed : List Crane) (skip : Option Sector) (s : State) :
    (recomputeMembers k listed skip s).framesLeft = s.framesLeft :=
  foldl_keeps State.framesLeft _ (fun _ _ => recomputePresence_framesLeft ..) _ _

theorem handOffs_frameless (c : Crane) (before after : PositionRecord) :
    (handOffs c before after).filterMap Notice.frame? = [] := by
  unfold handOffs
  split_ifs <;> rfl

theorem takeMotion_framesLeft (c : Crane) (f : MotionFrame) (s : State) :
    (takeMotion c f s).framesLeft = s.framesLeft := by
  unfold takeMotion
  dsimp only
  split
  · rw [withBeacons_framesLeft, send_framesLeft (handOffs_frameless ..), recomputePresence_framesLeft, postAll_framesLeft]
    rfl
  · rfl

theorem expirePosition_framesLeft (c : Crane) (s : State) : (expirePosition c s).framesLeft = s.framesLeft := by
  unfold expirePosition
  dsimp only
  split
  · rfl
  · rw [withBeacons_framesLeft, send_framesLeft rfl, recomputePresence_framesLeft, postAll_framesLeft]
    rfl

theorem takeSample_framesLeft (c : Crane) (x : Nat) (s : State) : (takeSample c x s).framesLeft = s.framesLeft := by
  have completed (s : State) : (completeLift c s).framesLeft = s.framesLeft :=
    (post_framesLeft _).trans (attributeLift_framesLeft c _)
  have tested (s : State) : (testOverload c x s).framesLeft = s.framesLeft := by
    unfold testOverload
    dsimp only
    repeat' split
    · rfl
    · rfl
    · exact post_framesLeft _
  unfold takeSample
  dsimp only
  rw [send_framesLeft (by unfold sampleNotices; split_ifs <;> rfl), tested]
  split
  · exact completed _
  · rfl

/-! ### The permit path -/

theorem issue_framesLeft (c : Crane) (x : Computation) (s : State) : (issue c x s).framesLeft = s.framesLeft :=
  send_framesLeft (frameless_map (fun _ => rfl) _)

theorem issueAll_framesLeft (s : State) : (issueAll s).framesLeft = s.framesLeft :=
  foldl_keeps State.framesLeft _ (fun _ _ => issue_framesLeft ..) _ _

theorem takeDemand_framesLeft (c : Crane) (f : DemandFrame) (s : State) :
    (takeDemand c f s).framesLeft = s.framesLeft := by
  unfold takeDemand
  dsimp only
  split
  · exact issue_framesLeft ..
  · rfl

theorem expireDemand_framesLeft (c : Crane) (s : State) : (expireDemand c s).framesLeft = s.framesLeft := by
  unfold expireDemand
  dsimp only
  split <;> rfl

theorem expireRefresh_framesLeft (c : Crane) (s : State) : (expireRefresh c s).framesLeft = s.framesLeft := by
  unfold expireRefresh
  split
  · rfl
  · exact issue_framesLeft ..

theorem takeLimitNotice_framesLeft (c : Crane) (s : State) : (takeLimitNotice c s).framesLeft = s.framesLeft := by
  unfold takeLimitNotice
  dsimp only
  repeat' split
  · exact issue_framesLeft ..
  · exact send_framesLeft (frameless_map (fun _ => rfl) _)
  · rfl

/-! ### Operations, notices and frames -/

theorem makeAbsent_framesLeft (c : Crane) (s : State) : (makeAbsent c s).framesLeft = s.framesLeft := by
  have hlost : (recomputePresence c none (loseAbsent c (s.setCrane c .absent))).framesLeft = s.framesLeft :=
    (recomputePresence_framesLeft ..).trans (postAll_framesLeft _)
  have htold : (absentNotices c (s.position c).state).filterMap Notice.frame? = [] := by
    unfold absentNotices
    split <;> rfl
  unfold makeAbsent
  dsimp only
  rw [framesLeft_of_frame (State.refreshLines_butGenerators _)]
  split
  · rw [selectSources_framesLeft, send_framesLeft htold]
    exact hlost
  · rw [send_framesLeft htold]
    exact hlost

theorem makePresent_framesLeft (c : Crane) (r : CraneRecord) (s : State) :
    (makePresent c r s).framesLeft = s.framesLeft := by
  have hplaced : (recomputePresence c none (s.setCrane c r)).framesLeft = s.framesLeft := recomputePresence_framesLeft ..
  unfold makePresent
  dsimp only
  rw [framesLeft_of_frame (State.refreshLines_butGenerators _)]
  split
  · exact hplaced
  · rw [selectSources_framesLeft]
    exact hplaced

theorem putSector_framesLeft (k : Sector) (r : SectorRecord) (s : State) :
    (putSector k r s).framesLeft = s.framesLeft := by
  unfold putSector
  dsimp only
  split <;> exact recomputeMembers_framesLeft ..

theorem armSite_framesLeft (s : State) : (armSite s).framesLeft = s.framesLeft := by
  have hset (u : State) : (setUpSectors u).framesLeft = u.framesLeft :=
    foldl_keeps State.framesLeft _ (fun _ _ => entryEvent_framesLeft ..) _ _
  rw [armSite, post_framesLeft, armBookings, changeBookingsAtOnce_framesLeft, hset]
  rfl

theorem disarmSite_framesLeft (s : State) : (disarmSite s).framesLeft = s.framesLeft := by
  have hclear (u : State) : (clearSectors u).framesLeft = u.framesLeft :=
    foldl_keeps State.framesLeft _ (fun _ _ => by split <;> rfl) _ _
  rw [disarmSite, post_framesLeft, issueAll_framesLeft, disarmBookings, changeBookingsAtOnce_framesLeft, hclear]
  rfl

/-- No operation puts a frame in flight. -/
theorem Operates.framesLeft (ho : Operates s t) : t.framesLeft = s.framesLeft := by
  cases ho with
  | same => rfl
  | site => rfl
  | absent c => exact makeAbsent_framesLeft c s
  | present c fields r => exact makePresent_framesLeft c r s
  | assembly => rfl
  | zone c z => exact recomputePresence_framesLeft ..
  | sector k r => exact putSector_framesLeft k r s
  | profile n p => rw [storeProfile_frame]; rfl
  | pattern cond p => exact (framesLeft_of_frame (State.restartShowing_butGenerators _ _)).trans rfl
  | arm => exact armSite_framesLeft s
  | disarm => exact disarmSite_framesLeft s
  | clock n => exact changeBookings_framesLeft _ _ _
  | mask => rfl
  | book b => exact changeBookings_framesLeft _ _ _
  | cancel id => exact changeBookings_framesLeft _ _ _
  | purge => rfl
  | close k => exact entryEvent_framesLeft ..
  | openUp k => exact entryEvent_framesLeft ..
  | vane c => exact enterVanePending_framesLeft ..
  | resume c => exact resumeCrane_framesLeft ..

theorem takeFrame_framesLeft (f : GoodFrame) (s : State) : (takeFrame f s).framesLeft = s.framesLeft := by
  have handed (c : Crane) (g : State → State) (hg : (g s).framesLeft = s.framesLeft) :
      (handOn c g s).framesLeft = s.framesLeft := by
    unfold handOn
    split
    · exact hg
    · rfl
  cases f with
  | motion c m => exact handed _ _ (takeMotion_framesLeft c m s)
  | wind c w => exact handed _ _ (takeWind_framesLeft c w s)
  | demand c d => exact handed _ _ (takeDemand_framesLeft c d s)
  | request tag code ops =>
    rcases takeRequest_cases tag code ops s with he | ⟨t, reply, ht, he⟩
    · rw [takeFrame, he]
    · rw [takeFrame, he]; exact ht.framesLeft

theorem expire_framesLeft (e : Expiry) (s : State) : (expire e s).framesLeft = s.framesLeft := by
  cases e with
  | positionStale c => exact expirePosition_framesLeft c s
  | windStale c => exact expireWindStale_framesLeft c s
  | demandTimeout c => exact expireDemand_framesLeft c s
  | refresh c => exact expireRefresh_framesLeft c s
  | keep k c => exact entryEvent_framesLeft ..
  | clearing k => exact entryEvent_framesLeft ..
  | hold k => exact entryEvent_framesLeft ..
  | recovery c => exact expireRecovery_framesLeft c s
  | vaneDelay c => exact expireVaneDelay_framesLeft c s
  | vaneTimeout c => exact expireVaneTimeout_framesLeft c s
  | phaseEnd n => exact framesLeft_of_frame (State.endPhase_butGenerators _ _)

/-- No notice puts a frame in flight. -/
theorem takeNotice_framesLeft (n : Notice) (s : State) : (takeNotice n s).framesLeft = s.framesLeft := by
  cases n with
  | frame f => exact takeFrame_framesLeft f s
  | presence k c ch => exact entryEvent_framesLeft ..
  | knock k c => exact entryEvent_framesLeft ..
  | claimant k left cl => exact entryEvent_framesLeft ..
  | lock k c => exact entryEvent_framesLeft ..
  | unlock k c => exact entryEvent_framesLeft ..
  | liftCount id => exact changeBookings_framesLeft _ _ _
  | loadSample c x => exact takeSample_framesLeft c x s
  | motionTaken c => exact takeMotionNotice_framesLeft c s
  | limit c => exact takeLimitNotice_framesLeft c s
  | evaluation c => exact takeEvaluation_framesLeft c s
  | craneCondition c => exact changeBookings_framesLeft _ _ _
  | handshake k => exact takeHandshake_framesLeft k s
  | beacon c cond => exact framesLeft_of_frame (State.showCondition_butGenerators _ _ _)
  | expiry e =>
    rw [takeNotice]
    split
    · exact expire_framesLeft e s
    · rfl
  | clockAdvance =>
    rw [takeNotice, advanceClock]
    split
    · rfl
    · exact send_framesLeft rfl
  | minuteBoundary => exact changeBookings_framesLeft _ _ _
  | holdAsserted =>
    rw [takeNotice, assertHold]
    split
    · rfl
    · exact (issueAll_framesLeft _).trans (post_framesLeft _)
  | holdReleased =>
    rw [takeNotice, releaseHold]
    split
    · exact post_framesLeft _
    · rfl
  | tickDone => rfl

end Sys2Proof.Machine
end

/-! ## How the wind states move (R124 to R136) -/

section
namespace Sys2Proof.Machine

variable {s t u : State} {c d : Crane} {w : WindRecord} {p q : Prop}

/-! ### The moves that are not a RESUME's -/

/-- A wind state of a crane that is not on the way to vane. -/
def WindState.Aloft (w : WindState) : Prop := w ≠ .vanePending ∧ w ≠ .vane

/-- R130, R131: crane `d` may be made to head for vane: parked in the ARMED site, in STOP or taken to it by the
evaluation that `p` says it is given. -/
def State.MayHead (s : State) (d : Crane) (p : Prop) : Prop :=
  ((s.windOf d).state = .stop ∨ p) ∧ s.mode = .armed ∧ s.parked d = true

/-- R130 to R135: how crane `d`'s wind state may move between two states but by a RESUME or a device reset. -/
def State.VaneMoves (s t : State) (d : Crane) (p : Prop) : Prop :=
  ((s.windOf d).state = .vanePending ∨ (s.windOf d).state = .vane →
    (t.windOf d).state = (s.windOf d).state ∨ (t.windOf d).state = .vane) ∧
  ((s.windOf d).state ≠ .vane → (t.windOf d).state = .vane →
    (∀ k, ¬ t.BlocksVane d k) ∧ ((s.windOf d).state = .vanePending ∨ s.MayHead d p)) ∧
  ((s.windOf d).state ≠ .vanePending → (t.windOf d).state = .vanePending →
    (s.windOf d).state ≠ .vane ∧ s.MayHead d p)

namespace State.VaneMoves

theorem of_kept (h : (t.windOf d).state = (s.windOf d).state) : s.VaneMoves t d p :=
  ⟨fun _ => .inl h, fun hs ht => absurd (h.symm.trans ht) hs, fun hs ht => absurd (h.symm.trans ht) hs⟩

theorem of_aloft (hs : (s.windOf d).state.Aloft) (ht : (t.windOf d).state.Aloft) : s.VaneMoves t d p := by
  obtain ⟨hpending, hvane⟩ := hs
  obtain ⟨hpending', hvane'⟩ := ht
  exact ⟨fun h => absurd h (not_or.mpr ⟨hpending, hvane⟩), fun _ h => absurd h hvane', fun _ h => absurd h hpending'⟩

/-- R133: a crane in VANE_PENDING that no sector keeps from vaning is freed. -/
theorem of_freed (hs : (s.windOf d).state = .vanePending) (ht : (t.windOf d).state = .vane)
    (hfree : ∀ k, ¬ t.BlocksVane d k) : s.VaneMoves t d p :=
  ⟨fun _ => .inr ht, fun _ _ => ⟨hfree, .inl hs⟩, fun h => absurd hs h⟩

/-- R132, R133: a crane that may head for vane does so, and is freed at once where no sector keeps it. -/
theorem of_headed (hs : (s.windOf d).state.Aloft) (hmay : s.MayHead d p)
    (ht : (t.windOf d).state = .vanePending ∨ (t.windOf d).state = .vane ∧ ∀ k, ¬ t.BlocksVane d k) :
    s.VaneMoves t d p := by
  obtain ⟨hpending, hvane⟩ := hs
  refine ⟨fun h => absurd h (not_or.mpr ⟨hpending, hvane⟩), fun _ hv => ?_, fun _ _ => ⟨hvane, hmay⟩⟩
  rcases ht with ht | ⟨-, hfree⟩
  · rw [ht] at hv; cases hv
  · exact ⟨hfree, .inr hmay⟩

theorem mono (h : s.VaneMoves t d p) (hpq : p → q) : s.VaneMoves t d q := by
  obtain ⟨hstays, hfreed, hheaded⟩ := h
  have may : s.MayHead d p → s.MayHead d q := And.imp_left (Or.imp_right hpq)
  exact ⟨hstays, fun hs ht => (hfreed hs ht).imp_right (Or.imp_right may), fun hs ht => (hheaded hs ht).imp_right may⟩

/-- A touch of a record before the move that leaves its wind state makes no difference. -/
theorem of_setWind (h : (s.setWind c w).VaneMoves t d p) (hw : w.state = (s.windOf c).state) : s.VaneMoves t d p := by
  have hstate : ((s.setWind c w).windOf d).state = (s.windOf d).state := by
    rw [State.setWind_windOf]
    split
    · next hd => rw [hd, hw]
    · rfl
  have hmay : (s.setWind c w).MayHead d p ↔ s.MayHead d p := by
    rw [State.MayHead, hstate]
    exact Iff.rfl
  rwa [State.VaneMoves, hstate, hmay] at h

end State.VaneMoves

/-! ### The blocks that leave every wind state as it was -/

/-- The wind state of each crane. -/
def State.windStates (s : State) (d : Crane) : WindState := (s.windOf d).state

theorem State.VaneMoves.of_windStates (h : t.windStates = s.windStates) : s.VaneMoves t d p := .of_kept (congrFun h d)

/-- A block that leaves the wind records alone leaves the wind states. -/
theorem windStates_of_frame {blank : State → State} (hb : blank t = blank s)
    (hv : ∀ u, (blank u).windStates = u.windStates := by intro _; rfl) : t.windStates = s.windStates :=
  (hv t).symm.trans ((congrArg State.windStates hb).trans (hv s))

theorem windStates_of_windOf (h : ∀ d, (t.windOf d).state = (s.windOf d).state) : t.windStates = s.windStates :=
  funext h

theorem setWind_windStates (h : w.state = (s.windOf c).state) : (s.setWind c w).windStates = s.windStates := by
  refine windStates_of_windOf fun d => ?_
  rw [State.setWind_windOf]
  split
  · next hd => rw [hd, h]
  · rfl

@[simp] theorem post_windStates (b : EventBody) : (s.post b).windStates = s.windStates := by
  rw [State.post_frame]; rfl

@[simp] theorem postAll_windStates (bs : List EventBody) : (s.postAll bs).windStates = s.windStates :=
  funext fun d => by simp [State.windStates]

theorem selectSources_windStates (writer : Option Crane) : (selectSources writer s).windStates = s.windStates := by
  refine windStates_of_windOf fun d => ?_
  rw [selectSources_windOf rfl]
  split <;> rfl

theorem takeWind_windStates (c : Crane) (f : WindFrame) : (takeWind c f s).windStates = s.windStates := by
  cases hseq : seqAccepted (s.windOf c).seqRef f.seq with
  | false => rw [takeWind_refused hseq]
  | true =>
    cases ha : f.anemometerOk with
    | false => rw [takeWind_faulty hseq ha]; exact setWind_windStates rfl
    | true =>
      cases hp : profileValid (s.profileOf c) with
      | false => rw [takeWind_unprofiled hseq ha hp, postAll_windStates]; exact setWind_windStates rfl
      | true =>
        rw [takeWind_sampled hseq ha hp, selectSources_windStates, State.sampled, postAll_windStates]
        exact setWind_windStates (by rw [writeSample_frame]; rfl)

theorem expireWindStale_windStates (c : Crane) : (expireWindStale c s).windStates = s.windStates := by
  unfold expireWindStale
  split
  · rfl
  · rw [selectSources_windStates]
    exact setWind_windStates rfl

theorem expireVaneTimeout_windStates (c : Crane) : (expireVaneTimeout c s).windStates = s.windStates := by
  have hstopped : (s.setWind c { s.windOf c with vaneTimeout := none }).windStates = s.windStates :=
    setWind_windStates rfl
  unfold expireVaneTimeout
  dsimp only
  repeat' split
  · rfl
  · exact hstopped
  all_goals exact (post_windStates _).trans hstopped

theorem takeTick_windStates (low : Bool) : (takeTick low s).windStates = s.windStates := by
  refine windStates_of_windOf fun d => ?_
  by_cases h : 100 ≤ s.ticks + 1
  · rw [takeTick_windOf_second h]; rfl
  · rw [takeTick_windOf_tick h]

theorem makeAbsent_windStates (c : Crane) : (makeAbsent c s).windStates = s.windStates := by
  obtain ⟨hwind, -⟩ := makeAbsent_winds c s
  exact windStates_of_windOf fun d => by rw [hwind d]

theorem makePresent_windStates (c : Crane) (r : CraneRecord) : (makePresent c r s).windStates = s.windStates := by
  refine windStates_of_windOf fun d => ?_
  rw [makePresent_windOf]
  split
  · next hd => rw [hd]; rfl
  · rfl

theorem storeProfile_windStates (n : ProfileNo) (r : WindProfile) :
    (storeProfile n r s).windStates = s.windStates := by
  refine windStates_of_windOf fun d => ?_
  rw [storeProfile_windOf]
  split <;> rfl

theorem armSite_windStates : (armSite s).windStates = s.windStates := by
  rw [armSite, post_windStates, windStates_of_frame (armBookings_butArming _),
    windStates_of_frame (setUpSectors_butEntries _)]
  rfl

theorem disarmSite_windStates : (disarmSite s).windStates = s.windStates := by
  rw [disarmSite, post_windStates, windStates_of_frame (issueAll_butPermits _),
    windStates_of_frame (disarmBookings_butArming _), windStates_of_frame (clearSectors_butEntries _)]
  rfl

theorem putSector_windStates (k : Sector) (r : SectorRecord) : (putSector k r s).windStates = s.windStates := by
  have members (skip : Option Sector) :
      (recomputeMembers k (s.sector k).members skip (s.setSector k r)).windStates = s.windStates :=
    (windStates_of_frame (recomputeMembers_butPositions _ _ _ _)).trans rfl
  unfold putSector
  dsimp only
  split <;> exact members _

theorem assertHold_windStates : (assertHold s).windStates = s.windStates := by
  rw [assertHold]
  split
  · rfl
  · exact (windStates_of_frame (issueAll_butPermits _)).trans (post_windStates _)

theorem releaseHold_windStates : (releaseHold s).windStates = s.windStates := by
  rw [releaseHold]
  split
  · exact post_windStates _
  · rfl

theorem advanceClock_windStates : (advanceClock s).windStates = s.windStates := by
  rw [advanceClock]
  split <;> rfl

/-! ### The wind state machine (R124 to R136) -/

theorem rewound_state_ne {b : EventBody} {sent : List Notice} (h : d ≠ c) :
    ((s.rewound c w sent b).windOf d).state = (s.windOf d).state := by rw [rewound_windOf, if_neg h]

theorem rewound_state_self {b : EventBody} {sent : List Notice} :
    ((s.rewound c w sent b).windOf c).state = w.state := by rw [rewound_windOf_self]

theorem takeHandshake_vaneMoves (k : Sector) : s.VaneMoves (takeHandshake k s) d p := by
  obtain ⟨hframe, hwind, -, -⟩ := takeHandshake_examines k s
  by_cases hf : d ∈ allCranes.filter (fun d => s.isMember k d) ∧ s.frees d = true
  · obtain ⟨hw, hfree⟩ := frees_iff.mp hf.2
    refine .of_freed hw (by rw [hwind, if_pos hf]; rfl) fun j hj => hfree j ?_
    rwa [blocksVane_congr (by rw [hframe]) (by rw [hframe])] at hj
  · exact .of_kept (by rw [hwind, if_neg hf])

/-- R132, R133: where a crane stands that has been made to head for vane; no other crane's record is touched. -/
theorem enterVanePending_states (c : Crane) (cause : WindCause) (s : State) :
    let t := enterVanePending c cause s
    ((t.windOf c).state = .vanePending ∨ (t.windOf c).state = .vane ∧ ∀ k, ¬ t.BlocksVane c k) ∧
      ∀ d, d ≠ c → (t.windOf d).state = (s.windOf d).state := by
  intro t
  by_cases hb : ∃ k, s.BlocksVane c k
  · have ht : t = s.headed c (windCauseCode cause) := enterVanePending_blocked cause hb
    rw [ht]
    exact ⟨.inl rewound_state_self, fun d hd => rewound_state_ne hd⟩
  · have hfree := not_exists.mp hb
    have ht : t = _ := enterVanePending_free cause hfree
    rw [ht]
    refine ⟨.inr ⟨rewound_state_self, fun k hk => hfree k ?_⟩, fun d hd => ?_⟩
    · exact headed_blocksVane.mp (rewound_blocksVane.mp hk)
    · exact (rewound_state_ne hd).trans (rewound_state_ne hd)

theorem aloft_of_stop {x : WindState} (h : x = .stop) : x.Aloft := by rw [h]; exact ⟨nofun, nofun⟩

theorem enterVanePending_vaneMoves (cause : WindCause) (hw : (s.windOf c).state = .stop) (hm : s.mode = .armed)
    (hk : s.parked c = true) : s.VaneMoves (enterVanePending c cause s) d p := by
  obtain ⟨hself, hother⟩ := enterVanePending_states c cause s
  by_cases hd : d = c
  · subst hd
    exact .of_headed (aloft_of_stop hw) ⟨.inl hw, hm, hk⟩ hself
  · exact .of_kept (hother d hd)

theorem vaneAttempt_vaneMoves (c : Crane) : s.VaneMoves (vaneAttempt c s) d p := by
  by_cases hw : (s.windOf c).state = .stop
  · by_cases hmay : s.mode = .armed ∧ s.parked c = true
    · rw [vaneAttempt_heads hw hmay.1 hmay.2]
      exact enterVanePending_vaneMoves _ hw hmay.1 hmay.2
    · rw [vaneAttempt_waits hw hmay]
      exact .of_windStates (setWind_windStates rfl)
  · rw [vaneAttempt_elsewhere hw]
    exact .of_kept rfl

/-- R130: a crane that an evaluation takes to STOP may head for vane within the event. -/
theorem enterStop_vaneMoves (cause : WindCause) (hw : (s.windOf c).state.Aloft) :
    s.VaneMoves (enterStop c cause s) d (d = c) := by
  have stops (delay : Timer) : s.VaneMoves (s.stopped c (windCauseCode cause) delay) d (d = c) := by
    by_cases hd : d = c
    · subst hd
      exact .of_aloft hw (aloft_of_stop rewound_state_self)
    · exact .of_kept (rewound_state_ne hd)
  by_cases hmode : (s.profileOf c).vaneMode = .manual
  · rw [enterStop_manual cause hmode]
    exact stops _
  have hauto : (s.profileOf c).vaneMode = .auto := by
    cases h : (s.profileOf c).vaneMode with
    | manual => exact absurd h hmode
    | auto => rfl
  by_cases hdelay : (s.profileOf c).vaneDelay = 0
  · rw [enterStop_atOnce cause hauto hdelay]
    have hstop : ((s.stopped c (windCauseCode cause) none).windOf c).state = .stop := rewound_state_self
    by_cases hmay : s.mode = .armed ∧ s.parked c = true
    · obtain ⟨hm, hk⟩ := hmay
      rw [vaneAttempt_heads hstop (stopped_mode.trans hm) (stopped_parked.trans hk)]
      obtain ⟨hself, hother⟩ := enterVanePending_states c .vaneAuto (s.stopped c (windCauseCode cause) none)
      by_cases hd : d = c
      · subst hd
        exact .of_headed hw ⟨.inr rfl, hm, hk⟩ hself
      · exact .of_kept ((hother d hd).trans (rewound_state_ne hd))
    · rw [vaneAttempt_waits hstop (by rwa [stopped_mode, stopped_parked])]
      have hwaits := setWind_windStates (s := s.stopped c (windCauseCode cause) none) (c := c)
        (w := { (s.stopped c (windCauseCode cause) none).windOf c with vaneWait := true }) rfl
      by_cases hd : d = c
      · subst hd
        exact .of_aloft hw (aloft_of_stop ((congrFun hwaits d).trans hstop))
      · exact .of_kept ((congrFun hwaits d).trans (rewound_state_ne hd))
  · rw [enterStop_delayed cause hauto hdelay]
    exact stops _

theorem enterCalmOrAlert_vaneMoves {new : WindState} (n : Nat) (hw : (s.windOf c).state.Aloft) (hnew : new.Aloft) :
    s.VaneMoves (enterCalmOrAlert c new n s) d p := by
  rw [enterCalmOrAlert_eq]
  by_cases hd : d = c
  · subst hd
    exact .of_aloft hw (by rwa [rewound_state_self])
  · exact .of_kept (rewound_state_ne hd)

theorem takeEvaluation_vaneMoves (c : Crane) : s.VaneMoves (takeEvaluation c s) d (d = c) := by
  unfold takeEvaluation
  dsimp only
  split
  · exact .of_kept rfl
  · split
    · next hw =>
      have hs : (s.windOf c).state.Aloft := by rw [hw]; exact ⟨nofun, nofun⟩
      split_ifs
      · exact enterStop_vaneMoves _ hs
      · exact enterStop_vaneMoves _ hs
      · exact enterCalmOrAlert_vaneMoves _ hs ⟨nofun, nofun⟩
      · exact .of_windStates (setWind_windStates rfl)
    · next hw =>
      have hs : (s.windOf c).state.Aloft := by rw [hw]; exact ⟨nofun, nofun⟩
      split_ifs
      · exact enterStop_vaneMoves _ hs
      · exact enterStop_vaneMoves _ hs
      · exact enterCalmOrAlert_vaneMoves _ hs ⟨nofun, nofun⟩
      · exact .of_windStates (setWind_windStates rfl)
    · split <;> exact .of_windStates (setWind_windStates rfl)
    · exact .of_kept rfl
    · exact .of_kept rfl

theorem expireRecovery_vaneMoves (c : Crane) : s.VaneMoves (expireRecovery c s) d p := by
  by_cases h : (s.windOf c).recovery = none ∨ (s.windOf c).state ≠ .stop ∨ ¬ s.RecoveryRuns c
  · rw [expireRecovery_stands h]
    exact .of_kept rfl
  · rw [not_or, not_or, not_not, not_not] at h
    obtain ⟨hrecovery, hw, hruns⟩ := h
    rw [expireRecovery_recovers hrecovery hw hruns]
    by_cases hd : d = c
    · subst hd
      exact .of_aloft (aloft_of_stop hw) (by rw [rewound_state_self]; exact ⟨nofun, nofun⟩)
    · exact .of_kept (rewound_state_ne hd)

theorem expireVaneDelay_vaneMoves (c : Crane) : s.VaneMoves (expireVaneDelay c s) d p := by
  unfold expireVaneDelay
  split
  · exact .of_kept rfl
  · exact (vaneAttempt_vaneMoves c).of_setWind rfl

theorem takeMotionNotice_vaneMoves (c : Crane) : s.VaneMoves (takeMotionNotice c s) d p := by
  unfold takeMotionNotice
  split
  · exact vaneAttempt_vaneMoves c
  · exact .of_kept rfl

/-- R136: a RESUME takes its crane to ALERT and touches no other's record. -/
theorem resumeCrane_states (c d : Crane) (s : State) :
    ((resumeCrane c s).windOf d).state = if d = c then .alert else (s.windOf d).state := by
  rw [resumeCrane_eq, rewound_windOf]
  split <;> rfl

end Sys2Proof.Machine
end

/-! ## VANE_PENDING and VANE are left by RESUME and device reset only: O14 -/

section
namespace Sys2Proof.Machine

variable {s t u : State} {c d : Crane} {p : Prop} {f : List Byte → State → Answer} {code : Byte} {ops : List Byte}

theorem mode_armed (h : s.mode ≠ .config) : s.mode = .armed := by
  cases hm : s.mode with
  | config => exact absurd hm h
  | armed => rfl

/-! ### Operations: VANE, RESUME and the others (R1, R131, R136) -/

/-- Of all that operations do, only VANE and RESUME touch a wind state, and neither in CONFIG. -/
theorem Operates.windStates_of_config (ho : Operates s t) (hm : s.mode = .config) : t.windStates = s.windStates := by
  cases ho with
  | same => rfl
  | site => rfl
  | absent c => exact makeAbsent_windStates c
  | present c fields r => exact makePresent_windStates c r
  | assembly => rfl
  | zone c z => exact (windStates_of_frame (recomputePresence_butPositions _ _ _)).trans rfl
  | sector k r => exact putSector_windStates k r
  | profile n r => exact storeProfile_windStates n r
  | pattern cond r => exact (windStates_of_frame (State.restartShowing_butGenerators _ _)).trans rfl
  | arm => exact armSite_windStates
  | disarm => exact disarmSite_windStates
  | clock n => exact (windStates_of_frame (evaluateWindows_butBookings _ _)).trans rfl
  | mask => rfl
  | book b => exact windStates_of_frame (addBooking_butBookings _ _)
  | cancel id => exact windStates_of_frame (cancelBooking_butBookings _ _)
  | purge => rfl
  | close k => exact windStates_of_frame (closeSector_butEntries _ _)
  | openUp k => exact windStates_of_frame (openSector_butEntries _ _)
  | vane c hnot => exact absurd hm hnot
  | resume c hnot => exact absurd hm hnot

/-- R1: out of CONFIG a table write is refused. -/
theorem tableWrite_outOfConfig {ws : List Nat} {g : List Nat → State → Answer} (hm : s.mode ≠ .config) :
    (tableWrite ws ops g s).state = s := by
  unfold tableWrite
  split
  · rfl
  · rw [if_neg hm]; rfl

theorem writeSegments_outOfConfig (hm : s.mode ≠ .config) : (writeSegments ops s).state.windStates = s.windStates := by
  unfold writeSegments
  split
  · rw [if_pos hm]
    split <;> rfl
  · rfl

theorem withOperands_windStates {ws : List Nat} {g : List Nat → State → Answer}
    (h : ∀ fs, (g fs s).state.windStates = s.windStates) : (withOperands ws ops g s).state.windStates = s.windStates := by
  unfold withOperands
  split
  · exact h _
  · rfl

theorem sectorCommand_windStates {g : Sector → State → State} (h : ∀ k, (g k s).windStates = s.windStates) :
    (sectorCommand ops g s).state.windStates = s.windStates := by
  refine withOperands_windStates fun fs => ?_
  dsimp only
  split_ifs
  · rfl
  · rfl
  · exact h _

theorem arm_windStates : (Machine.arm ops s).state.windStates = s.windStates := by
  unfold Machine.arm noOperands
  split
  · dsimp only
    split
    · rfl
    · split
      · rfl
      · exact armSite_windStates
  · rfl

theorem disarm_windStates : (Machine.disarm ops s).state.windStates = s.windStates := by
  unfold Machine.disarm noOperands
  split
  · dsimp only
    split_ifs
    · rfl
    · rfl
    · exact disarmSite_windStates
  · rfl

theorem bookAdd_windStates : (bookAdd ops s).state.windStates = s.windStates := by
  unfold bookAdd
  dsimp only
  repeat' split
  case h_2.isFalse.isFalse.isFalse => exact windStates_of_frame (addBooking_butBookings _ _)
  all_goals rfl

theorem bookCancel_windStates : (bookCancel ops s).state.windStates = s.windStates := by
  unfold bookCancel
  dsimp only
  repeat' split
  · rfl
  · exact windStates_of_frame (cancelBooking_butBookings _ _)
  · rfl
  · rfl

theorem bookPurge_windStates : (bookPurge ops s).state.windStates = s.windStates := by
  unfold bookPurge
  split <;> rfl

/-- R131, R136: only VANE and RESUME touch a wind state. -/
theorem operationOf_windStates (h : operationOf code = some f) (hvane : code ≠ 0x32#8) (hresume : code ≠ 0x33#8)
    (ops : List Byte) : (f ops s).state.windStates = s.windStates := by
  by_cases hm : s.mode = .config
  · exact (operationOf_operates h ops).windStates_of_config hm
  unfold operationOf at h
  split at h <;> cases h
  · exact congrArg _ (tableWrite_outOfConfig hm)
  · exact congrArg _ (tableWrite_outOfConfig hm)
  · exact writeSegments_outOfConfig hm
  · exact congrArg _ (tableWrite_outOfConfig hm)
  · exact congrArg _ (tableWrite_outOfConfig hm)
  · exact congrArg _ (tableWrite_outOfConfig hm)
  · exact arm_windStates
  · exact disarm_windStates
  · exact withOperands_windStates fun fs => (windStates_of_frame (evaluateWindows_butBookings _ _)).trans rfl
  · exact withOperands_windStates fun fs => rfl
  · exact bookAdd_windStates
  · exact bookCancel_windStates
  · exact bookPurge_windStates
  · exact sectorCommand_windStates fun k => windStates_of_frame (closeSector_butEntries _ _)
  · exact sectorCommand_windStates fun k => windStates_of_frame (openSector_butEntries _ _)
  · next hcode => exact absurd (BitVec.eq_of_toNat_eq hcode) hvane
  · next hcode => exact absurd (BitVec.eq_of_toNat_eq hcode) hresume
  · exact congrArg _ (readCrane_state _)
  · exact congrArg _ (readSector_state _)
  · exact congrArg _ (readBookingOp_state _)
  · exact congrArg _ (readWind_state _)
  · exact congrArg _ (readStatus_state _)

/-- R131, R136: a VANE or RESUME that passes its first two checks names its crane in its one operand octet. -/
theorem craneCommand_cases (ops : List Byte) (g : Crane → State → Answer) :
    (craneCommand ops g s).state = s ∨
      ∃ c : Crane, ops = octet1 c.val ∧ s.mode = .armed ∧ (craneCommand ops g s).state = (g c s).state := by
  by_cases hl : ops.length = [1].sum
  · obtain ⟨b, rfl⟩ := List.length_eq_one_iff.mp hl
    by_cases hb : 7 < b.toNat
    · exact .inl (by rw [craneCommand_above hb]; rfl)
    · have hops : [b] = octet1 (⟨b.toNat, by omega⟩ : Crane).val := (octet1_toNat b).symm
      generalize (⟨b.toNat, by omega⟩ : Crane) = c at hops
      rw [hops, craneCommand_crane]
      split_ifs with hp hm
      · exact .inl rfl
      · exact .inl rfl
      · exact .inr ⟨c, rfl, mode_armed hm, rfl⟩
  · exact .inl (by rw [craneCommand, withOperands_wrong hl]; rfl)

theorem vaneCrane_vaneMoves : s.VaneMoves (vaneCrane ops s).state d p := by
  rcases craneCommand_cases (s := s) ops (fun c s =>
    if (s.windOf c).state ≠ .stop then refuse s .wrongState
    else if ¬ s.parked c then refuse s .notParked
    else accept (enterVanePending c .vaneCommand s)) with he | ⟨c, -, hm, he⟩
  · rw [vaneCrane, he]; exact .of_kept rfl
  · rw [vaneCrane, he]
    split_ifs with hw hk
    · exact .of_kept rfl
    · exact enterVanePending_vaneMoves _ (not_not.mp hw) hm hk
    · exact .of_kept rfl

/-- R136: a RESUME of crane `d` in the ARMED site. -/
theorem resumeOp_vaneMoves :
    s.VaneMoves (resumeOp ops s).state d p ∨
      ops = octet1 d.val ∧ s.mode = .armed ∧ ((resumeOp ops s).state.windOf d).state = .alert := by
  rcases craneCommand_cases (s := s) ops (fun c s =>
    if (s.windOf c).state ≠ .vanePending ∧ (s.windOf c).state ≠ .vane then refuse s .wrongState
    else if s.windTooHigh c then refuse s .windHigh
    else accept (resumeCrane c s)) with he | ⟨c, hops, hm, he⟩
  · rw [resumeOp, he]; exact .inl (.of_kept rfl)
  · rw [resumeOp, he]
    split_ifs
    · exact .inl (.of_kept rfl)
    · exact .inl (.of_kept rfl)
    · have hstate := resumeCrane_states c d s
      by_cases hd : d = c
      · subst hd
        exact .inr ⟨hops, hm, by rw [accept_state, hstate, if_pos rfl]⟩
      · exact .inl (.of_kept (by rw [accept_state, hstate, if_neg hd]))

/-- R136: a REQUEST that is crane `d`'s RESUME. -/
def GoodFrame.Resumes (f : GoodFrame) (d : Crane) : Prop := ∃ tag, f = .request tag 0x33#8 (octet1 d.val)

/-- R136: `s` goes to `t` by crane `d`'s RESUME. -/
def State.ResumedTo (s t : State) (d : Crane) : Prop := s.mode = .armed ∧ (t.windOf d).state = .alert

theorem takeRequest_vaneMoves (tag code : Byte) (ops : List Byte) :
    s.VaneMoves (takeRequest tag code ops s) d p ∨
      (code = 0x33#8 ∧ ops = octet1 d.val) ∧ s.ResumedTo (takeRequest tag code ops s) d := by
  unfold takeRequest answerRequest
  split
  · cases h : operationOf code with
    | none => exact .inl (.of_kept rfl)
    | some f =>
      by_cases hvane : code = 0x32#8
      · subst hvane
        cases h
        exact .inl vaneCrane_vaneMoves
      · by_cases hresume : code = 0x33#8
        · subst hresume
          cases h
          exact resumeOp_vaneMoves.imp_right fun ⟨hops, hm, hstate⟩ => ⟨⟨rfl, hops⟩, hm, hstate⟩
        · exact .inl (.of_windStates (operationOf_windStates h hvane hresume ops))
  · exact .inl (.of_kept rfl)

/-! ### Frames, notices and commands -/

theorem takeFrame_vaneMoves (f : GoodFrame) :
    s.VaneMoves (takeFrame f s) d p ∨ f.Resumes d ∧ s.ResumedTo (takeFrame f s) d := by
  have handed (c : Crane) (g : State → State) (hg : (g s).windStates = s.windStates) :
      s.VaneMoves (handOn c g s) d p := by
    unfold handOn
    split
    · exact .of_windStates hg
    · exact .of_kept rfl
  cases f with
  | motion c m => exact .inl (handed _ _ (windStates_of_frame (takeMotion_butPositions _ _ _)))
  | wind c w => exact .inl (handed _ _ (takeWind_windStates c w))
  | demand c x => exact .inl (handed _ _ (windStates_of_frame (takeDemand_butPermits _ _ _)))
  | request tag code ops =>
    exact (takeRequest_vaneMoves tag code ops).imp_right fun ⟨⟨hcode, hops⟩, hr⟩ => ⟨⟨tag, by rw [hcode, hops]⟩, hr⟩

theorem expire_vaneMoves (e : Expiry) : s.VaneMoves (expire e s) d p := by
  cases e with
  | positionStale c => exact .of_windStates (windStates_of_frame (expirePosition_butPositions _ _))
  | windStale c => exact .of_windStates (expireWindStale_windStates c)
  | demandTimeout c => exact .of_windStates (windStates_of_frame (expireDemand_butPermits _ _))
  | refresh c => exact .of_windStates (windStates_of_frame (expireRefresh_butPermits _ _))
  | keep k c => exact .of_windStates (windStates_of_frame (expireKeep_butEntries _ _ _))
  | clearing k => exact .of_windStates (windStates_of_frame (expireClearing_butEntries _ _))
  | hold k => exact .of_windStates (windStates_of_frame (expireHold_butEntries _ _))
  | recovery c => exact expireRecovery_vaneMoves c
  | vaneDelay c => exact expireVaneDelay_vaneMoves c
  | vaneTimeout c => exact .of_windStates (expireVaneTimeout_windStates c)
  | phaseEnd n => exact .of_windStates (windStates_of_frame (State.endPhase_butGenerators _ _))

/-- R130 to R136: how a notice moves crane `d`'s wind state. -/
theorem takeNotice_vaneMoves (n : Notice) :
    s.VaneMoves (takeNotice n s) d (n = .evaluation d) ∨
      ∃ f, n = .frame f ∧ f.Resumes d ∧ s.ResumedTo (takeNotice n s) d := by
  cases n with
  | frame f => exact (takeFrame_vaneMoves f).imp_right fun h => ⟨f, rfl, h⟩
  | presence k c ch => exact .inl (.of_windStates (windStates_of_frame (reportPresence_butEntries _ _ _ _)))
  | knock k c => exact .inl (.of_windStates (windStates_of_frame (knockSector_butEntries _ _ _)))
  | claimant k left cl => exact .inl (.of_windStates (windStates_of_frame (changeClaimant_butEntries _ _ _ _)))
  | lock k c => exact .inl (.of_windStates (windStates_of_frame (lockSector_butEntries _ _ _)))
  | unlock k c => exact .inl (.of_windStates (windStates_of_frame (unlockSector_butEntries _ _ _)))
  | liftCount id => exact .inl (.of_windStates (windStates_of_frame (takeLiftCount_butBookings _ _)))
  | loadSample c x => exact .inl (.of_windStates (windStates_of_frame (takeSample_butDetectors _ _ _)))
  | motionTaken c => exact .inl (takeMotionNotice_vaneMoves c)
  | limit c => exact .inl (.of_windStates (windStates_of_frame (takeLimitNotice_butPermits _ _)))
  | evaluation c => exact .inl ((takeEvaluation_vaneMoves c).mono fun h => by rw [h])
  | craneCondition c => exact .inl (.of_windStates (windStates_of_frame (takeCraneCondition_butBookings _ _)))
  | handshake k => exact .inl (takeHandshake_vaneMoves k)
  | beacon c cond => exact .inl (.of_windStates (windStates_of_frame (State.showCondition_butGenerators _ _ _)))
  | expiry e =>
    rw [takeNotice]
    split
    · exact .inl (expire_vaneMoves e)
    · exact .inl (.of_kept rfl)
  | clockAdvance => exact .inl (.of_windStates advanceClock_windStates)
  | minuteBoundary => exact .inl (.of_windStates (windStates_of_frame (evaluateWindows_butBookings _ _)))
  | holdAsserted => exact .inl (.of_windStates assertHold_windStates)
  | holdReleased => exact .inl (.of_windStates releaseHold_windStates)
  | tickDone => exact .inl (.of_kept rfl)

/-- The reset's own commands (R169, R173). -/
def ResetsDevice (i : Instr) : Prop := (∃ trigger, i = .deviceReset trigger) ∨ i = .resetEnd

/-- R169: a device reset leaves every crane in STOP. -/
theorem beginReset_state (cause : ResetCause) : ((beginReset cause s).windOf d).state = .stop :=
  congrArg WindRecord.state (Bank.read_fill d WindRecord.reset)

theorem takeReset_state (trigger : ResetTrigger) :
    ((takeReset trigger s).windOf d).state = (s.windOf d).state ∨
      ((takeReset trigger s).windOf d).state = .stop := by
  unfold takeReset
  dsimp only
  repeat' split
  · exact .inr (beginReset_state _)
  · exact .inr (beginReset_state _)
  · exact .inr (beginReset_state _)
  · exact .inl rfl

theorem endReset_state : ((endReset s).windOf d).state = (s.windOf d).state ∨ ((endReset s).windOf d).state = .stop := by
  unfold endReset
  split
  · exact .inl rfl
  · exact .inr (congrArg WindRecord.state (Bank.read_fill d WindRecord.reset))

end Sys2Proof.Machine
end

/-! ## Commands and the work that waits: O14 -/

section
namespace Sys2Proof.Machine

variable {s t u : State} {c d : Crane} {p : Prop}

/-! ### Commands -/

theorem rescanOctets_windStates (l : Link) (stored : List Byte) : (rescanOctets l stored s).windStates = s.windStates := by
  rw [rescanOctets_frame]; rfl

theorem beginSending_frame (s : State) :
    beginSending s = { s with
      transmitter := (beginSending s).transmitter, overflow := (beginSending s).overflow } := by
  unfold beginSending
  repeat' split
  all_goals rfl

theorem completePermit_windStates (c : Crane) : (completePermit c s).windStates = s.windStates := by
  unfold completePermit
  split <;> rfl

theorem completeReply_windStates : (completeReply s).windStates = s.windStates := by
  unfold completeReply
  split <;> rfl

theorem completeEvent_windStates : (completeEvent s).windStates = s.windStates := by
  unfold completeEvent
  split <;> rfl

theorem unknown_windStates (tag code : Byte) :
    (request tag code (fun u => refuse u .badValue) s).windStates = s.windStates := by
  unfold request answerRequest
  split <;> rfl

/-- A frame heard that is not crane `d`'s RESUME. -/
theorem heard_vaneMoves {l : Link} (f : GoodFrame) (hf : ¬ f.Resumes d) :
    s.VaneMoves (takeFrame f (s.setReceiver l .hunting)) d p :=
  (takeFrame_vaneMoves (s := s.setReceiver l .hunting) f).resolve_right fun h => hf h.1

theorem request_vaneMoves (tag : Byte) {code : Byte} (ops : List Byte) (hcode : code ≠ 0x33#8 := by decide) :
    s.VaneMoves (takeFrame (.request tag code ops) (s.setReceiver siteLink .hunting)) d p :=
  heard_vaneMoves _ fun ⟨_, h⟩ => hcode (GoodFrame.request.inj h).2.1

/-- A notice given as a command that is neither a frame nor crane `d`'s evaluation. -/
theorem notice_vaneMoves (n : Notice) (hf : ∀ f, n ≠ .frame f := by intro _ h; cases h)
    (he : n = .evaluation d → p := by intro h; cases h) : s.VaneMoves (takeNotice n s) d p :=
  ((takeNotice_vaneMoves n).resolve_right fun ⟨f, h, _⟩ => hf f h).mono he

/-- R130 to R136: how a command moves crane `d`'s wind state. -/
theorem effect_vaneMoves (i : Instr) :
    s.VaneMoves (effect i s) d (i = .evaluation d) ∨
      (∃ tag, i = .resume tag (octet1 d.val) ∧ s.ResumedTo (effect i s) d) ∨
      ResetsDevice i ∧ (((effect i s).windOf d).state = (s.windOf d).state ∨ ((effect i s).windOf d).state = .stop) := by
  cases i with
  | resume tag ops =>
    refine (takeFrame_vaneMoves (s := s.setReceiver siteLink .hunting) (.request tag 0x33#8 ops)).imp_right
      fun ⟨⟨_, hf⟩, hr⟩ => .inl ⟨tag, ?_, hr⟩
    rw [(GoodFrame.request.inj hf).2.2]
  | deviceReset trigger => exact .inr (.inr ⟨.inl ⟨_, rfl⟩, takeReset_state trigger⟩)
  | resetEnd => exact .inr (.inr ⟨.inr rfl, endReset_state⟩)
  | evaluation c => exact .inl (notice_vaneMoves (.evaluation c) (he := fun h => by cases h; rfl))
  | motion c f => exact .inl (heard_vaneMoves (.motion c f) nofun)
  | wind c f => exact .inl (heard_vaneMoves (.wind c f) nofun)
  | demand c f => exact .inl (heard_vaneMoves (.demand c f) nofun)
  | misdirectedFrame l => exact .inl (.of_kept rfl)
  | lengthError l kind len => exact .inl (.of_windStates (rescanOctets_windStates (s := s.countLength l) l _))
  | crcError l octets => exact .inl (.of_windStates (rescanOctets_windStates (s := s.countCrc l) l _))
  | writeSite tag ops => exact .inl (request_vaneMoves tag ops)
  | writeCrane tag ops => exact .inl (request_vaneMoves tag ops)
  | writeSegments tag ops => exact .inl (request_vaneMoves tag ops)
  | writeSector tag ops => exact .inl (request_vaneMoves tag ops)
  | writeProfile tag ops => exact .inl (request_vaneMoves tag ops)
  | writePattern tag ops => exact .inl (request_vaneMoves tag ops)
  | arm tag ops => exact .inl (request_vaneMoves tag ops)
  | disarm tag ops => exact .inl (request_vaneMoves tag ops)
  | timeSet tag ops => exact .inl (request_vaneMoves tag ops)
  | setMask tag ops => exact .inl (request_vaneMoves tag ops)
  | bookAdd tag ops => exact .inl (request_vaneMoves tag ops)
  | bookCancel tag ops => exact .inl (request_vaneMoves tag ops)
  | bookPurge tag ops => exact .inl (request_vaneMoves tag ops)
  | sectorClose tag ops => exact .inl (request_vaneMoves tag ops)
  | sectorOpen tag ops => exact .inl (request_vaneMoves tag ops)
  | vane tag ops => exact .inl (request_vaneMoves tag ops)
  | readCrane tag ops => exact .inl (request_vaneMoves tag ops)
  | readSector tag ops => exact .inl (request_vaneMoves tag ops)
  | readBooking tag ops => exact .inl (request_vaneMoves tag ops)
  | readWind tag ops => exact .inl (request_vaneMoves tag ops)
  | readStatus tag ops => exact .inl (request_vaneMoves tag ops)
  | unknownOperationCode tag code ops => exact .inl (.of_windStates (unknown_windStates tag code))
  | permitSendCompletion c => exact .inl (.of_windStates (completePermit_windStates c))
  | siteTransmitBegin => exact .inl (.of_windStates ((congrArg _ (beginSending_frame s)).trans rfl))
  | replyFrameCompletion => exact .inl (.of_windStates completeReply_windStates)
  | eventFrameCompletion => exact .inl (.of_windStates completeEvent_windStates)
  | eventPosting b => exact .inl (.of_windStates (post_windStates b))
  | presenceReport k c change => exact .inl (notice_vaneMoves (.presence k c change))
  | knock k c => exact .inl (notice_vaneMoves (.knock k c))
  | bookedClaimantChange k left cl => exact .inl (notice_vaneMoves (.claimant k left cl))
  | lockRequest k c => exact .inl (notice_vaneMoves (.lock k c))
  | unlock k c => exact .inl (notice_vaneMoves (.unlock k c))
  | liftAttribution c => exact .inl (.of_windStates (windStates_of_frame (attributeLift_butEntries _ _)))
  | bookedLiftCount id => exact .inl (notice_vaneMoves (.liftCount id))
  | loadSample c x => exact .inl (notice_vaneMoves (.loadSample c x))
  | motionFrameNotice c => exact .inl (notice_vaneMoves (.motionTaken c))
  | limitNotice c => exact .inl (notice_vaneMoves (.limit c))
  | craneConditionChange c => exact .inl (notice_vaneMoves (.craneCondition c))
  | handshakeReport k => exact .inl (notice_vaneMoves (.handshake k))
  | beaconConditionChange c cond => exact .inl (notice_vaneMoves (.beacon c cond))
  | positionStaleExpiry c => exact .inl (expire_vaneMoves (.positionStale c))
  | windStaleExpiry c => exact .inl (expire_vaneMoves (.windStale c))
  | demandTimeoutExpiry c => exact .inl (expire_vaneMoves (.demandTimeout c))
  | refreshExpiry c => exact .inl (expire_vaneMoves (.refresh c))
  | keepTimerExpiry k c => exact .inl (expire_vaneMoves (.keep k c))
  | clearingExpiry k => exact .inl (expire_vaneMoves (.clearing k))
  | holdTimerExpiry k => exact .inl (expire_vaneMoves (.hold k))
  | recoveryExpiry c => exact .inl (expire_vaneMoves (.recovery c))
  | vaneDelayExpiry c => exact .inl (expire_vaneMoves (.vaneDelay c))
  | vaneTimeoutExpiry c => exact .inl (expire_vaneMoves (.vaneTimeout c))
  | beaconPhaseEnd n => exact .inl (expire_vaneMoves (.phaseEnd n))
  | tick holdLow => exact .inl (.of_windStates (takeTick_windStates holdLow))
  | siteClockAdvance => exact .inl (notice_vaneMoves .clockAdvance)
  | minuteBoundary => exact .inl (notice_vaneMoves .minuteBoundary)
  | siteHoldAsserted => exact .inl (notice_vaneMoves .holdAsserted)
  | siteHoldReleased => exact .inl (notice_vaneMoves .holdReleased)

/-! ### The work that waits -/

/-- R135: crane `d` is on the way to vane. -/
def State.Vanes (s : State) (d : Crane) : Prop := (s.windOf d).state = .vanePending ∨ (s.windOf d).state = .vane

/-- R135: crane `d` stays in VANE_PENDING or goes on to VANE, or stays in VANE. -/
def State.StaysVaning (s t : State) (d : Crane) : Prop :=
  (t.windOf d).state = (s.windOf d).state ∨ (t.windOf d).state = .vane

theorem State.Vanes.of_stays (h : s.Vanes d) (hst : s.StaysVaning t d) : t.Vanes d := by
  rcases hst with hst | hst
  · rwa [State.Vanes, hst]
  · exact .inr hst

theorem State.StaysVaning.trans (h : s.StaysVaning t d) (h' : t.StaysVaning u d) : s.StaysVaning u d := by
  rcases h' with h' | h'
  · rwa [State.StaysVaning, h']
  · exact .inr h'

/-- R136, R152: crane `d`'s RESUME is among the frames in flight. -/
def State.ResumeLeft (s : State) (d : Crane) : Prop := ∃ f ∈ s.framesLeft, f.Resumes d

theorem takeNext_cases (s : State) :
    takeNext s = beginSending s ∨ takeNext s = s ∨
      ∃ n ∈ s.inFlight, takeNext s = takeNotice n { s with inFlight := s.inFlight.erase n } := by
  unfold takeNext
  split
  · exact .inl rfl
  · split
    · exact .inr (.inl rfl)
    · next n hn => exact .inr (.inr ⟨n, nextNotice_mem hn, rfl⟩)

/-- The work that waits brings no frame of its own. -/
theorem takeNext_framesLeft : (takeNext s).framesLeft ⊆ s.framesLeft := by
  intro f hf
  rcases takeNext_cases s with he | he | ⟨n, -, he⟩
  · rw [he, beginSending_frame] at hf
    exact hf
  · rwa [he] at hf
  · rw [he, takeNotice_framesLeft, mem_framesLeft] at hf
    exact mem_framesLeft.mpr (List.mem_of_mem_erase hf)

/-- R135: one piece of waiting work keeps a crane on the way to vane, unless it is the crane's RESUME. -/
theorem takeNext_stays (h : s.Vanes d) :
    s.StaysVaning (takeNext s) d ∨ s.ResumeLeft d ∧ s.ResumedTo (takeNext s) d := by
  rcases takeNext_cases s with he | he | ⟨n, hn, he⟩
  · rw [he, beginSending_frame]
    exact .inl (.inl rfl)
  · rw [he]
    exact .inl (.inl rfl)
  · rw [he]
    rcases takeNotice_vaneMoves (s := { s with inFlight := s.inFlight.erase n }) (d := d) n with hm | ⟨f, rfl, hf, hr⟩
    · exact .inl (hm.1 h)
    · exact .inr ⟨⟨f, mem_framesLeft.mpr hn, hf⟩, hr⟩

theorem settleFor_stays (n : Nat) (h : s.Vanes d) : s.StaysVaning (settleFor n s) d ∨ s.ResumeLeft d := by
  induction n generalizing s with
  | zero => exact .inl (.inl rfl)
  | succ n ih =>
    rw [settleFor]
    split
    · exact .inl (.inl rfl)
    · rcases takeNext_stays h with hst | ⟨hr, -⟩
      · rcases ih (h.of_stays hst) with hst' | ⟨f, hf, hr⟩
        · exact .inl (hst.trans hst')
        · exact .inr ⟨f, takeNext_framesLeft hf, hr⟩
      · exact .inr hr

/-- With nothing in flight the work that waits is the transmitter's, which changes no mode. -/
theorem settleFor_mode (n : Nat) (h : s.inFlight = []) : (settleFor n s).mode = s.mode := by
  induction n generalizing s with
  | zero => rfl
  | succ n ih =>
    have hnext : (takeNext s).mode = s.mode ∧ (takeNext s).inFlight = s.inFlight := by
      rcases takeNext_cases s with he | he | ⟨m, hm, -⟩
      · rw [he, beginSending_frame]
        exact ⟨rfl, rfl⟩
      · rw [he]
        exact ⟨rfl, rfl⟩
      · rw [h] at hm; cases hm
    rw [settleFor]
    split
    · rfl
    · rw [ih (hnext.2.trans h), hnext.1]

/-! ### A step -/

/-- R135, R136: a command, after the work that waits, keeps a crane on the way to vane, unless it is the crane's RESUME,
it meets one in flight, or it is the reset's own. -/
theorem exec_stays {i : Instr} (hs : s.Vanes d) (he : exec i s = .next t) :
    s.StaysVaning t d ∨
      (∃ tag, i = .resume tag (octet1 d.val) ∧ (t.windOf d).state = .alert ∧ (s.inFlight = [] → s.mode = .armed)) ∨
      s.ResumeLeft d ∨ ResetsDevice i := by
  have acts {u : State} (hst : s.StaysVaning u d) (hmode : s.inFlight = [] → u.mode = s.mode) (ht : t = effect i u) :
      s.StaysVaning t d ∨
        (∃ tag, i = .resume tag (octet1 d.val) ∧ (t.windOf d).state = .alert ∧ (s.inFlight = [] → s.mode = .armed)) ∨
        s.ResumeLeft d ∨ ResetsDevice i := by
    subst ht
    rcases effect_vaneMoves (s := u) (d := d) i with hm | ⟨tag, hi, harmed, halert⟩ | ⟨hreset, -⟩
    · exact .inl (hst.trans (hm.1 (hs.of_stays hst)))
    · exact .inr (.inl ⟨tag, hi, halert, fun hq => (hmode hq).symm.trans harmed⟩)
    · exact .inr (.inr (.inr hreset))
  rcases exec_cases he with rfl | ht | ht
  · exact .inl (.inl rfl)
  · rcases settleFor_stays Config.noticeBound hs with hst | hr
    · exact acts hst (settleFor_mode _) ht
    · exact .inr (.inr (.inl hr))
  · exact acts (.inl rfl) (fun _ => rfl) ht

/-- What any command answers to a quiet device. -/
theorem exec_ready {i : Instr} (h : s.Ready) (he : exec i s = .next t) : t = s ∨ t = effect i s := by
  rcases exec_cases he with ht | ht | ht
  · exact .inl ht
  · exact .inr (by rw [ht, settle_quiet h.atRest])
  · exact .inr ht

theorem resumeLeft_iff : s.ResumeLeft d ↔ ∃ tag, .frame (.request tag 0x33#8 (octet1 d.val)) ∈ s.inFlight := by
  constructor
  · rintro ⟨_, hf, tag, rfl⟩
    exact ⟨tag, mem_framesLeft.mp hf⟩
  · rintro ⟨tag, h⟩
    exact ⟨_, mem_framesLeft.mpr h, tag, rfl⟩

/-- Settles O14: every notice and every command but a RESUME of the crane and the reset's own moves its wind state as
`State.VaneMoves` allows; before a command the work that waits is done, by induction on its pieces, and no piece brings
a frame that was not in flight. -/
theorem vaneIsLeftByResume : Obligations.VaneIsLeftByResume := by
  refine ⟨fun s t c hstep hs => ?_, fun i s t c hready he => ?_⟩
  · unfold step at hstep
    split at hstep
    · next i rest hp =>
      rcases exec_stays (s := { s with pending := rest }) (d := c) hs hstep with
        hst | ⟨tag, rfl, halert, harmed⟩ | hr | ⟨trigger, rfl⟩ | rfl
      · exact .inl hst
      · exact .inr (.inl ⟨tag, rest, hp, halert, harmed⟩)
      · obtain ⟨tag, hr⟩ := resumeLeft_iff.mp hr
        exact .inr (.inr (.inl ⟨tag, hr, fun hnone => by rw [hp] at hnone; cases hnone⟩))
      · exact .inr (.inr (.inr (.inl ⟨trigger, rest, hp⟩)))
      · exact .inr (.inr (.inr (.inr ⟨rest, hp⟩)))
    · cases hstep
      rcases takeNext_stays hs with hst | ⟨hr, harmed, halert⟩
      · exact .inl hst
      · obtain ⟨tag, hr⟩ := resumeLeft_iff.mp hr
        exact .inr (.inr (.inl ⟨tag, hr, fun _ => ⟨halert, harmed⟩⟩))
  · have hmoves : s.VaneMoves t c (i = .evaluation c) ∨ (t.windOf c).state.Aloft := by
      rcases exec_ready hready he with rfl | rfl
      · exact .inl (.of_kept rfl)
      · rcases effect_vaneMoves (s := s) (d := c) i with hm | ⟨-, -, -, halert⟩ | ⟨-, hkept | hstop⟩
        · exact .inl hm
        · exact .inr (by rw [halert]; exact ⟨nofun, nofun⟩)
        · exact .inl (.of_kept hkept)
        · exact .inr (aloft_of_stop hstop)
    rcases hmoves with ⟨-, hfreed, hheaded⟩ | ⟨hpending, hvane⟩
    · exact ⟨hfreed, hheaded⟩
    · exact ⟨fun _ h => absurd h hvane, fun _ h => absurd h hpending⟩

end Sys2Proof.Machine
end

/-! ## The advice of a permit (R147): O57 -/

section
namespace Sys2Proof.Machine

variable {s : State} {c : Crane} {k : Option Sector} {a b : Advice} {p : Advice × Option Sector}

/-! ### The conditions of the table (R147) -/

/-- `k` is the lowest-numbered sector that meets a test. -/
def Lowest (test : Sector → Prop) (k : Option Sector) : Prop :=
  ∃ j, k = some j ∧ test j ∧ ∀ i, i < j → ¬ test i

/-- Crane `c` holds sector `k` by a grant that meets a test. -/
def State.HoldsBy (s : State) (c : Crane) (test : Grant → Prop) (k : Sector) : Prop :=
  ∃ g, (s.entry k).base = .held c g ∧ test g

/-- R147: the condition of an advice holds for crane `c`, with `k` as its sector. -/
def State.Advises (s : State) (c : Crane) (advice : Advice) (k : Option Sector) : Prop :=
  match advice with
  | .hold => (s.mode = .config ∨ s.hold = true) ∧ k = none
  | .position => (s.position c).state ≠ .tracked ∧ k = none
  | .vane =>
    ((s.windOf c).state = .vanePending ∧
      (Lowest (s.BlocksVane c) k ∨ ((∀ j, ¬ s.BlocksVane c j) ∧ k = none))) ∨
    ((s.windOf c).state = .vane ∧ k = none)
  | .parkForVane => (s.windOf c).state = .stop ∧ (s.windOf c).vaneWait = true ∧ k = none
  | .windStop => (s.windOf c).state = .stop ∧ k = none
  | .evacuate => ∃ i g, s.StandsIn c i g ∧ s.ExitsFrom c g ∧ k = if g.kind = .shared then some g.sector else none
  | .yield => Lowest (s.HoldsBy c fun g => g.yielding ≠ none) k
  | .overstay => Lowest (s.HoldsBy c fun g => g.overstay = true) k
  | .waitSector => Lowest (fun j => ∃ q ∈ (s.entry j).queue, q.crane = c) k
  | .booked => Lowest (s.HoldsBy c fun g => g.kind ≠ .routine) k
  | .windAlert => (s.windOf c).state = .alert ∧ k = none
  | .none => k = none

/-- R147: `p` is the first of the table's rows, from row `a` on, whose condition holds. -/
def State.FirstFrom (s : State) (c : Crane) (a : Advice) (p : Advice × Option Sector) : Prop :=
  s.Advises c p.1 p.2 ∧
    ∀ b k, adviceCode a ≤ adviceCode b → s.Advises c b k → adviceCode p.1 < adviceCode b ∨ p = (b, k)

theorem adviceCode_injective : Function.Injective adviceCode :=
  Function.LeftInverse.injective (g := fun n => Advice.ofNat (n - 1)) fun a => by cases a <;> rfl

/-- The row's own condition holds, with one sector only. -/
theorem firstFrom_here (h : ∀ k', s.Advises c a k' ↔ k' = k) : s.FirstFrom c a (a, k) := by
  refine ⟨(h k).mpr rfl, fun b k' hle hb => ?_⟩
  rcases hle.lt_or_eq with hlt | heq
  · exact .inl hlt
  · obtain rfl := adviceCode_injective heq
    exact .inr (by rw [(h k').mp hb])

/-- The row's own condition fails. -/
theorem firstFrom_next (hnext : adviceCode b = adviceCode a + 1) (hnot : ∀ k, ¬ s.Advises c a k)
    (h : s.FirstFrom c b p) : s.FirstFrom c a p := by
  obtain ⟨hp, hmin⟩ := h
  refine ⟨hp, fun d k hle hd => hmin d k ?_ hd⟩
  have hne : adviceCode a ≠ adviceCode d := fun heq => hnot k (adviceCode_injective heq ▸ hd)
  omega

/-- A row that names no sector, with a condition that the model tests. -/
theorem firstFrom_ite {q : Prop} [Decidable q] (hnext : adviceCode b = adviceCode a + 1)
    (hrow : ∀ k, s.Advises c a k ↔ q ∧ k = none) (hrest : ¬ q → s.FirstFrom c b p) :
    s.FirstFrom c a (if q then (a, none) else p) := by
  split
  · next hq => exact firstFrom_here fun k => (hrow k).trans (and_iff_right hq)
  · next hq => exact firstFrom_next hnext (fun k h => hq ((hrow k).mp h).1) (hrest hq)

/-- A row that names the sector that a search finds. -/
theorem firstFrom_found {found : Option Sector} {j : Sector}
    (h : ∀ k, s.Advises c a k ↔ k = found ∧ found ≠ none) (hj : found = some j) : s.FirstFrom c a (a, some j) :=
  firstFrom_here fun k => (h k).trans (by simp [hj])

/-- A row that names the sector that a search finds, where it finds none. -/
theorem firstFrom_notFound {found : Option Sector} (hnext : adviceCode b = adviceCode a + 1)
    (h : ∀ k, s.Advises c a k ↔ k = found ∧ found ≠ none) (hnone : found = none) (hp : s.FirstFrom c b p) :
    s.FirstFrom c a p :=
  firstFrom_next hnext (fun k hk => ((h k).mp hk).2 hnone) hp

/-! ### The rows that name the lowest sector -/

/-- A search that finds the lowest sector, or none, says which sector is the lowest. -/
theorem lowest_iff {test : Sector → Prop} {found : Option Sector}
    (h : ∀ j, found = some j ↔ test j ∧ ∀ i, i < j → ¬ test i) : Lowest test k ↔ k = found ∧ found ≠ none := by
  simp only [Lowest, ← h]
  constructor
  · rintro ⟨j, rfl, hj⟩
    exact ⟨hj.symm, by simp [hj]⟩
  · rintro ⟨rfl, hk⟩
    obtain ⟨j, hj⟩ := Option.ne_none_iff_exists'.mp hk
    exact ⟨j, hj, hj⟩

/-- The first sector that meets a test is the lowest. -/
theorem find?_allSectors {p : Sector → Bool} {test : Sector → Prop} (h : ∀ j, p j = true ↔ test j) (j : Sector) :
    allSectors.find? p = some j ↔ test j ∧ ∀ i, i < j → ¬ test i := by
  rw [find?_ascending allSectors_ascending]
  simp only [mem_allSectors, true_and, true_implies, h, ← Bool.not_eq_true]

theorem lowest_heldWith {p : Grant → Bool} {test : Grant → Prop} (h : ∀ g, p g = true ↔ test g) :
    Lowest (s.HoldsBy c test) k ↔ k = s.heldWith c p ∧ s.heldWith c p ≠ none := by
  rw [State.heldWith, State.heldBy, List.find?_filter]
  refine lowest_iff (find?_allSectors fun j => ?_)
  rw [decide_eq_true_eq, holds_iff, State.HoldsBy]
  constructor
  · rintro ⟨⟨g, hg⟩, hp⟩
    simp only [grantOf, hg] at hp
    exact ⟨g, hg, (h g).mp hp⟩
  · rintro ⟨g, hg, ht⟩
    exact ⟨⟨g, hg⟩, by simpa only [grantOf, hg] using (h g).mpr ht⟩

theorem isBooked_iff {g : Grant} : isBooked g = true ↔ g.kind ≠ .routine := by
  unfold isBooked
  cases g.kind <;> simp

theorem advises_yield_iff : s.Advises c .yield k ↔
    k = s.heldWith c (fun g => g.yielding.isSome) ∧ s.heldWith c (fun g => g.yielding.isSome) ≠ none :=
  lowest_heldWith fun _ => Option.isSome_iff_ne_none

theorem advises_overstay_iff : s.Advises c .overstay k ↔
    k = s.heldWith c (fun g => g.overstay) ∧ s.heldWith c (fun g => g.overstay) ≠ none :=
  lowest_heldWith fun _ => Iff.rfl

theorem advises_waitSector_iff : s.Advises c .waitSector k ↔ k = s.queuedIn c ∧ s.queuedIn c ≠ none :=
  lowest_iff (find?_allSectors fun _ => queued_iff)

theorem advises_booked_iff : s.Advises c .booked k ↔ k = s.heldWith c isBooked ∧ s.heldWith c isBooked ≠ none :=
  lowest_heldWith fun _ => isBooked_iff

/-! ### The wind states and the exit case -/

/-- R133: in VANE_PENDING the sector is the first in which the handshake fails, if any does. -/
theorem advises_vane_pending (h : (s.windOf c).state = .vanePending) :
    s.Advises c .vane k ↔ k = s.handshakeFailure c := by
  simp only [State.Advises, h, true_and, reduceCtorEq, false_and, or_false,
    lowest_iff fun _ => handshakeFailure_eq_some_iff, ← handshakeFailure_eq_none_iff]
  cases s.handshakeFailure c <;> simp

theorem advises_vane_else (h : (s.windOf c).state ≠ .vanePending) :
    s.Advises c .vane k ↔ (s.windOf c).state = .vane ∧ k = none := by
  simp [State.Advises, h]

/-- The sector that a crane exits, if it exits one. -/
def ExitPlace.sector? : ExitPlace → Option Sector
  | .sector k => some k
  | .barred _ => none

theorem Segment.exitPlace_sector? (g : Segment) :
    g.exitPlace.sector? = if g.kind = .shared then some g.sector else none := by
  unfold Segment.exitPlace
  split <;> rfl

/-- R37, R42: the crane is an exit crane, and its sector that of the place it exits. -/
theorem advises_evacuate_iff : s.Advises c .evacuate k ↔ ∃ x, s.exitPlace c = some x ∧ k = x.sector? := by
  constructor
  · rintro ⟨i, g, hg, he, rfl⟩
    exact ⟨_, exitPlace_exits hg he, g.exitPlace_sector?.symm⟩
  · rintro ⟨x, hx, rfl⟩
    obtain ⟨i, g, hg, he⟩ := exits_iff.mp (Option.isSome_of_mem hx)
    obtain rfl : g.exitPlace = x := Option.some.inj ((exitPlace_exits hg he).symm.trans hx)
    exact ⟨i, g, hg, he, g.exitPlace_sector?⟩

/-! ### The advice -/

/-- R147: the advice is the first row of the table whose condition holds. -/
theorem advice_firstFrom (s : State) (c : Crane) : s.FirstFrom c .hold (s.advice c) := by
  unfold State.advice
  dsimp only
  refine firstFrom_ite (b := .position) rfl (fun _ => Iff.rfl) fun _ => ?_
  refine firstFrom_ite (b := .vane) rfl (fun _ => Iff.rfl) fun _ => ?_
  by_cases hpending : (s.windOf c).state = .vanePending
  · rw [if_pos hpending]
    exact firstFrom_here fun _ => advises_vane_pending hpending
  rw [if_neg hpending]
  refine firstFrom_ite (b := .parkForVane) rfl (fun _ => advises_vane_else hpending) fun _ => ?_
  refine firstFrom_ite (b := .windStop) rfl (fun _ => and_assoc.symm) fun _ => ?_
  refine firstFrom_ite (b := .evacuate) rfl (fun _ => Iff.rfl) fun _ => ?_
  cases hexit : s.exitPlace c with
  | some x =>
    have hhere : s.FirstFrom c .evacuate (.evacuate, x.sector?) :=
      firstFrom_here fun _ => advises_evacuate_iff.trans (by simp [hexit])
    cases x <;> exact hhere
  | none =>
  refine firstFrom_next (b := .yield) rfl (fun _ h => by simp [advises_evacuate_iff, hexit] at h) ?_
  cases hyield : s.heldWith c (fun g => g.yielding.isSome) with
  | some j => exact firstFrom_found (fun _ => advises_yield_iff) hyield
  | none =>
  refine firstFrom_notFound (b := .overstay) rfl (fun _ => advises_yield_iff) hyield ?_
  cases hoverstay : s.heldWith c (fun g => g.overstay) with
  | some j => exact firstFrom_found (fun _ => advises_overstay_iff) hoverstay
  | none =>
  refine firstFrom_notFound (b := .waitSector) rfl (fun _ => advises_overstay_iff) hoverstay ?_
  cases hqueued : s.queuedIn c with
  | some j => exact firstFrom_found (fun _ => advises_waitSector_iff) hqueued
  | none =>
  refine firstFrom_notFound (b := .booked) rfl (fun _ => advises_waitSector_iff) hqueued ?_
  cases hbooked : s.heldWith c isBooked with
  | some j => exact firstFrom_found (fun _ => advises_booked_iff) hbooked
  | none =>
  refine firstFrom_notFound (b := .windAlert) rfl (fun _ => advises_booked_iff) hbooked ?_
  exact firstFrom_ite (b := .none) rfl (fun _ => Iff.rfl) fun _ => firstFrom_here fun _ => Iff.rfl

/-- Settles O57: down the table each row's condition either holds, with one sector only, or fails for every sector. -/
theorem adviceIsTheFirst : Obligations.AdviceIsTheFirst := by
  intro s c w lowest holding holds
  have hmeans : ∀ advice k, holds advice k ↔ s.Advises c advice k := by
    intro advice k
    cases advice <;> exact Iff.rfl
  obtain ⟨hholds, hfirst⟩ := advice_firstFrom s c
  refine ⟨(hmeans _ _).mpr hholds, fun advice k h => hfirst advice k ?_ ((hmeans _ _).mp h)⟩
  cases advice <;> decide

end Sys2Proof.Machine
end

/-! ## The two slots of a crane link port (R148, R155, R159): O16 -/

section
namespace Sys2Proof.Machine

variable {s : State} {c : Crane} {p : Permit}

/-- R146, R148: a permit issued is handed to the crane's link port; its contents are no matter of the slots. -/
theorem issue_slot (s : State) (c : Crane) (x : Computation) :
    (issue c x s).slot c = placePermit ((issue c x s).assemble c x) (s.slot c) :=
  State.setSlot_slot_self _ _ _

theorem completePermit_sending (h : (s.slot c).transmit = some p) :
    completePermit c s = s.setSlot c { transmit := (s.slot c).waiting, waiting := none } :=
  if_neg (by rw [h]; exact Option.some_ne_none p)

theorem completePermit_idle (h : (s.slot c).transmit = none) : completePermit c s = s := if_pos h

/-- R148: a crane made absent has its pending slot emptied. -/
theorem makeAbsent_slot (h : (s.crane c).present = true) :
    (makeAbsent c s).slot c = { s.slot c with waiting := none } := by
  have hslots : (makeAbsent c s).slots = (s.dropped c).slots := by rw [makeAbsent_frame]
  have hwrite : (s.dropped c).slots = s.slots.write c { s.slot c with waiting := none } := if_pos h
  rw [State.slot, hslots, hwrite, Bank.read_write_self]

theorem frameOctets_length (kind : Byte) (payload : List Byte) :
    (frameOctets kind payload).length = payload.length + 5 := by
  simp [frameOctets]

theorem permitPayload_length (p : Permit) : (permitPayload p).length = 17 := by
  simp [permitPayload]

/-- R148, R155: a crane link sends frames of 22 octets. -/
theorem craneLine_length {line : List Byte} (h : s.craneLine c = some line) : line.length = 22 := by
  obtain ⟨p, -, rfl⟩ := Option.map_eq_some_iff.mp h
  rw [frameOctets_length, permitPayload_length]

/-- Settles O16: each clause is what the slots' own functions and `makeAbsent` do, as a quiet device takes them. -/
theorem permitSlotsPassPermitsOn : Obligations.PermitSlotsPassPermitsOn := by
  refine ⟨fun c => Bank.read_fill _ _, fun s c x => ?_, fun s c p h hp => ?_, fun s c h hp => ?_,
    fun s c tag others h hroom hm hpresent ho => ?_, fun s c line => craneLine_length⟩
  · rw [issue_slot, placePermit]
    cases h : (s.slot c).transmit <;> rfl
  · exact (exec_permitSendCompletion h c).trans (congrArg _ (completePermit_sending hp))
  · exact (exec_permitSendCompletion h c).trans (congrArg _ (completePermit_idle hp))
  · have hslot := makeAbsent_slot (s := s.hunting siteLink) hpresent
    have hexec : exec (.writeCrane tag (octet1 c.val ++ octet1 0 ++ others)) s =
        .next ((makeAbsent c (s.hunting siteLink)).replied tag 0x02#8 []) := by
      rw [exec_writeCrane h, request_accept hroom (writeCrane_absent (by exact hm) c ho)]
    generalize makeAbsent c (s.hunting siteLink) = u at *
    exact ⟨u.replied tag 0x02#8 [], hexec, hslot⟩

end Sys2Proof.Machine
end

/-! ## What an idle site transmitter begins, and what it has sent (R156, R162, R167): O17 -/

section
namespace Sys2Proof.Machine

variable {s t : State}

/-! ### The frame begun (R156, R167) -/

theorem beginSending_reply {r : Reply} {rest : List Reply} (ht : s.transmitter = none) (hr : s.replies = r :: rest) :
    beginSending s = { s with transmitter := some (.reply r) } := by
  simp only [beginSending, ht, hr]

theorem beginSending_event {e : EventRecord} {rest : List EventRecord} (ht : s.transmitter = none)
    (hr : s.replies = []) (he : s.events = e :: rest) :
    beginSending s = { s with transmitter := some (.event e s.overflow), overflow := false } := by
  simp only [beginSending, ht, hr, he]

/-- A transmitter with nothing to begin begins nothing. -/
theorem beginSending_nothing (h : s.transmitter ≠ none ∨ (s.replies = [] ∧ s.events = [])) : beginSending s = s := by
  unfold beginSending
  cases ht : s.transmitter with
  | some f => rfl
  | none =>
    obtain ⟨hr, he⟩ := h.resolve_left (not_not_intro ht)
    rw [hr, he]

/-! ### The frame sent (R162, R167) -/

theorem completeReply_sent {r : Reply} (ht : s.transmitter = some (.reply r)) :
    completeReply s = { s with replies := s.replies.tail, transmitter := none } := by
  simp only [completeReply, ht]

theorem completeEvent_sent {e : EventRecord} {v : Bool} (ht : s.transmitter = some (.event e v)) :
    completeEvent s = { s with events := s.events.tail, transmitter := none } := by
  simp only [completeEvent, ht]

theorem completeReply_none (ht : ∀ r, s.transmitter ≠ some (.reply r)) : completeReply s = s := by
  unfold completeReply
  split
  · next r h => exact absurd h (ht r)
  · rfl

theorem completeEvent_none (ht : ∀ e v, s.transmitter ≠ some (.event e v)) : completeEvent s = s := by
  unfold completeEvent
  split
  · next e v h => exact absurd h (ht e v)
  · rfl

/-! ### Before any command has its effect (log 4) -/

/-- There is room in the bound for a first piece of waiting work. -/
theorem settle_succ : ∃ n, ∀ s, settle s = if s.atRest then s else settleFor n (takeNext s) := ⟨_, fun _ => rfl⟩

/-- A frame begun that leaves a state at rest is all the work that waits. -/
theorem settle_begins (hm : s.mustSend = true) (hb : (beginSending s).atRest = true) :
    settle s = beginSending s := by
  obtain ⟨n, hn⟩ := settle_succ
  have hnot : s.atRest = false := by simp [State.atRest, hm]
  rw [hn, hnot, takeNext_begins hm]
  exact settleFor_quiet hb n

/-- What a frame begun does to every command but the reset's own, and to the command that would begin it. -/
theorem exec_begins (hr : s.inReset = none) (hm : s.mustSend = true)
    (hb : beginSending s = t) (hready : t.Ready) (hbusy : t.transmitter ≠ none) :
    exec .siteTransmitBegin s = .next t ∧
      ∀ c : Instr, (∀ trigger, c ≠ .deviceReset trigger) → c ≠ .resetEnd → exec c s = exec c t := by
  subst hb
  have hall : ∀ c : Instr, (∀ trigger, c ≠ .deviceReset trigger) → c ≠ .resetEnd →
      exec c s = exec c (beginSending s) := fun c hreset hend => by
    rw [exec_whenRunning c hreset hend, exec_whenRunning c hreset hend, whenRunning_running hr,
      whenRunning_ready hready, settle_begins hm hready.atRest]
  refine ⟨?_, hall⟩
  rw [hall .siteTransmitBegin nofun nofun, exec_siteTransmitBegin hready, beginSending_nothing (.inl hbusy)]

/-- Settles O17: a device with no notice in flight settles by beginning the frame alone, and one that has nothing to
begin is quiet and takes each completion at once. -/
theorem siteTransmitterSends : Obligations.SiteTransmitterSends := by
  refine fun s hr hf => ⟨fun r rest ht hq => ?_, fun e rest ht hq he => ?_, fun h => ?_⟩
  · exact exec_begins hr (by simp [State.mustSend, ht, hq]) (beginSending_reply ht hq) ⟨hr, hf, nofun⟩ nofun
  · exact exec_begins hr (by simp [State.mustSend, ht, he]) (beginSending_event ht hq he) ⟨hr, hf, nofun⟩ nofun
  · have hready : s.Ready := ⟨hr, hf, fun ht => h.resolve_left (not_not_intro ht)⟩
    rw [exec_siteTransmitBegin hready, exec_replyFrameCompletion hready, exec_eventFrameCompletion hready]
    refine ⟨congrArg _ (beginSending_nothing h), fun r r' rest ht hq => ?_, fun e v e' rest ht he => ?_,
      fun ht => congrArg _ (completeReply_none ht), fun ht => congrArg _ (completeEvent_none ht)⟩
    · rw [completeReply_sent ht, hq, List.tail_cons]
    · rw [completeEvent_sent ht, he, List.tail_cons]

end Sys2Proof.Machine
end

/-! ## Octets and frames on a line, and the layouts of frames (R150 to R152, R155, R157, R159): O18 -/

section
namespace Sys2Proof.Machine

/-! ### A frame's levels on a line (R150) -/

/-- R150: what the levels of a line are, bit time by bit time: high while it sends nothing and after its frame, and each
octet of the frame in its ten bit times. -/
def CarriesLine (level : Nat → Bool) (line : Option (List Byte)) : Prop :=
  (line = none → ∀ bit, level bit = true) ∧
  (∀ octets, line = some octets →
    (∀ bit, 10 * octets.length ≤ bit → level bit = true) ∧
    (∀ i b, octets[i]? = some b → level (10 * i) = false ∧ level (10 * i + 9) = true ∧
      ∀ j, j < 8 → level (10 * i + 1 + j) = b.getLsbD j))

theorem frameLevels_length (octets : List Byte) : (frameLevels octets).length = 10 * octets.length := by
  simp [frameLevels, Nat.mul_comm]

/-- Octet `i` of a frame takes the ten bit times from `10 * i` on. -/
theorem frameLevels_getElem? {octets : List Byte} {i j : Nat} {b : Byte} (h : octets[i]? = some b) (hj : j < 10) :
    (frameLevels octets)[10 * i + j]? = (octetLevels b)[j]? := by
  induction octets generalizing i with
  | nil => simp at h
  | cons x octets ih =>
    rw [frameLevels, List.flatMap_cons, ← frameLevels, List.getElem?_append, octetLevels_length]
    cases i with
    | zero =>
      obtain rfl : x = b := by simpa using h
      rw [if_pos (by omega), Nat.mul_zero, Nat.zero_add]
    | succ i =>
      rw [if_neg (by omega), show 10 * (i + 1) + j - 10 = 10 * i + j by omega]
      exact ih (by simpa using h)

/-- The levels of one octet: start bit, data bits, stop bit. -/
theorem octetLevels_data (b : Byte) {j : Nat} (hj : j < 8) : (octetLevels b)[1 + j]? = some (b.getLsbD j) := by
  rw [octetLevels, List.cons_append, Nat.add_comm, List.getElem?_cons_succ, List.getElem?_append_left (by simpa)]
  simp [hj]

/-- R150: the levels the model gives a line carry its octets. -/
theorem carriesLine_lineLevel (line : Option (List Byte)) : CarriesLine (lineLevel line) line := by
  refine ⟨?_, ?_⟩
  · rintro rfl bit
    rfl
  · rintro octets rfl
    have level_eq : ∀ bit, lineLevel (some octets) bit = ((frameLevels octets)[bit]?).getD true := fun _ =>
      List.getD_eq_getElem?_getD
    refine ⟨fun bit hbit => ?_, fun i b hb => ⟨?_, ?_, fun j hj => ?_⟩⟩
    · rw [level_eq, List.getElem?_eq_none (by rwa [frameLevels_length])]
      rfl
    · rw [level_eq, ← Nat.add_zero (10 * i), frameLevels_getElem? hb (by omega)]
      rfl
    · rw [level_eq, frameLevels_getElem? hb (by omega)]
      simp [octetLevels]
    · rw [level_eq, Nat.add_assoc, frameLevels_getElem? hb (by omega), octetLevels_data b hj]
      rfl

/-! ### Octets heard (R150) -/

/-- Octets on a line, each after so many bit times of idle line and with its stop bit at the level given. -/
def spokenLevels (xs : List (Nat × Byte × Bool)) : List Bool :=
  xs.flatMap (fun x => List.replicate x.1 true ++ false :: (List.range 8).map x.2.1.getLsbD ++ [x.2.2])

theorem octetsHeard_gap (n : Nat) (levels : List Bool) :
    octetsHeard (List.replicate n true ++ levels) = octetsHeard levels := by
  induction n with
  | zero => rfl
  | succ n ih => rw [List.replicate_succ, List.cons_append, octetsHeard_idle, ih]

/-- Levels too few for an octet are of one still on its way. -/
theorem octetsHeard_short {levels : List Bool} (h : levels.length < 10) : octetsHeard levels = [] := by
  induction levels using octetsHeard.induct with
  | case1 rest ih => exact ih (by simp at h; omega)
  | case2 => simp at h; omega
  | case3 levels hidle hoctet => rw [octetsHeard.eq_3 _ hidle hoctet]

/-- R150: every octet spoken is heard, and nothing of one still on its way. -/
theorem octetsHeard_spoken (xs : List (Nat × Byte × Bool)) {tail : List Bool} (h : tail.length < 10) :
    octetsHeard (spokenLevels xs ++ tail) = xs.map (·.2.1) := by
  induction xs with
  | nil => exact octetsHeard_short h
  | cons x xs ih =>
    rw [spokenLevels, List.flatMap_cons, ← spokenLevels, List.append_assoc, List.append_assoc, List.append_assoc,
      octetsHeard_gap, List.map_cons, ← ih]
    exact octetsHeard_octet x.2.1 x.2.2 _

/-! ### A frame that arrives in two parts (R152) -/

/-- A frame not yet whole is stored as far as it has come. -/
theorem rescan_part (l : Link) {kind : Byte} {payload before after : List Byte}
    (hl : lengthIsError l kind payload.length = false) (h : before ++ after = frameOctets kind payload)
    (ha : after ≠ []) : ∃ state, rescan l before = ([], { state := state, store := before }) := by
  have hn : (BitVec.ofNat 8 payload.length).toNat = payload.length := by
    have := length_le_of_no_error hl
    simp; omega
  have hlen : before.length < payload.length + 5 := by
    have := congrArg List.length h
    have := List.length_pos_iff.mpr ha
    simp only [List.length_append, frameOctets_length] at *
    omega
  rw [frameOctets, List.cons_append, List.cons_append] at h
  match before, h, hlen with
  | [], _, _ => exact ⟨.hunt, rfl⟩
  | [b], h, _ =>
    obtain ⟨rfl, -⟩ := List.cons.inj h
    exact ⟨.kind, rfl⟩
  | [b, k], h, _ =>
    obtain ⟨rfl, -⟩ := List.cons.inj h
    exact ⟨.len, rfl⟩
  | b :: k :: len :: tail, h, hlen =>
    simp only [List.cons_append, List.cons.injEq] at h
    obtain ⟨rfl, rfl, rfl, -⟩ := h
    simp only [rescan, huntOctets, ne_eq, not_true_eq_false, if_false, hn, hl, Bool.false_eq_true]
    by_cases hpayload : tail.length < payload.length
    · exact ⟨.payload, if_pos hpayload⟩
    · rw [if_neg hpayload, if_pos (by simp at hlen; omega)]
      exact ⟨.check, rfl⟩

/-- What a receiver makes of octets spoken on its line is a rescan of those it stored with them after. -/
theorem hearLevels_spoken (l : Link) (s : State) (xs : List (Nat × Byte × Bool)) :
    hearLevels l (spokenLevels xs) s = rescanOctets l ((s.receiver l).store ++ xs.map (·.2.1)) s := by
  rw [hearLevels, ← octetsHeard_spoken xs (tail := []) (by decide), List.append_nil]

/-- A receiver set and then set back is as it was. -/
theorem receivers_write_back {s : State} {l : Link} {r : Receiver} (h : s.receiver l = r) (x : Receiver) :
    (s.receivers.write l x).write l r = s.receivers := by
  refine Bank.ext_read fun i => ?_
  rw [Bank.read_write, Bank.read_write]
  split
  · next hi => rw [hi]; exact h.symm
  · rfl

/-- R152: a good frame heard in two parts is handed on, and the receiver hunts again. -/
theorem hearLevels_two_parts {s : State} {l : Link} {kind : Byte} {payload : List Byte} {f : GoodFrame}
    {xs ys : List (Nat × Byte × Bool)} (hs : s.receiver l = .hunting) (hk : acceptsKind l kind = true)
    (hl : lengthIsError l kind payload.length = false) (hp : readPayload l payload = some f)
    (h : (xs ++ ys).map (·.2.1) = frameOctets kind payload) (hys : ys ≠ []) :
    hearLevels l (spokenLevels ys) (hearLevels l (spokenLevels xs) s) =
      { s with inFlight := s.inFlight ++ [.frame f] } := by
  rw [List.map_append] at h
  obtain ⟨state, hpart⟩ := rescan_part l hl h (by simpa using hys)
  have hwhole : rescan l (frameOctets kind payload) = ([.good f], .hunting) := by
    simpa using rescan_frame l (before := []) (after := []) List.not_mem_nil List.not_mem_nil hk hl hp
  have hfirst : hearLevels l (spokenLevels xs) s =
      s.setReceiver l { state := state, store := xs.map (·.2.1) } := by
    rw [hearLevels_spoken, hs, Receiver.hunting, List.nil_append, rescanOctets, hpart]
    rfl
  rw [hfirst, hearLevels_spoken, State.setReceiver_receiver_self, h, rescanOctets, hwhole]
  simp only [List.foldl_cons, List.foldl_nil, hear, State.send, State.setReceiver, receivers_write_back hs]

/-! ### The frame check, as R151 says it -/

theorem crcShift_eq (r : BitVec 16) : crcShift r = if r.msb = true then (r <<< 1) ^^^ 0x1021#16 else r <<< 1 := by
  rw [crcShift, BitVec.msb_eq_getLsbD_last]

/-- An octet in the high place. -/
theorem octet_high (b : Byte) : b.zeroExtend 16 <<< 8 = b ++ 0x00#8 := by revert b; decide +kernel

theorem crcOctet_eq_crcTakes (r : BitVec 16) (b : Byte) : crcOctet r b = crcTakes r b := by
  simp only [crcOctet, crcTakes, octet_high, ← crcShift_eq]
  rfl

theorem crcOf_eq (octets : List Byte) : crcOf octets = octets.foldl crcTakes 0xFFFF#16 := by
  rw [crcOf, funext fun r => funext (crcOctet_eq_crcTakes r)]

theorem frameOctets_eq (kind : Byte) (payload : List Byte) : frameOctets kind payload = frameOf kind payload := by
  rw [frameOctets, frameOf, octet2_toNat, crcOf_eq]
  rfl

/-! ### Fields of frames (R157) -/

/-- A word of two octets is those octets, the most significant first. -/
theorem half_extracts (w : Half) : half (w.extractLsb' 8 8) (w.extractLsb' 0 8) = w :=
  (BitVec.extractLsb'_append_extractLsb'_eq_extractLsb' (start₁ := 0) (len₁ := 8) rfl).trans
    BitVec.extractLsb'_eq_self

theorem octet1_reads {n : Nat} (h : n < 256) : ∃ a, octet1 n = [a] ∧ a.toNat = n :=
  ⟨_, rfl, by simp; omega⟩

theorem octet2_reads {n : Nat} (h : n < 65536) : ∃ a b, octet2 n = [a, b] ∧ 256 * a.toNat + b.toNat = n :=
  ⟨_, _, rfl, by simp; omega⟩

theorem octet4_reads {n : Nat} (h : n < 4294967296) : ∃ a b c d, octet4 n = [a, b, c, d] ∧
    16777216 * a.toNat + 65536 * b.toNat + 256 * c.toNat + d.toNat = n :=
  ⟨_, _, _, _, rfl, by simp; omega⟩

/-- A signed number's two octets hold it in two's complement. -/
theorem signed2_reads {i : Int} (hlow : -32768 ≤ i) (hhigh : i ≤ 32767) : ∃ a b, signed2 i = [a, b] ∧
    (256 * a.toNat + b.toNat : Int) = if i < 0 then i + 65536 else i := by
  obtain ⟨a, b, hab, hn⟩ := octet2_reads (BitVec.ofInt 16 i).isLt
  refine ⟨a, b, hab, ?_⟩
  rw [BitVec.toNat_ofInt] at hn
  split <;> omega

/-! ### Frames sent (R146, R159) -/

theorem replyPayload_eq (r : Reply) : replyPayload r = replyFrame r := by
  obtain ⟨tag, operation, result, locator, data⟩ := r
  cases result <;> rfl

theorem eventPayload_eq (e : EventRecord) (overflow : Bool) : eventPayload e overflow = eventFrame e overflow := by
  refine congrArg₂ (octet1 · ++ octet1 · ++ _ ++ _ ++ _ ++ _) ?_ ?_
  · refine congrArg₂ (· + ·) (congrArg₂ (· + ·) ?_ ?_) ?_
    · cases overflow <;> rfl
    · cases e.clockUnset <;> rfl
    · cases e.body.kind <;> rfl
  · refine congrArg₂ (· + ·) ?_ ?_
    · cases e.body.sector with
      | none => rfl
      | some k => exact Nat.mul_comm _ _
    · cases e.body.crane <;> rfl

theorem permitPayload_eq (p : Permit) : permitPayload p = permitFrame p := by
  have hhead : octet1 p.echoed.toNat ++ octet1 p.seq.toNat ++ axisOctets p.speeds =
      [p.echoed, p.seq] ++ signed2 p.speeds.slew ++ signed2 p.speeds.trolley ++ signed2 p.speeds.hoist := by
    rw [octet1_toNat, octet1_toNat]
    rfl
  have hreason : ∀ r, reasonCode r = [.none, .site, .posn, .wind, .exit, .sect, .book, .zone].idxOf r := by
    intro r; cases r <;> rfl
  rw [permitPayload, hhead, hreason, hreason, hreason, ← bitsOctet_eq, ← orNone_eq]
  refine congrArg₂ (_ ++ octet1 · ++ _ ++ octet1 · ++ _) ?_ ?_
  · cases p.advice <;> rfl
  · rw [Nat.add_assoc]
    refine congrArg₂ (· + ·) ?_ ?_
    · cases p.windState <;> rfl
    · cases p.source <;> rfl

/-! ### Frames read (R152, R159) -/

theorem linkOf_ne_siteLink (c : Crane) : linkOf c ≠ siteLink := Fin.castSucc_ne_last c

theorem ofNat_linkOf (c : Crane) : Fin.ofNat 8 (linkOf c).val = c := Fin.ofNat_val_eq_self c

theorem acceptsKind_linkOf (c : Crane) (kind : Byte) :
    acceptsKind (linkOf c) kind = true ↔ kind = 0x21#8 ∨ kind = 0x22#8 ∨ kind = 0x23#8 := by
  simp [acceptsKind, linkOf_ne_siteLink, kindMotion, kindWind, kindDemand, or_assoc]

theorem acceptsKind_siteLink (kind : Byte) : acceptsKind siteLink kind = true ↔ kind = 0x41#8 := by
  simp [acceptsKind, kindRequest]

/-- R152: a kind that the link does not accept is only held to 48 octets. -/
theorem lengthIsError_unaccepted {l : Link} {kind : Byte} (h : acceptsKind l kind = false) (n : Nat) :
    lengthIsError l kind n = false ↔ n ≤ 48 := by
  simp [lengthIsError, h]

theorem lengthIsError_linkOf (c : Crane) (kind : Byte) (n : Nat) :
    lengthIsError (linkOf c) kind n = false ↔
      n ≤ 48 ∧ (kind = 0x21#8 → n = 10) ∧ (kind = 0x22#8 → n = 4) ∧ (kind = 0x23#8 → n = 7) := by
  cases hk : acceptsKind (linkOf c) kind with
  | false =>
    have hnot := mt (acceptsKind_linkOf c kind).mpr (by simp [hk])
    simp only [not_or] at hnot
    simp [lengthIsError_unaccepted hk, hnot]
  | true =>
    rcases (acceptsKind_linkOf c kind).mp hk with rfl | rfl | rfl <;>
      simp [lengthIsError, hk, kindMotion, kindWind, kindDemand]

theorem lengthIsError_siteLink (kind : Byte) (n : Nat) :
    lengthIsError siteLink kind n = false ↔ n ≤ 48 ∧ (kind = 0x41#8 → 2 ≤ n) := by
  cases hk : acceptsKind siteLink kind with
  | false =>
    have hnot := mt (acceptsKind_siteLink kind).mpr (by simp [hk])
    simp [lengthIsError_unaccepted hk, hnot]
  | true =>
    obtain rfl := (acceptsKind_siteLink kind).mp hk
    simp only [lengthIsError, hk, kindMotion, kindWind, kindDemand, BitVec.reduceEq, if_false, Bool.true_and,
      Bool.or_eq_false_iff, decide_eq_false_iff_not, Nat.not_lt, true_imp_iff]

/-- R159: the octets of a MOTION payload, field by field. -/
theorem readPayload_motion (c : Crane) (seq status : Byte) (w x y z : Half) :
    readPayload (linkOf c)
        ([seq] ++ octet2 w.toNat ++ octet2 x.toNat ++ octet2 y.toNat ++ octet2 z.toNat ++ [status]) =
      some (.motion c
        { seq := seq, rawAngle := w, radius := x, height := y, load := z, slewOk := status.getLsbD 0,
          trolleyOk := status.getLsbD 1, hoistOk := status.getLsbD 2, loadOk := status.getLsbD 3 }) := by
  simp only [readPayload, linkOf_ne_siteLink, if_false, ofNat_linkOf, octet2_toNat, List.cons_append, List.nil_append,
    half_extracts, statusBit]

/-- R159: the octets of a WIND payload, field by field. -/
theorem readPayload_wind (c : Crane) (seq status : Byte) (w : Half) :
    readPayload (linkOf c) ([seq] ++ octet2 w.toNat ++ [status]) =
      some (.wind c { seq := seq, speed := w, anemometerOk := status.getLsbD 0 }) := by
  simp only [readPayload, linkOf_ne_siteLink, if_false, ofNat_linkOf, octet2_toNat, List.cons_append, List.nil_append,
    half_extracts, statusBit]

/-- R159: the octets of a DEMAND payload, field by field. -/
theorem readPayload_demand (c : Crane) (seq : Byte) (w x y : Half) :
    readPayload (linkOf c) ([seq] ++ octet2 w.toNat ++ octet2 x.toNat ++ octet2 y.toNat) =
      some (.demand c { seq := seq, slew := w, trolley := x, hoist := y }) := by
  simp only [readPayload, linkOf_ne_siteLink, if_false, ofNat_linkOf, octet2_toNat, List.cons_append, List.nil_append,
    half_extracts]

theorem readPayload_request (tag operation : Byte) (operands : List Byte) :
    readPayload siteLink (tag :: operation :: operands) = some (.request tag operation operands) := rfl

/-! ### What the lines carry (R155, R156, R159) -/

/-- R156: the site link's line carries the frame of what its transmitter holds. -/
theorem siteLine_frames (s : State) :
    (s.transmitter = none → s.siteLine = none) ∧
    (∀ r, s.transmitter = some (.reply r) → s.siteLine = some (frameOctets 0x51#8 (replyFrame r))) ∧
    (∀ e v, s.transmitter = some (.event e v) → s.siteLine = some (frameOctets 0x52#8 (eventFrame e v))) := by
  refine ⟨fun h => ?_, fun r h => ?_, fun e v h => ?_⟩
  · rw [State.siteLine, h]
    rfl
  · rw [State.siteLine, h, ← replyPayload_eq]
    rfl
  · rw [State.siteLine, h, ← eventPayload_eq]
    rfl

/-- R155: a crane link's line carries the PERMIT frame of its transmit slot. -/
theorem craneLine_frame (s : State) (c : Crane) :
    s.craneLine c = (s.slot c).transmit.map (fun p => frameOctets 0x31#8 (permitFrame p)) := by
  rw [State.craneLine, show permitPayload = permitFrame from funext permitPayload_eq]
  rfl

/-- Settles O18: the levels of a line are those of its frame's octets, hearing undoes them, a frame's first part is stored
until the rest of it comes, and each layout is the model's own written out. -/
theorem linesCarryOctets : Obligations.LinesCarryOctets := by
  exact ⟨fun s => ⟨fun c => carriesLine_lineLevel _, carriesLine_lineLevel _, fun c octets => craneLine_length⟩,
    fun xs tail => octetsHeard_spoken xs, fun s l kind payload f xs ys => hearLevels_two_parts,
    fun s => ⟨craneLine_frame s, siteLine_frames s⟩,
    fun c kind n => ⟨acceptsKind_linkOf c kind, acceptsKind_siteLink kind, lengthIsError_linkOf c kind n,
      lengthIsError_siteLink kind n⟩,
    fun c seq status tag operation w x y z operands => ⟨readPayload_motion c seq status w x y z,
      readPayload_wind c seq status w, readPayload_demand c seq w x y, readPayload_request tag operation operands⟩,
    fun octets kind payload => ⟨crcOf_eq octets, frameOctets_eq kind payload⟩,
    fun n => ⟨octet1_reads, octet2_reads, octet4_reads⟩, fun i => signed2_reads⟩

end Sys2Proof.Machine
end
